-- ==== Sys2Proof/Word.lean ====
section
/-!
DEFINITION. The plainest data of the ZW-4 model: the byte, text, and a fixed number of like things.
A bit vector stands only for what the manual treats as bits or as a count that wraps (a byte of a
frame, an entry mark, a revision); every other count is a `Nat`, every mass an `Int`.
-/

namespace Sys2Proof

/-- One byte of a service-port frame. -/
abbrev Byte := BitVec 8

/-- A text field: its characters as bytes (Conventions, "Frames and text": text fields are ASCII). -/
abbrev Text := List Byte

/-- Change one of `n` like things. -/
def upd {α : Type} {n : Nat} (v : Vector α n) (i : Fin n) (f : α → α) : Vector α n :=
  v.set i (f v[i])

/-- Change each of `n` like things. -/
def vmap {α β : Type} {n : Nat} (f : α → β) (v : Vector α n) : Vector β n :=
  ⟨⟨v.toList.map f⟩, by simp⟩

/-- `n` things made from their numbers. -/
def vgen {α : Type} {n : Nat} (f : Fin n → α) : Vector α n :=
  ⟨⟨(List.finRange n).map f⟩, by simp⟩

/-- `n` equal things. -/
def vrep {α : Type} (n : Nat) (a : α) : Vector α n :=
  ⟨⟨List.replicate n a⟩, by simp⟩

end Sys2Proof
end

