-- ==== Sys2Proof/Syntax.lean ====
section
/-!
DEFINITION. The commands of the ZW-4: one constructor of `Instr` for each row of
spec/opcode_table.json, with the operands the spec gives it. A request carries the port it arrived
on, its tag and whether its body has the form of its kind (R175); an event carries what the outside
decides about it (a conversion's counts, a beam's raw state, a printer's answer).

A field of a request that NAMES A CHOICE (a kind, a test, a printer) is a `Choice`: `none` is a code
that names no choice, which the owners refuse BAD_FIELD.
-/

namespace Sys2Proof

/-! ### Names used by operands -/

/-- The three service ports, by role (section 10.1). -/
inductive Port where
  | console | office | inspection
  deriving DecidableEq, Repr

/-- What the port unit knows of a request frame beside its fields (R172, R175). -/
structure Header where
  port : Port
  /-- chosen by the master, returned in the reply (R176) -/
  tag : Byte
  /-- whether the body's length matches the form of the kind (R175) -/
  formOk : Bool
  deriving DecidableEq, Repr

/-- A carried code that names a choice, or none when the code names no choice. -/
abbrev Choice (α : Type) := Option α

/-- Deck 1 is `0`, deck 4 is `3`. -/
abbrev DeckId := Fin 4

/-- Cell 1 to 4 of a deck. -/
abbrev CellId := Fin 4

/-- Boundary 0 (end A) to 4. -/
abbrev Boundary := Fin 5

/-- End A or end B of the bridge; also printer A or B. -/
inductive BridgeEnd where
  | a | b
  deriving DecidableEq, Repr

/-- The two beams of a pair (section 3.1). -/
inductive Beam where
  | u | d
  deriving DecidableEq, Repr

/-- The raw and decoder states of a beam pair (section 3.1). -/
inductive BeamState where
  | clear | u | both | d
  deriving DecidableEq, Repr

/-- The eight deck states (section 2.2). -/
inductive DeckMode where
  | settling | empty | steady | motion | noise | overload | underload | noSignal
  deriving DecidableEq, Repr

/-- The kinds of order (R60). -/
inductive OrderKind where
  | firstWeigh | secondWeigh | storedTare | axleSurvey | check
  deriving DecidableEq, Repr

/-- The kinds of axle group (R83). -/
inductive GroupKind where
  | single | tandem | triaxle | quad
  deriving DecidableEq, Repr

/-- A group as SET_CLASS carries it (R84). -/
structure GroupBody where
  firstAxle : Nat
  axles : Nat
  kind : Choice GroupKind
  permitted : Nat
  deriving DecidableEq, Repr

/-- A class entry as SET_CLASS carries it (R84). -/
structure ClassBody where
  name : Text
  axleCount : Nat
  groups : List GroupBody
  grossLimit : Nat
  deriving DecidableEq, Repr

inductive VisitKind where
  | receival | outload
  deriving DecidableEq, Repr

inductive VisitState where
  | opened | firstDone | closed | void
  deriving DecidableEq, Repr

/-- The part READ_VISIT names (R109). -/
inductive VisitPart where
  | record | summary | held
  deriving DecidableEq, Repr

/-- The filter of LIST_VISITS (R109). -/
inductive VisitFilter where
  | any
  | only (state : VisitState)
  deriving DecidableEq, Repr

/-- What READ_TARES carries: a plate, or a start position in writing order (R116). -/
inductive TareSelect where
  | plate (p : Text)
  | start (n : Nat)
  deriving DecidableEq, Repr

/-- The two watch channels (chapter 8). -/
inductive WatchChannel where
  | w1 | w2
  deriving DecidableEq, Repr

inductive WatchField where
  | net | gross | tare | tareDeviation | groupExcess | grossExcess
  deriving DecidableEq, Repr

inductive WatchTest where
  | above | below | outside
  deriving DecidableEq, Repr

inductive TicketKind where
  | first | final
  deriving DecidableEq, Repr

/-- A kind filter: FIRST, FINAL or ANY (R136). -/
inductive KindFilter where
  | any
  | only (kind : TicketKind)
  deriving DecidableEq, Repr

inductive WatchAction where
  | hold | mark
  deriving DecidableEq, Repr

inductive WatchMode where
  | independent | sequential
  deriving DecidableEq, Repr

/-- A channel configuration as SET_WATCH carries it; a filter of `none` is ANY (R136). -/
structure WatchBody where
  enabled : Bool
  field : Choice WatchField
  test : Choice WatchTest
  value : Nat
  band : Nat
  commodity : Option Byte
  cls : Option Nat
  kind : Choice KindFilter
  action : Choice WatchAction
  deriving DecidableEq, Repr

/-- The target of SET_WATCH (R136, R137). -/
inductive WatchTarget where
  | channel (c : WatchChannel) (cfg : WatchBody)
  | mode (m : Choice WatchMode)
  deriving DecidableEq, Repr

/-- The legal parameters by name and scope (R149). -/
inductive ParamId where
  | decks | interval | capacity
  | maxD (d : DeckId)
  | zero (d : DeckId) (c : CellId)
  | factor (d : DeckId) (c : CellId)
  | shuntD (d : DeckId) (c : CellId)
  | shuntTol (d : DeckId) (c : CellId)
  | window | stabBand | emptyBand | period | threshold
  deriving DecidableEq, Repr

/-- One write of SET_LEGAL (R151). -/
structure LegalWrite where
  param : Choice ParamId
  value : Int
  deriving DecidableEq, Repr

/-- The values of the legal parameters (R149). They are whole numbers without a bound, because a
failed legal region check leaves values that lie outside their ranges in force (R185, R186). -/
structure LegalParams where
  /-- N -/
  decks : Int
  /-- e, kg -/
  interval : Int
  /-- Cap, kg -/
  capacity : Int
  /-- Max_d, kg -/
  maxD : Vector Int 4
  /-- z, counts -/
  zero : Vector (Vector Int 4) 4
  /-- k, mg per count -/
  factor : Vector (Vector Int 4) 4
  /-- D, counts -/
  shuntD : Vector (Vector Int 4) 4
  /-- shunt tolerance, ppm -/
  shuntTol : Vector (Vector Int 4) 4
  /-- S, samples -/
  window : Int
  stabBand : Int
  emptyBand : Int
  period : Int
  threshold : Int
  deriving DecidableEq, Repr

/-- The legal region as it reads back at a restart (R185): the parameters, the calibration counter
and the check value. -/
structure LegalRead where
  params : LegalParams
  counter : Nat
  check : Nat
  deriving DecidableEq, Repr

/-- The position of a TEST_LOAD (R160). -/
inductive Position where
  | centre
  | corner (i : CellId)
  deriving DecidableEq, Repr

/-- The mode SET_SHUNT_MODE carries; the period is a field of its own (R164). -/
inductive ShuntModeName where
  | off | oneShot | periodic
  deriving DecidableEq, Repr

/-- An answer to a print message, or one that arrived garbled (R127). -/
inductive PrintReply where
  | accept | busy | noPaper | fault | garbled
  deriving DecidableEq, Repr

/-- An answer to a status query, or one that arrived garbled (R127). -/
inductive QueryReply where
  | ready | busy | noPaper | fault | garbled
  deriving DecidableEq, Repr

/-- The adjustment switch (R153): PROTECTED or OPEN. -/
inductive SwitchLevel where
  | shut | opened
  deriving DecidableEq, Repr

/-- The durable steps of a restart (R187, steps 1 to 3). -/
inductive RestartStep where
  | restore | metrology | journal
  deriving DecidableEq, Repr

/-- A second assertion of the reset line, or a loss of power, that falls during a restart when its
durable steps up to `done` have been made (R183). -/
structure RestartCut where
  done : RestartStep
  powerLost : Bool
  deriving DecidableEq, Repr

/-- What the outside decides about a restart: the legal region as it reads back, or none for as its
last durable step left it (R185), and what interrupts it, or none (R183). -/
structure RestartRun where
  asRead : Option LegalRead
  cut : Option RestartCut
  deriving DecidableEq, Repr

/-- Why a frame is discarded (R173, R174). -/
inductive DiscardCause where
  | badLength | framingError | badCrc | duringAnswer
  deriving DecidableEq, Repr

/-- One conversion of the four cells of a deck: the counts, and whether the excitation sensed at
each cell lay inside its sense window (R2, R3). The window is fixed by the front end's design, so
its outcome comes with the conversion. -/
structure Conversion where
  raw : Vector Int 4
  sense : Vector Bool 4
  deriving DecidableEq, Repr

/-! ### The commands -/

/-- One constructor per row of spec/opcode_table.json, in the table's order. -/
inductive Instr where
  -- requests to the port unit (chapter 10)
  | readEvents (h : Header)
  | clearEvents (h : Header) (list : List (Nat × Nat))
  | setEventMask (h : Header) (mask : Vector Bool 9)
  | readFault (h : Header) (port : Nat)
  | clearFault (h : Header)
  | resetPort (h : Header)
  | readPort (h : Header) (port : Nat)
  | setPortRate (h : Header) (port code : Nat)
  | unknownRequest (h : Header) (code : Byte)
  -- chapters 1 to 3
  | readCells (h : Header) (deck : Nat)
  | readDecks (h : Header) (deck : Nat)
  | clearDeckHistory (h : Header) (deck : Nat) (list : List (Choice DeckMode × BitVec 32))
  | zero (h : Header) (deck : Nat)
  | readAxles (h : Header)
  | setBeamFilter (h : Header) (ms : Nat)
  -- chapter 4
  | stageOrder (h : Header) (visit : Nat) (kind : Choice OrderKind) (storeTare auto : Bool)
      (cls : Option Nat)
  | cancelOrder (h : Header) (visit : Nat)
  | capture (h : Header)
  | finishSurvey (h : Header)
  | readOrders (h : Header)
  | setCapture (h : Header) (window delay : Nat)
  -- chapter 5
  | readClass (h : Header) (code : Nat)
  | setClass (h : Header) (code : Nat) (body : ClassBody)
  | deleteClass (h : Header) (code : Nat)
  | readGroups (h : Header)
  | setAxleCheck (h : Header) (axleTol consTol : Nat)
  -- chapter 6
  | openVisit (h : Header) (plate : Text) (kind : Choice VisitKind) (cls : Nat) (commodity : Byte)
      (grade : Text)
  | amendVisit (h : Header) (visit : Nat) (revision : BitVec 16) (plate : Option Text)
      (commodity : Option Byte) (grade : Option Text) (cls : Option Nat)
  | voidVisit (h : Header) (visit : Nat) (revision : BitVec 16)
  | removeVisit (h : Header) (visit : Nat)
  | readVisit (h : Header) (visit : Nat) (part : Choice VisitPart)
  | listVisits (h : Header) (filter : Choice VisitFilter) (start : Nat)
  | storeTare (h : Header) (visit : Nat)
  | deleteTare (h : Header) (plate : Text)
  | readTares (h : Header) (sel : TareSelect)
  | setTareRules (h : Header) (validity uses : Nat)
  -- chapter 7
  | readTicket (h : Header) (number : Nat)
  | reprint (h : Header) (number : Nat) (printer : Choice BridgeEnd)
  | readPrinters (h : Header)
  | setPrinting (h : Header) (copy : Choice Bool) (interval limit : Nat)
  -- chapter 8
  | readWatch (h : Header)
  | setWatch (h : Header) (target : Choice WatchTarget)
  | clearWatchFlags (h : Header) (list : List (Choice WatchChannel × BitVec 16))
  | releaseHold (h : Header) (visit : Nat)
  | rejectHold (h : Header) (visit : Nat)
  -- chapter 9
  | readMetrology (h : Header) (deck : Nat)
  | readSession (h : Header)
  | openSession (h : Header)
  | closeSession (h : Header)
  | setLegal (h : Header) (writes : List LegalWrite)
  | setCellFactor (h : Header) (channel : Nat) (k z : Int)
  | testZero (h : Header) (deck : Nat)
  | testLoad (h : Header) (deck ref : Nat) (position : Choice Position)
  | adjustZero (h : Header) (deck : Nat)
  | adjustSpan (h : Header) (deck ref : Nat)
  | recordShuntRef (h : Header) (deck : Nat)
  | certifyDeck (h : Header) (deck : Nat)
  | setShuntMode (h : Header) (deck : Nat) (mode : Choice ShuntModeName) (period : Nat)
  | readLog (h : Header) (start : Nat)
  | releaseLog (h : Header) (seq lost rejected : Nat)
  -- chapter 11
  | readClock (h : Header)
  | setClock (h : Header) (day sec : Nat)
  -- events of the service lines (chapter 10)
  | frameDiscarded (port : Port) (cause : DiscardCause)
  | byteGapTimeout (port : Port)
  | replySent (port : Port)
  | lineBreak (port : Port)
  -- samples, and the samples in which a named step comes about (chapters 1, 2, 4)
  | deckSample (deck : DeckId) (conv : Conversion)
  | zeroDeadlineExpired (deck : DeckId) (conv : Conversion)
  | zeroTrackingMove (deck : DeckId) (conv : Conversion)
  | autoCaptureStart (conv : Conversion)
  | captureWindowEnd (deck : DeckId) (conv : Conversion)
  -- beams (chapter 3)
  | beamRawChange (boundary : Boundary) (raw : BeamState)
  | filterTimeExpired (boundary : Boundary)
  | stuckBeam (boundary : Boundary) (beam : Beam)
  -- printer lines (chapter 7)
  | printAnswer (printer : BridgeEnd) (answer : PrintReply)
  | printerAnswerTimeout (printer : BridgeEnd)
  | retryWaitExpired (printer : BridgeEnd)
  | offlineQueryDue (printer : BridgeEnd)
  | statusAnswer (printer : BridgeEnd) (answer : QueryReply)
  -- metrology (chapter 9)
  | switchChange (level : SwitchLevel)
  | sessionExpiry
  | testCaptureEnd (deck : DeckId) (conv : Conversion)
  | adjustZeroEnd (deck : DeckId) (conv : Conversion)
  | adjustSpanEnd (deck : DeckId) (conv : Conversion)
  | shuntPhaseEnd (deck : DeckId) (conv : Conversion)
  -- clock, restart (chapter 11) and the start of a frame (R173)
  | dayRollover
  | resetAsserted (powerLost : Bool)
  | restart (batteryFailed : Bool) (run : RestartRun)
  | frameSyncReceived (port : Port)
  deriving DecidableEq, Repr

end Sys2Proof
end

