-- ==== Sys2Proof/Decode.lean ====
section
/-!
DEFINITION. Words of the opcode table. No row of spec/opcode_table.json gives bits: the commands of the
ZW-4 are requests, whose field sizes within a frame the spec does not give, and events.
-/

namespace Sys2Proof

/-- The command a table word spells: no row gives bits, so no word spells one. -/
def decodeTableWord (_nbits _w : Nat) : Option Instr := none

end Sys2Proof
end

