-- ==== Sys2Proof/Machine/Arith.lean ====
section
/-!
DEFINITION. Exact whole-number arithmetic with the roundings of the spec (Conventions, "Rounding";
R14, R72, R93, R162), clamping (Conventions, "Parameter classes") and saturation.
-/

namespace Sys2Proof.Machine

/-- `a / b` to the nearest whole number, ties away from zero (Conventions, "Rounding"), for `0 < b`. -/
def roundDiv (a b : Int) : Int :=
  if 0 ≤ a then (2 * a + b) / (2 * b) else -((2 * -a + b) / (2 * b))

/-- `a / b` to the nearest whole number, ties up (R162), for `0 < b`. -/
def roundTiesUp (a b : Int) : Int := (2 * a + b) / (2 * b)

/-- The multiple of `m` nearest to `a`, ties away from zero (R72). -/
def roundTo (a m : Int) : Int := roundDiv a m * m

/-- `a` raised to the next multiple of `m` when it is not one already (R93). -/
def raiseTo (a m : Int) : Int := (a + m - 1) / m * m

/-- The nearest limit of a quantity out of range (Conventions, "Parameter classes"). -/
def clamp (lo hi v : Nat) : Nat := if v < lo then lo else if hi < v then hi else v

/-- A count that stops at its upper limit (Conventions, "Units and ranges"). -/
def satInc (limit n : Nat) : Nat := if limit ≤ n then limit else n + 1

end Sys2Proof.Machine
end

