-- ==== Sys2Proof/Machine/Frames.lean ====
section
/-!
DEFINITION. The frame layout of the service ports (R172, R173) and the table of kind codes and
permissions (section 10.3).
-/

namespace Sys2Proof.Machine

/-! ### CRC and frames -/

/-- One shift of the CRC register: a 1 out of the top bit brings an exclusive-or with 1021h (R172). -/
def crcShift (r : BitVec 16) : BitVec 16 :=
  if r.msb then (r <<< 1) ^^^ 0x1021#16 else r <<< 1

/-- One byte placed into the upper half of the register, then eight shifts (R172). -/
def crcByte (r : BitVec 16) (b : Byte) : BitVec 16 :=
  let r0 := r ^^^ (b ++ (0#8 : BitVec 8))
  crcShift (crcShift (crcShift (crcShift (crcShift (crcShift (crcShift (crcShift r0)))))))

/-- The CRC over the length, tag, kind code and body bytes (R172). -/
def crc16 (bytes : List Byte) : BitVec 16 := bytes.foldl crcByte 0xFFFF#16

/-- The sync byte (R172). -/
def syncByte : Byte := 0xA5#8

/-- The bytes of a frame: sync, length, tag, kind code, body, CRC (R172). -/
def frameBytes (tag kind : Byte) (body : List Byte) : List Byte :=
  let covered := BitVec.ofNat 8 (body.length + 2) :: tag :: kind :: body
  let crc := crc16 covered
  syncByte :: covered ++ [crc.extractLsb' 8 8, crc.extractLsb' 0 8]

/-- What the receiver finds of the bytes that follow a sync (R173). -/
inductive FrameFinding where
  | incomplete
  | badLength
  | badCrc
  | taken (tag kind : Byte) (body : List Byte)
  deriving DecidableEq, Repr

/-- Read the bytes after a sync as a frame (R173). -/
def readFrame : List Byte → FrameFinding
  | [] => .incomplete
  | len :: rest =>
    let n := len.toNat
    if n < 2 ∨ 250 < n then .badLength
    else if rest.length < n + 2 then .incomplete
    else
      match rest.take n, (rest.drop n).take 2 with
      | tag :: kind :: body, [hi, lo] =>
        if crc16 (len :: rest.take n) = hi ++ lo then .taken tag kind body else .badCrc
      | _, _ => .badLength

/-! ### Kind codes and permissions -/

/-- The requests of section 10.3. -/
inductive ReqKind where
  | readEvents | clearEvents | setEventMask | readFault | clearFault | resetPort | readPort
  | setPortRate | readCells | readDecks | clearDeckHistory | zero | readAxles | setBeamFilter
  | stageOrder | cancelOrder | capture | finishSurvey | readOrders | setCapture | readClass
  | setClass | deleteClass | readGroups | setAxleCheck | openVisit | amendVisit | voidVisit
  | removeVisit | readVisit | listVisits | storeTare | deleteTare | readTares | setTareRules
  | readTicket | reprint | readPrinters | setPrinting | readWatch | setWatch | clearWatchFlags
  | releaseHold | rejectHold | readMetrology | readSession | openSession | closeSession | setLegal
  | setCellFactor | testZero | testLoad | adjustZero | adjustSpan | recordShuntRef | certifyDeck
  | setShuntMode | readLog | releaseLog | readClock | setClock
  deriving DecidableEq, Repr

/-- The table of section 10.3: for each request its kind code and whether the console, the office and
the inspection port may send it. -/
def ReqKind.row : ReqKind → Byte × Bool × Bool × Bool
  | .readEvents => (0x01#8, true, true, true)
  | .clearEvents => (0x02#8, true, true, true)
  | .setEventMask => (0x03#8, true, true, true)
  | .readFault => (0x04#8, true, true, true)
  | .clearFault => (0x05#8, true, true, true)
  | .resetPort => (0x06#8, true, true, true)
  | .readPort => (0x07#8, true, true, true)
  | .setPortRate => (0x08#8, true, true, false)
  | .readCells => (0x10#8, true, true, true)
  | .readDecks => (0x11#8, true, true, true)
  | .clearDeckHistory => (0x12#8, true, true, true)
  | .zero => (0x13#8, true, false, false)
  | .readAxles => (0x18#8, true, true, true)
  | .setBeamFilter => (0x19#8, true, true, false)
  | .stageOrder => (0x20#8, true, false, false)
  | .cancelOrder => (0x21#8, true, false, false)
  | .capture => (0x22#8, true, false, false)
  | .finishSurvey => (0x23#8, true, false, false)
  | .readOrders => (0x24#8, true, true, true)
  | .setCapture => (0x25#8, true, true, false)
  | .readClass => (0x28#8, true, true, true)
  | .setClass => (0x29#8, false, true, false)
  | .deleteClass => (0x2A#8, false, true, false)
  | .readGroups => (0x2B#8, true, true, true)
  | .setAxleCheck => (0x2C#8, false, true, false)
  | .openVisit => (0x30#8, true, true, false)
  | .amendVisit => (0x31#8, true, true, false)
  | .voidVisit => (0x32#8, false, true, false)
  | .removeVisit => (0x33#8, false, true, false)
  | .readVisit => (0x34#8, true, true, true)
  | .listVisits => (0x35#8, true, true, true)
  | .storeTare => (0x38#8, false, true, false)
  | .deleteTare => (0x39#8, false, true, false)
  | .readTares => (0x3A#8, true, true, true)
  | .setTareRules => (0x3B#8, false, true, false)
  | .readTicket => (0x40#8, true, true, true)
  | .reprint => (0x41#8, true, true, false)
  | .readPrinters => (0x42#8, true, true, true)
  | .setPrinting => (0x43#8, true, true, false)
  | .readWatch => (0x48#8, true, true, true)
  | .setWatch => (0x49#8, false, true, false)
  | .clearWatchFlags => (0x4A#8, true, true, true)
  | .releaseHold => (0x4B#8, false, true, true)
  | .rejectHold => (0x4C#8, false, true, true)
  | .readMetrology => (0x50#8, true, true, true)
  | .readSession => (0x51#8, true, true, true)
  | .openSession => (0x52#8, false, false, true)
  | .closeSession => (0x53#8, false, false, true)
  | .setLegal => (0x54#8, false, false, true)
  | .setCellFactor => (0x55#8, false, false, true)
  | .testZero => (0x56#8, false, false, true)
  | .testLoad => (0x57#8, false, false, true)
  | .adjustZero => (0x58#8, false, false, true)
  | .adjustSpan => (0x59#8, false, false, true)
  | .recordShuntRef => (0x5A#8, false, false, true)
  | .certifyDeck => (0x5B#8, false, false, true)
  | .setShuntMode => (0x5C#8, true, true, false)
  | .readLog => (0x5D#8, false, true, true)
  | .releaseLog => (0x5E#8, false, false, true)
  | .readClock => (0x60#8, true, true, true)
  | .setClock => (0x61#8, false, true, false)

/-- The requests that change the visit table unit's retained state (chapter 6). -/
def ReqKind.changesVisits : ReqKind → Bool
  | .openVisit | .amendVisit | .voidVisit | .removeVisit | .storeTare | .deleteTare
  | .setTareRules => true
  | _ => false

/-- Every request, in the table's order. -/
def ReqKind.all : List ReqKind :=
  [.readEvents, .clearEvents, .setEventMask, .readFault, .clearFault, .resetPort, .readPort,
   .setPortRate, .readCells, .readDecks, .clearDeckHistory, .zero, .readAxles, .setBeamFilter,
   .stageOrder, .cancelOrder, .capture, .finishSurvey, .readOrders, .setCapture, .readClass,
   .setClass, .deleteClass, .readGroups, .setAxleCheck, .openVisit, .amendVisit, .voidVisit,
   .removeVisit, .readVisit, .listVisits, .storeTare, .deleteTare, .readTares, .setTareRules,
   .readTicket, .reprint, .readPrinters, .setPrinting, .readWatch, .setWatch,
   .clearWatchFlags, .releaseHold, .rejectHold, .readMetrology, .readSession, .openSession,
   .closeSession, .setLegal, .setCellFactor, .testZero, .testLoad, .adjustZero, .adjustSpan,
   .recordShuntRef, .certifyDeck, .setShuntMode, .readLog, .releaseLog, .readClock, .setClock]

/-- The kind code of a request. -/
def ReqKind.code (k : ReqKind) : Byte := k.row.1

/-- Whether the table permits the request on the port. -/
def ReqKind.permitted (k : ReqKind) : Port → Bool
  | .console => k.row.2.1
  | .office => k.row.2.2.1
  | .inspection => k.row.2.2.2

/-- The request a kind code names, none for an unknown code. -/
def kindOfCode (c : Byte) : Option ReqKind := ReqKind.all.find? (fun k => k.code == c)

/-- The requests whose NOT_PERMITTED refusal the metrology unit counts (R151, R175). -/
def ReqKind.countsRejection : ReqKind → Bool
  | .setLegal | .setCellFactor | .adjustZero | .adjustSpan | .recordShuntRef => true
  | _ => false

end Sys2Proof.Machine
end

