-- ==== Sys2Proof/Config.lean ====
section
/-!
DEFINITION. What an installation fixes and the spec does not give.
-/

namespace Sys2Proof.Config

/-- The check value computed over the legal parameters and the calibration counter (R184, R185). The
spec says that it is computed over the whole region and does not give the computation, so nothing in
the model knows a value of it (notes/assumptions/1.md). -/
opaque legalCheck : LegalParams → Nat → Nat

end Sys2Proof.Config
end

