-- ==== Sys2Proof/Machine/State.lean ====
section
/-!
DEFINITION. The state of the ZW-4: every piece the spec gives it, grouped by the block that owns it
(00_scope.md, "Blocks and how they work together"), with the queue of waiting commands and the
machine right after reset. Plain data throughout.

A field that the retained store keeps over a restart (section 11.2) says so; every other field is
volatile. A restart keeps the retained fields as they stand, because each command is one durable step
(R184).
-/

namespace Sys2Proof.Machine

/-! ### The reasons a step can stop -/

/-- No command of the ZW-4 stops it: whatever a request lacks is answered by a refusal code in a
reply, and an event that cannot be is without effect. The type has no constructor. -/
inductive Fault where
  deriving DecidableEq, Repr

inductive Refusal where
  /-- Raised by `exec` alone, for a row of the table that has no meaning yet (safe: the machine stops
  where the hardware goes on). No arm raises it. -/
  | notModelled (mnemonic : String)
  deriving DecidableEq, Repr

/-! ### Time stamps -/

/-- Day number and seconds of day (Conventions, "Units and ranges"). -/
structure Stamp where
  day : Nat
  sec : Nat
  deriving DecidableEq, Repr

/-! ### Cell front end (chapter 1) -/

/-- R3. -/
inductive Condition where
  | ok | saturated | noExcitation
  deriving DecidableEq, Repr

/-- One cell channel. -/
structure Channel where
  /-- latest raw sample and condition (R3); absent before the first conversion (R16, R17) -/
  latest : Option (Int × Condition)
  /-- shunt switch, ON when true (R6) -/
  shunt : Bool
  /-- error tally 0..65535, saturating (R5) -/
  tally : Nat
  /-- pin: excitation applied (R1, R183) -/
  excited : Bool
  deriving DecidableEq, Repr

/-- The four channels of one deck, with its error budget. -/
structure FrontEnd where
  cells : Vector Channel 4
  /-- error budget (R8); retained -/
  budget : Nat
  /-- whether the latest sample record was valid (R4, R16); absent before the first -/
  lastValid : Option Bool
  deriving DecidableEq, Repr

/-! ### Deck monitors (chapter 2) -/

/-- Section 2.1. -/
structure Deck where
  /-- W, g; absent until the first valid, unshunted sample (R19) -/
  gross : Option Int
  /-- T, g -/
  zeroOffset : Int
  zeroSet : Bool
  powerUpSpent : Bool
  zeroLimit : Bool
  mode : DeckMode
  /-- EMPTY, STEADY or none (R29) -/
  lastSettled : Option DeckMode
  /-- the G of the latest valid, unshunted samples, oldest first (R20) -/
  window : List Int
  /-- reference level, g (R25) -/
  reference : Option Int
  overRun : Nat
  underRun : Nat
  settledRun : Nat
  motionCount : Nat
  trackRun : Nat
  /-- pending ZERO with the samples left of its deadline (R37) -/
  pendingZero : Option Nat
  /-- state history set: the entry mark of each member, by state number (R32) -/
  history : Vector (Option (BitVec 32)) 8
  entryNumber : BitVec 32
  /-- shunt hold (R30) -/
  hold : Bool
  deriving DecidableEq, Repr

/-! ### Axle sensor unit (chapter 3) -/

inductive StartBeam where
  | u | d | unknown
  deriving DecidableEq, Repr

/-- Section 3.1. -/
structure Pair where
  /-- the beam inputs as they stand -/
  raw : BeamState
  /-- decoder state; none while not yet known (R42) -/
  decoder : Option BeamState
  start : StartBeam
  errors : Nat
  stuckU : Bool
  stuckD : Bool
  /-- blocked times in ms, 0..120000 (R46) -/
  blockedU : Nat
  blockedD : Nat
  /-- the running persistence time in ms, none when none runs (R42) -/
  persist : Option Nat
  deriving DecidableEq, Repr

/-- Crossing and pass directions. -/
inductive Direction where
  | forward | reverse
  deriving DecidableEq, Repr

structure Axle where
  index : Nat
  deck : DeckId
  deriving DecidableEq, Repr

/-- Section 3.3; the per-deck counts are read from the list. -/
structure AxleMap where
  valid : Bool
  /-- pass direction, none for NONE -/
  direction : Option Direction
  /-- from the front of the vehicle to its back -/
  list : List Axle
  departed : Nat
  deriving DecidableEq, Repr

structure AxleUnit where
  pairs : Vector Pair 5
  map : AxleMap
  /-- beam filter time, ms (R43); retained -/
  filter : Nat
  deriving DecidableEq, Repr

/-! ### Vehicle classes and axle groups (chapter 5) -/

/-- R83. -/
structure Group where
  firstAxle : Nat
  axles : Nat
  kind : GroupKind
  permitted : Nat
  deriving DecidableEq, Repr

structure ClassEntry where
  name : Text
  axleCount : Nat
  groups : List Group
  grossLimit : Nat
  deriving DecidableEq, Repr

inductive Verdict where
  | unresolved | within | over
  deriving DecidableEq, Repr

structure GroupResult where
  /-- resolved mass, kg, with the stop number it was taken at -/
  mass : Option (Int × Nat)
  verdict : Verdict
  /-- kg -/
  excess : Option Int
  deriving DecidableEq, Repr

structure Combined where
  /-- group numbers -/
  first : Nat
  last : Nat
  mass : Int
  stop : Nat
  verdict : Verdict
  excess : Option Int
  deriving DecidableEq, Repr

/-- R94; the difference is given when the check was made. -/
inductive Consistency where
  | notTested
  | consistent (difference : Int)
  | inconsistent (difference : Int)
  deriving DecidableEq, Repr

/-- R95. -/
inductive GrossVerdict where
  | notTested | within
  | over (excess : Int)
  deriving DecidableEq, Repr

/-- Section 5.3. -/
structure GroupTable where
  /-- class code with the copy of its entry -/
  cls : Option (Nat × ClassEntry)
  groups : List GroupResult
  combined : List Combined
  /-- I of the latest whole-vehicle stop, kg, with its stop number -/
  indication : Option (Int × Nat)
  consistency : Consistency
  gross : GrossVerdict
  allResolved : Bool
  stopsHandled : Nat
  deriving DecidableEq, Repr

/-- The summary of R96. -/
structure AxleSummary where
  cls : Option Nat
  /-- verdict, resolved mass, excess, in group order -/
  groups : List (Verdict × Option Int × Option Int)
  /-- first, last, mass, verdict, excess -/
  combined : List (Nat × Nat × Int × Verdict × Option Int)
  indication : Option Int
  consistency : Consistency
  gross : GrossVerdict
  largestExcess : Int
  deriving DecidableEq, Repr

structure AxleCheck where
  /-- class table, place `i` for code `i + 1` (R83); retained -/
  classes : Vector (Option ClassEntry) 32
  /-- percent (R87); retained -/
  axleTol : Nat
  /-- tenths of a percent (R87); retained -/
  consTol : Nat
  table : GroupTable
  deriving DecidableEq, Repr

/-! ### Visits and stored tares (chapter 6), tickets (chapter 7) -/

inductive Role where
  | gross | tare
  deriving DecidableEq, Repr

inductive Source where
  | captured | stored
  deriving DecidableEq, Repr

/-- A weighing record (R100). -/
structure Weighing where
  mass : Int
  role : Role
  source : Source
  time : Stamp
  ticket : Option Nat
  due : Bool
  notForTrade : Bool
  cal : Nat
  deriving DecidableEq, Repr

/-- The marks of a ticket (R122, R123). -/
structure Marks where
  due : Bool
  notForTrade : Bool
  w1 : Bool
  w2 : Bool
  released : Bool
  deriving DecidableEq, Repr

/-- The masses of a ticket with their weighing times (R122). -/
inductive TicketMasses where
  | first (mass : Int) (role : Role) (time : Stamp)
  | final (gross tare net : Int) (tareSource : Source) (grossTime tareTime : Stamp)
  deriving DecidableEq, Repr

/-- What a ticket carries from the capture on, fixed at the weighing step (R122, R144). -/
structure TicketContent where
  kind : TicketKind
  visit : Nat
  visitKind : VisitKind
  plate : Text
  commodity : Byte
  grade : Text
  cls : Option Nat
  masses : TicketMasses
  summary : AxleSummary
  marks : Marks
  cal : Nat
  exit : BridgeEnd
  storeTare : Bool
  deriving DecidableEq, Repr

/-- The held ticket content (R144). -/
structure HeldTicket where
  content : TicketContent
  holdsW1 : Bool
  holdsW2 : Bool
  timeHeld : Stamp
  deriving DecidableEq, Repr

/-- R100. -/
structure Visit where
  number : Nat
  plate : Text
  kind : VisitKind
  cls : Option Nat
  commodity : Byte
  /-- absent when empty -/
  grade : Text
  state : VisitState
  first : Option Weighing
  second : Option Weighing
  net : Option Int
  summary : Option AxleSummary
  held : Option HeldTicket
  w1 : Bool
  w2 : Bool
  revision : BitVec 16
  openedAt : Stamp
  deriving DecidableEq, Repr

/-- R114. -/
structure TareEntry where
  plate : Text
  tare : Int
  day : Nat
  uses : Nat
  deriving DecidableEq, Repr

/-- The fields an AMEND_VISIT carries (R106). -/
structure Amendment where
  plate : Option Text
  commodity : Option Byte
  grade : Option Text
  cls : Option Nat
  deriving DecidableEq, Repr

/-- The model's own (R118): a change of the visit table unit's retained state, with what it carries. -/
inductive VisitChange where
  /-- a visit entered (R103) -/
  | opened (v : Visit)
  /-- R106 -/
  | amended (number : Nat) (a : Amendment)
  /-- R107 -/
  | voided (number : Nat)
  /-- a visit gone by REMOVE_VISIT (R107) or eviction (R104) -/
  | removed (number : Nat)
  /-- the record of a visit after a weighing step or the end of a hold (R111) -/
  | recorded (v : Visit)
  /-- a survey's axle summary (R112) -/
  | surveyed (number : Nat) (y : AxleSummary)
  /-- a stored tare, with the plate of an entry replaced for lack of room (R115) -/
  | tareWritten (e : TareEntry) (replaced : Option Text)
  /-- R113 -/
  | tareUsed (plate : Text)
  /-- R116 -/
  | tareDeleted (plate : Text)
  /-- SET_TARE_RULES (R116) -/
  | rulesSet (validity uses : Nat)
  /-- no visit and no stored tare, at a change of e (R117) -/
  | cleared
  deriving DecidableEq, Repr

structure VisitUnit where
  /-- visit table in opening order (R101); retained -/
  visits : List Visit
  /-- last visit number assigned (R102); retained -/
  counter : Nat
  /-- stored tare table in writing order (R114); retained -/
  tares : List TareEntry
  /-- days (R116); retained -/
  validity : Nat
  /-- R116; retained -/
  initialUses : Nat
  /-- the model's own: the changes made since the latest restart, the latest last (R118) -/
  made : List VisitChange
  deriving DecidableEq, Repr

/-- R131. -/
inductive PrintState where
  | none | queued | printed | failed | unprinted
  deriving DecidableEq, Repr

/-- A ticket record (R122). -/
structure Ticket where
  number : Nat
  content : TicketContent
  issued : Stamp
  printA : PrintState
  printB : PrintState
  copies : Nat
  deriving DecidableEq, Repr

inductive SlipKind where
  | axleReport | checkSlip
  deriving DecidableEq, Repr

inductive DocTitle where
  | weighbridgeTicket | axleReport | checkSlip
  deriving DecidableEq, Repr

/-- One printed line (section 7.6). -/
inductive PrintField where
  | title (t : DocTitle)
  | copy (number : Nat)
  | ticketNumber (n : Nat)
  | ticketKind (k : TicketKind)
  | visit (number : Nat) (plate : Text) (kind : VisitKind)
  | goods (commodity : Byte) (grade : Text)
  | cls (code : Nat) (name : Option Text)
  | firstMass (mass : Int) (role : Role) (time : Stamp)
  | net (gross tare net : Int) (stored : Bool) (grossTime tareTime : Stamp)
  | indication (i : Int)
  | groupVerdicts (groups : List (Verdict × Option Int × Option Int))
  | combined (records : List (Nat × Nat × Int × Verdict × Option Int))
  | checks (consistency : Consistency) (gross : GrossVerdict)
  | notForTrade
  | marks (due w1 w2 released : Bool)
  | time (t : Stamp)
  | cal (counter : Nat)
  | printer (e : BridgeEnd)
  deriving DecidableEq, Repr

/-- What a job prints: a numbered ticket, or a slip. -/
inductive JobName where
  | ticket (n : Nat)
  | slip (k : SlipKind)
  deriving DecidableEq, Repr

/-- A job on a spool (R126). -/
structure Job where
  name : JobName
  isCopy : Bool
  content : List PrintField
  deriving DecidableEq, Repr

/-- R128. -/
inductive LineState where
  | ready | sending | retryWait | offline
  deriving DecidableEq, Repr

structure PrinterLine where
  state : LineState
  spool : List Job
  retry : Nat
  /-- ms left of the retry wait, or until the next status query in OFFLINE (R129, R130) -/
  waitLeft : Nat
  /-- ms left for the answer to the message outstanding (R127); none when no message is -/
  answerLeft : Option Nat
  deriving DecidableEq, Repr

structure TicketUnit where
  /-- last ticket number issued (R120); retained -/
  counter : Nat
  /-- oldest first (R124); retained -/
  journal : List Ticket
  /-- R133; retained -/
  copyOn : Bool
  /-- s; retained -/
  interval : Nat
  /-- retained -/
  limit : Nat
  lineA : PrinterLine
  lineB : PrinterLine
  deriving DecidableEq, Repr

/-! ### Order controller (chapter 4) -/

/-- R60; visit 0 stands for an order without a visit. -/
structure Order where
  visit : Nat
  kind : OrderKind
  storeTare : Bool
  auto : Bool
  cls : Option Nat
  deriving DecidableEq, Repr

inductive OrderState where
  | waiting | capturing | surveying | complete | held
  deriving DecidableEq, Repr

structure ActiveOrder where
  order : Order
  state : OrderState
  stopsTaken : Nat
  /-- pass direction and marks of the last survey stop (R76) -/
  lastStop : Option (Option Direction × Marks)
  deriving DecidableEq, Repr

/-- One order capture in flight (R69, R70). -/
structure OrderCapture where
  /-- the C it started with -/
  window : Nat
  direction : Option Direction
  /-- the state the order started from -/
  fromState : OrderState
  sums : Vector Int 4
  counts : Vector Nat 4
  deriving DecidableEq, Repr

/-- A stop (R74): per deck its mass in kg and the indices of its front-most and back-most axle. -/
structure Stop where
  decks : Vector (Option (Int × Option (Nat × Nat))) 4
  /-- I when it came from a whole-vehicle capture -/
  whole : Option Int
  deriving DecidableEq, Repr

/-- A lane signal. -/
inductive Lane where
  | go | stop
  deriving DecidableEq, Repr

structure OrderUnit where
  active : Option ActiveOrder
  staged : List Order
  engine : Option OrderCapture
  condRun : Nat
  stops : List Stop
  crossingSince : Bool
  /-- pins: the lane signals (R78) -/
  laneA : Lane
  laneB : Lane
  /-- C (R70); retained -/
  window : Nat
  /-- A (R67); retained -/
  delay : Nat
  deriving DecidableEq, Repr

/-- The causes of the capture conditions (R66) and of a session operation's readiness (R159). -/
inductive NotReady where
  | session | mapInvalid | notAllOn | axleCount | deckFault | zeroNotSet | noise | motion
  | loadWithoutAxle | unverified | notEmpty | notLoaded
  deriving DecidableEq, Repr

/-! ### Watch unit (chapter 8) -/

/-- R136; a filter of none is ANY. -/
structure WatchConfig where
  enabled : Bool
  field : WatchField
  test : WatchTest
  value : Nat
  band : Nat
  commodity : Option Byte
  cls : Option Nat
  kind : KindFilter
  action : WatchAction
  deriving DecidableEq, Repr

/-- The mark and the detail of a set match flag (R143). -/
structure MatchDetail where
  mark : BitVec 16
  visit : Nat
  kind : TicketKind
  value : Int
  action : WatchAction
  deriving DecidableEq, Repr

structure WatchUnit where
  /-- retained -/
  w1 : WatchConfig
  /-- retained -/
  w2 : WatchConfig
  /-- retained -/
  mode : WatchMode
  /-- armed-visit list, oldest first (R142) -/
  armed : List Nat
  /-- match flags, none when clear (R143) -/
  flag1 : Option MatchDetail
  flag2 : Option MatchDetail
  matchNumber : BitVec 16
  deriving DecidableEq, Repr

/-! ### Metrology unit (chapter 9) -/

/-- Verification status (section 9.3). -/
inductive VStatus where
  | verified | due | suspect | unverified
  deriving DecidableEq, Repr

inductive StatusCause where
  | certify | period | budget | zeroLimit | shuntFail | testFail | legalChange | restoreFail
  deriving DecidableEq, Repr

inductive SessionEndCause where
  | closed | expired | portReset | restart
  deriving DecidableEq, Repr

inductive ShuntMode where
  | off | oneShot
  | periodic (period : Nat)
  deriving DecidableEq, Repr

/-- The phases of one cell of a shunt measurement (R165). -/
inductive ShuntPhase where
  | measureOff | settleOn | measureOn | settleOff
  deriving DecidableEq, Repr

/-- A shunt measurement in progress: of a shunt check, or of RECORD_SHUNT_REF. -/
structure ShuntRun where
  forReference : Bool
  cell : CellId
  phase : ShuntPhase
  /-- samples of the phase counted -/
  count : Nat
  offSum : Int
  onSum : Int
  /-- on sum less off sum of the cells done, in cell order -/
  done : List Int
  deriving DecidableEq, Repr

/-- A last shunt result: PASS when true, with D_m (R165). -/
structure ShuntResult where
  pass : Bool
  deflection : Int
  deriving DecidableEq, Repr

inductive TestKind where
  | zero
  | load (ref : Nat) (position : Position)
  deriving DecidableEq, Repr

/-- A row of the test result table (R160); `superseded` is R163's mark. -/
structure TestResult where
  number : Nat
  deck : DeckId
  kind : TestKind
  fine : Int
  error : Int
  /-- MPE in quarters of a kg, so that 0.25e and 1.5e are whole -/
  mpeQuarters : Int
  pass : Bool
  cal : Nat
  superseded : Bool
  deriving DecidableEq, Repr

inductive OpKind where
  | testZero
  | testLoad (ref : Nat) (position : Position)
  | adjustZero
  | adjustSpan (ref : Nat)
  | recordShuntRef
  deriving DecidableEq, Repr

/-- A test capture: the capture of R70 on one deck (R159), and the raw sums of R161. -/
structure TestCapture where
  window : Nat
  count : Nat
  sum : Int
  rawSums : Vector Int 4
  deriving DecidableEq, Repr

/-- A session operation in flight (R159); RECORD_SHUNT_REF measures in the deck's shunt run. -/
structure Operation where
  kind : OpKind
  deck : DeckId
  reserved : Nat
  capture : Option TestCapture
  deriving DecidableEq, Repr

/-- The session record (R157), kept after the session ends until the next opens (R158). -/
structure Session where
  isOpen : Bool
  openedAt : Stamp
  /-- activity time left, ms (R158) -/
  activity : Nat
  op : Option Operation
  results : List TestResult
  deriving DecidableEq, Repr

/-- R168. -/
inductive LogKind where
  | switchOpen | switchClose | sessionOpen
  | sessionEnd (cause : SessionEndCause)
  | paramChange (param : ParamId) (old new : Int)
  | tareTableCleared (removed : Nat)
  | testResult (r : TestResult)
  | certify (results : List Nat)
  | statusChange (old new : VStatus) (cause : StatusCause)
  | shuntFail (cells : List (CellId × Int))
  | clockSet (old new : Stamp)
  | restoreFail
  deriving DecidableEq, Repr

structure LogEntry where
  seq : Nat
  time : Stamp
  kind : LogKind
  cal : Nat
  deck : Option DeckId
  deriving DecidableEq, Repr

structure MetroDeck where
  /-- retained -/
  status : VStatus
  /-- retained -/
  lastVerified : Option Nat
  /-- retained -/
  shuntMode : ShuntMode
  entryCount : Nat
  run : Option ShuntRun
  results : Vector (Option ShuntResult) 4
  deriving DecidableEq, Repr

structure Metrology where
  /-- retained, legal region -/
  legal : LegalParams
  /-- the stored check value (R184, R185); retained, legal region -/
  check : Nat
  /-- calibration counter (R150); retained, legal region -/
  cal : Nat
  /-- retained -/
  rejected : Nat
  decks : Vector MetroDeck 4
  /-- retained -/
  switch : SwitchLevel
  /-- session marker; retained -/
  marker : Bool
  session : Option Session
  /-- metrology log, in sequence order; retained -/
  log : List LogEntry
  /-- retained -/
  nextSeq : Nat
  /-- retained -/
  lost : Nat
  deriving DecidableEq, Repr

/-! ### Events and replies (chapter 10) -/

inductive OrderResult where
  | done | cancelled | stale | held | rejected
  deriving DecidableEq, Repr

inductive AbortCause where
  | motion | deckFault | axleMoved | cancelled
  deriving DecidableEq, Repr

inductive NotCompleted where
  | over | under | refusedUnverified | netNegative | noValidTare
  deriving DecidableEq, Repr

inductive ZeroCause where
  | zeroSet | zeroRange | motion | zeroLimit
  deriving DecidableEq, Repr

inductive FaultReason where
  | notEntry | noAxle | listFull | indexLimit
  deriving DecidableEq, Repr

inductive ResetCause where
  | break_ | request
  deriving DecidableEq, Repr

inductive RestartCause where
  | powerOn | resetLine
  deriving DecidableEq, Repr

/-- Status bytes of replies (R176). -/
inductive Status where
  | accepted | pending | unknownRequest | notPermitted | badField | busy | notFound | stale | full
  | duplicate | wrongState | notReady | isProtected | noSession | logFull | openVisits | classInUse
  | noValidTare | vehicleOnBridge | requirements | outOfRange | counterEnd
  deriving DecidableEq, Repr

/-- The outcome of a session operation (R159). -/
inductive OpOutcome where
  | tested (r : TestResult)
  | adjusted (values : List Int) (cal : Nat)
  | aborted (cause : AbortCause)
  | refused (code : Status)
  deriving DecidableEq, Repr

/-- What an event's detail says beside its time (R177); each constructor is one cause of one
category. -/
inductive Cause where
  -- DECK (R35 to R40)
  | deckEntered (d : DeckId) (m : DeckMode)
  | deckZero (d : DeckId) (c : ZeroCause)
  -- AXLE (R57)
  | phaseError (j : Boundary) (before after : BeamState) (errors : Nat)
  | beamStuck (j : Boundary) (b : Beam)
  | mapFault (j : Boundary) (d : Direction) (r : FaultReason)
  | axleSession
  | mapValid (passEnded : Bool)
  -- ORDER (R79)
  | orderAborted (visit : Nat) (kind : OrderKind) (c : AbortCause)
  | orderNotCompleted (visit : Nat) (kind : OrderKind) (c : NotCompleted)
  | orderComplete (visit : Nat) (kind : OrderKind) (ticket : Option Nat)
  | orderHeld (visit : Nat) (kind : OrderKind)
  | orderLeft (visit : Nat) (kind : OrderKind) (r : OrderResult)
  -- TICKET and PRINT (R134)
  | ticketIssued (number : Nat) (kind : TicketKind) (visit : Nat) (marks : Marks)
  | spoolFull (e : BridgeEnd) (ticket : Option Nat)
  | jobFailed (e : BridgeEnd) (ticket : Option Nat) (isCopy : Bool)
  | printerOffline (e : BridgeEnd) (paper : Bool)
  | printerOnline (e : BridgeEnd)
  -- WATCH (R147)
  | watchArmed (visit : Nat)
  | watchDropped (visit : Nat)
  | watchMatch (c : WatchChannel) (visit : Nat) (kind : TicketKind) (value : Int) (a : WatchAction)
  | holdReleased (visit : Nat) (number : Nat)
  | holdRejected (visit : Nat)
  -- METROLOGY (R170)
  | statusChanged (d : DeckId) (old new : VStatus) (c : StatusCause)
  | downgradeReport (c : StatusCause) (d : DeckId) (before after : VStatus)
  | switchTaken (l : SwitchLevel)
  | sessionOpened
  | sessionEnded (c : SessionEndCause)
  | operationEnded (k : OpKind) (d : DeckId) (o : OpOutcome)
  -- PORT (R177)
  | firstFault (p : Port) (kind : Byte) (code : Status)
  | portReset (p : Port) (c : ResetCause)
  -- RESTART (R187)
  | restarted (cause : RestartCause) (checkPass sessionEnded : Bool) (unprinted : Nat)
      (clockLost : Bool)
  deriving DecidableEq, Repr

/-- One category of an event set: its count 0..255 and latest detail with its time (R177). -/
structure EventCell where
  count : Nat
  latest : Option (Cause × Stamp)
  deriving DecidableEq, Repr

/-- R180. -/
structure FirstFault where
  kind : Byte
  code : Status
  tag : Byte
  time : Stamp
  later : Nat
  deriving DecidableEq, Repr

/-- One deck's part of a READ_CELLS reply (R16): budget, threshold, validity and, per channel,
number, latest raw sample and condition, shunt, tally and the parameter flag. -/
structure CellsPart where
  budget : Nat
  threshold : Int
  lastValid : Option Bool
  channels : List (Nat × Option (Int × Condition) × Bool × Nat × Bool)
  deriving DecidableEq, Repr

/-- One deck of a READ_DECKS reply (R33). -/
structure DeckPart where
  deck : Nat
  mode : DeckMode
  /-- present only in SETTLING; then EMPTY, STEADY or none -/
  lastSettled : Option (Option DeckMode)
  /-- kg -/
  gross : Option Int
  zeroSet : Bool
  /-- kg -/
  zeroOffset : Int
  zeroLimit : Bool
  motionCount : Nat
  hold : Bool
  zeroPending : Bool
  history : List (DeckMode × BitVec 32)
  deriving DecidableEq, Repr

/-- One pair of a READ_AXLES reply (R58). -/
structure PairPart where
  boundary : Nat
  decoder : Option BeamState
  start : StartBeam
  errors : Nat
  stuckU : Bool
  stuckD : Bool
  deriving DecidableEq, Repr

/-- A READ_ORDERS reply (R81). -/
structure OrdersPart where
  active : Option ActiveOrder
  /-- given for an order in WAITING or SURVEYING -/
  notReady : Option NotReady
  condRun : Nat
  /-- each deck's count of a capture in flight, in deck order -/
  captureCounts : Option (List Nat)
  staged : List Order
  stops : Nat
  laneA : Lane
  laneB : Lane
  deriving DecidableEq, Repr

/-- A line of LIST_VISITS (R109). -/
structure VisitLine where
  number : Nat
  plate : Text
  kind : VisitKind
  state : VisitState
  revision : BitVec 16
  held : Bool
  deriving DecidableEq, Repr

inductive TareValidity where
  | valid | expired | usedUp
  deriving DecidableEq, Repr

/-- One deck of a READ_METROLOGY reply (R170): per cell z, k, D, tolerance and last result. -/
structure MetroPart where
  maxD : Int
  status : VStatus
  lastVerified : Option Nat
  shuntMode : ShuntMode
  entryCount : Nat
  checkHeld : Bool
  cells : List (Int × Int × Int × Int × Option ShuntResult)
  deriving DecidableEq, Repr

/-- What CERTIFY_DECK names as missing (R163). -/
inductive Requirement where
  | failPresent | zeroTest | loadTests
  deriving DecidableEq, Repr

/-- The receiver of a port (R173). -/
inductive Receiver where
  | hunt | receiving | answering
  deriving DecidableEq, Repr

/-- The result fields of a reply, as the owning rule of each request gives them. -/
inductive Result where
  | none
  | events (cells : Vector EventCell 9) (mask : Vector Bool 9)
  | inhibitedEvents (l : List (Nat × Nat))
  | fault (r : Option FirstFault)
  | port (role : Port) (rate : Nat) (receiver : Receiver) (discarded : Nat)
      (mask : Vector Bool 9) (attention faultFull : Bool)
  | taken (values : List Nat)
  | cells (l : List CellsPart)
  | decks (l : List DeckPart)
  | inhibitedStates (l : List (DeckMode × BitVec 32))
  | axles (map : AxleMap) (counts : List Nat) (filter : Nat) (pairs : List PairPart)
  | placed (place : Nat)
  | notReady (c : NotReady)
  | orders (p : OrdersPart)
  | classEntry (e : ClassEntry) (permittedTotal : Nat)
  | classLines (l : List (Nat × Text × Nat))
  | classWritten (replaced : Bool)
  | groups (summary : AxleSummary) (table : GroupTable) (axleTol consTol : Nat)
      (permitted permittedSums : List Nat)
  | visitOpened (number : Nat) (revision : BitVec 16) (evicted : Option Nat)
  | revision (r : BitVec 16)
  | visitRecord (v : Visit) (heldPresent : Bool)
  | visitSummary (number : Nat) (state : VisitState) (revision : BitVec 16)
      (s : Option AxleSummary)
  | visitHeld (number : Nat) (state : VisitState) (revision : BitVec 16) (h : Option HeldTicket)
  | visitLines (l : List VisitLine) (next : Option Nat)
  | tareReplaced (plate : Option Text)
  | tareLine (e : TareEntry) (v : TareValidity)
  | tareLines (l : List (TareEntry × TareValidity)) (next : Option Nat)
  | ticket (t : Ticket)
  | journalBounds (counter held : Nat) (oldest : Option Nat)
  | copyNumber (n : Nat)
  | printers (lines : List (LineState × Nat × List (JobName × Bool))) (copyOn : Bool)
      (interval limit : Nat)
  | printing (copyOn : Bool) (interval limit : Nat)
  | watch (w1 w2 : WatchConfig) (mode : WatchMode) (flag1 flag2 : Option MatchDetail)
      (matchNumber : BitVec 16) (armed : List Nat)
  | watchTaken (c : WatchConfig)
  | inhibitedFlags (l : List (WatchChannel × BitVec 16))
  | ticketNumber (n : Nat)
  | metroBridge (decks interval capacity window stabBand emptyBand period threshold : Int)
      (cal : Nat) (switch : SwitchLevel) (sessionOpen : Bool)
  | metroDeck (p : MetroPart)
  | session (r : Option (Bool × Stamp × Nat × Option Operation × List TestResult))
  | logSeq (n : Nat)
  | changes (changed : List (ParamId × Int × Nat)) (same : List ParamId) (cal : Nat)
  | requirement (r : Requirement)
  | shuntMode (m : ShuntMode)
  | log (entries : List LogEntry) (oldest newest : Option Nat) (free reserved lost rejected : Nat)
  | logReleased (freed free : Nat)
  | oldTime (t : Stamp)
  | clock (t : Stamp) (lost : Bool) (cause : RestartCause) (restartTime : Stamp)
  deriving DecidableEq, Repr

/-- A reply: tag and kind code of its request, status, result fields (R176). -/
structure Reply where
  tag : Byte
  kind : Byte
  status : Status
  result : Result
  deriving DecidableEq, Repr

/-- The model's own (R118): the visit table unit as a request met it, and how many changes it had seen
when the request's handling ended. -/
structure Answered where
  before : VisitUnit
  upTo : Nat
  deriving DecidableEq, Repr

structure PortState where
  /-- rate code 0..3 (R172); retained -/
  rate : Nat
  /-- the rate code the line runs at; differs from `rate` while a change waits for a reply's end -/
  lineRate : Nat
  /-- a rate change that applies when the reply being sent has ended (R172) -/
  rateDeferred : Bool
  /-- a RESET_PORT that acts when the reply being sent has ended (R181) -/
  resetDeferred : Bool
  receiver : Receiver
  /-- a frame whose sync arrived while ANSWERING is being read to its end (R174) -/
  overrun : Bool
  discarded : Nat
  /-- by category number less 1 -/
  events : Vector EventCell 9
  /-- masked when true -/
  mask : Vector Bool 9
  firstFault : Option FirstFault
  /-- the reply being sent -/
  reply : Option Reply
  /-- the reply being sent goes on at a rate its master does not read (R172) -/
  replyLost : Bool
  /-- the model's own: what the request being answered did to the visit table unit; none when no request
  is being answered (R118) -/
  answered : Option Answered
  /-- pin: the attention line (R179) -/
  attention : Bool
  deriving DecidableEq, Repr

/-! ### Clock and restart (chapter 11) -/

structure Clock where
  day : Nat
  sec : Nat
  /-- the model's own: milliseconds run of the current second -/
  ms : Nat
  /-- the model's own: a SET_CLOCK has replaced a time that stood at its day's end, and no time has passed
  since; a DAY_ROLLOVER that then comes is due from the time replaced (R189) -/
  replaced : Bool
  lost : Bool
  /-- cause and time of the latest restart (R189) -/
  restartCause : RestartCause
  restartTime : Stamp
  deriving DecidableEq, Repr

/-- R183: running, or held at the restart values by a reset line (or, when true, a power loss). -/
inductive Power where
  | running
  | heldReset (powerLost : Bool)
  deriving DecidableEq, Repr

/-! ### The whole machine -/

structure State where
  front : Vector FrontEnd 4
  decks : Vector Deck 4
  axle : AxleUnit
  order : OrderUnit
  check : AxleCheck
  visit : VisitUnit
  ticket : TicketUnit
  watch : WatchUnit
  metro : Metrology
  ports : Vector PortState 3
  clock : Clock
  power : Power
  /-- the commands that are waiting, first in, first out -/
  pending : List Instr
  deriving DecidableEq, Repr

/-! ### Starting values of the blocks -/

/-- Factory values of the legal parameters (R149). -/
def factoryLegal : LegalParams where
  decks := 1
  interval := 20
  capacity := 40000
  maxD := vrep 4 40000
  zero := vrep 4 (vrep 4 0)
  factor := vrep 4 (vrep 4 1000)
  shuntD := vrep 4 (vrep 4 1)
  shuntTol := vrep 4 (vrep 4 1000)
  window := 20
  stabBand := 1
  emptyBand := 5
  period := 365
  threshold := 32

/-- A channel at restart (R17). -/
def Channel.start : Channel := ⟨none, false, 0, false⟩

/-- A deck monitor at restart and on coming into use (R31, R41): SETTLING, entered as number 1. -/
def Deck.start : Deck where
  gross := none
  zeroOffset := 0
  zeroSet := false
  powerUpSpent := false
  zeroLimit := false
  mode := .settling
  lastSettled := none
  window := []
  reference := none
  overRun := 0
  underRun := 0
  settledRun := 0
  motionCount := 0
  trackRun := 0
  pendingZero := none
  history := #v[some 1, none, none, none, none, none, none, none]
  entryNumber := 1
  hold := false

/-- A pair in use at restart, its raw input clear: its first persistence time runs (R59). -/
def Pair.initial : Pair := ⟨.clear, none, .unknown, 0, false, false, 0, 0, some 0⟩

/-- An axle map at restart (R59). -/
def AxleMap.start : AxleMap := ⟨false, none, [], 0⟩

/-- The emptied group result table (R88). -/
def GroupTable.empty : GroupTable := ⟨none, [], [], none, .notTested, .notTested, false, 0⟩

/-- A printer line at restart: OFFLINE, its first query one interval later (R135). -/
def PrinterLine.start (interval : Nat) : PrinterLine := ⟨.offline, [], 0, interval * 1000, none⟩

/-- A watch channel as it leaves the factory (R136). -/
def WatchConfig.factory : WatchConfig := ⟨false, .net, .above, 0, 0, none, none, .any, .mark⟩

/-- A port at restart, before the RESTART event is given to it (R182). -/
def PortState.start (rate : Nat) : PortState where
  rate := rate
  lineRate := rate
  rateDeferred := false
  resetDeferred := false
  receiver := .hunt
  overrun := false
  discarded := 0
  events := vrep 9 ⟨0, none⟩
  mask := vrep 9 false
  firstFault := none
  reply := none
  replyLost := false
  answered := none
  attention := false

/-- A port as the report step of the restart leaves it (R187): RESTART at 1, attention asserted. -/
def PortState.afterRestart (rate : Nat) (c : Cause) (t : Stamp) : PortState :=
  { PortState.start rate with
    events := #v[⟨0, none⟩, ⟨0, none⟩, ⟨0, none⟩, ⟨0, none⟩, ⟨0, none⟩, ⟨0, none⟩, ⟨0, none⟩,
      ⟨0, none⟩, ⟨1, some (c, t)⟩]
    attention := true }

/-- The machine right after its first restart: every retained field at its factory value, every
volatile field as the restart sequence leaves it (R187), the clock at its origin. -/
def State.reset : State where
  front := #v[⟨vrep 4 ⟨none, false, 0, true⟩, 32, none⟩, ⟨vrep 4 .start, 32, none⟩,
    ⟨vrep 4 .start, 32, none⟩, ⟨vrep 4 .start, 32, none⟩]
  decks := vrep 4 .start
  axle :=
    { pairs := #v[.initial, .initial, { Pair.initial with persist := none },
        { Pair.initial with persist := none }, { Pair.initial with persist := none }]
      map := .start
      filter := 8 }
  order :=
    { active := none, staged := [], engine := none, condRun := 0, stops := [],
      crossingSince := false, laneA := .stop, laneB := .stop, window := 50, delay := 100 }
  check := { classes := vrep 32 none, axleTol := 0, consTol := 20, table := .empty }
  visit := { visits := [], counter := 0, tares := [], validity := 90, initialUses := 30, made := [] }
  ticket :=
    { counter := 0, journal := [], copyOn := false, interval := 2, limit := 10,
      lineA := .start 2, lineB := .start 2 }
  watch :=
    { w1 := .factory, w2 := .factory, mode := .independent, armed := [], flag1 := none,
      flag2 := none, matchNumber := 0 }
  metro :=
    { legal := factoryLegal
      check := Config.legalCheck factoryLegal 0
      cal := 0
      rejected := 0
      decks := vrep 4 ⟨.unverified, none, .off, 0, none, vrep 4 none⟩
      switch := .shut
      marker := false
      session := none
      log := []
      nextSeq := 1
      lost := 0 }
  ports := vrep 3 (.afterRestart 1 (.restarted .powerOn true false 0 false) ⟨0, 0⟩)
  clock :=
    { day := 0, sec := 0, ms := 0, replaced := false, lost := false, restartCause := .powerOn,
      restartTime := ⟨0, 0⟩ }
  power := .running
  pending := []

end Sys2Proof.Machine
end

