-- ==== Sys2Proof/Machine/Operands.lean ====
section
/-!
DEFINITION. Operand forms: text fields, numbered decks, legal parameters by name with their ranges
and the conditions on the whole set (R149, R186), and the numbers of the machine's named things.
-/

namespace Sys2Proof.Machine

/-! ### Numbers of named things -/

def portNumber : Port → Fin 3
  | .console => 0
  | .office => 1
  | .inspection => 2

/-- A port by its number 1 to 3 (section 10.1). -/
def portNumbered : Nat → Option Port
  | 1 => some .console
  | 2 => some .office
  | 3 => some .inspection
  | _ => none

/-- The place of a deck state in a history set. -/
def modeNumber : DeckMode → Fin 8
  | .settling => 0
  | .empty => 1
  | .steady => 2
  | .motion => 3
  | .noise => 4
  | .overload => 5
  | .underload => 6
  | .noSignal => 7

def allModes : List DeckMode :=
  [.settling, .empty, .steady, .motion, .noise, .overload, .underload, .noSignal]

def otherEnd : BridgeEnd → BridgeEnd
  | .a => .b
  | .b => .a

/-- EMPTY or STEADY (section 2.2). -/
def isSettled (m : DeckMode) : Bool := m = .empty ∨ m = .steady

/-- NOSIGNAL, OVERLOAD or UNDERLOAD (section 2.2). -/
def isFaultMode (m : DeckMode) : Bool := m = .noSignal ∨ m = .overload ∨ m = .underload

/-! ### Text fields -/

/-- Every character from 20h to 7Eh (R83, R100, R175). -/
def textOk (t : Text) : Bool := t.all fun c => 0x20 ≤ c.toNat ∧ c.toNat ≤ 0x7E

/-- A plate: 1 to 12 characters (R100). -/
def plateOk (t : Text) : Bool := textOk t ∧ 1 ≤ t.length ∧ t.length ≤ 12

/-- A grade text: 0 to 8 characters (R100). -/
def gradeOk (t : Text) : Bool := textOk t ∧ t.length ≤ 8

/-! ### Decks and pairs in use -/

/-- How many decks the blocks take as in use: N, or all four while N lies outside 1 to 4 (R17, R186). -/
def deckCount (p : LegalParams) : Nat :=
  if 1 ≤ p.decks ∧ p.decks ≤ 4 then p.decks.toNat else 4

def deckInUse (p : LegalParams) (d : DeckId) : Bool := d.val < deckCount p

/-- Pairs 0 to N are in use (section 3.1). -/
def pairInUse (p : LegalParams) (j : Boundary) : Bool := j.val ≤ deckCount p

/-- The decks in use, in deck order. -/
def decksInUse (p : LegalParams) : List DeckId := (List.finRange 4).filter (deckInUse p)

/-- The pairs in use, in boundary order. -/
def pairsInUse (p : LegalParams) : List Boundary := (List.finRange 5).filter (pairInUse p)

/-- The deck a request names by a number from 1 to N. Model's choice (notes/assumptions/64.md): while N
lies outside 1 to 4, the requests of every unit may name decks 1 to 4, as R186 says of some. -/
def deckNumbered (p : LegalParams) (n : Nat) : Option DeckId :=
  (decksInUse p).find? fun d => d.val + 1 = n

/-- The decks a request names by a number from 1 to N, or 0 for every deck in use (R16, R33, R37). -/
def decksNamed (p : LegalParams) (n : Nat) : Option (List DeckId) :=
  if n = 0 then some (decksInUse p) else (deckNumbered p n).map ([·])

/-- The cell of a channel number 1 to 16: channel 4(d − 1) + i is cell i of deck d (R1). -/
def cellNumbered (n : Nat) : Option (DeckId × CellId) :=
  if h : 1 ≤ n ∧ n ≤ 16 then
    some (⟨(n - 1) / 4, by omega⟩, ⟨(n - 1) % 4, by omega⟩)
  else none

/-- The channel number of a cell (R1). -/
def channelNumber (d : DeckId) (c : CellId) : Nat := 4 * d.val + c.val + 1

/-! ### Legal parameters by name (R149) -/

def legalValue (p : LegalParams) : ParamId → Int
  | .decks => p.decks
  | .interval => p.interval
  | .capacity => p.capacity
  | .maxD d => p.maxD[d]
  | .zero d c => p.zero[d][c]
  | .factor d c => p.factor[d][c]
  | .shuntD d c => p.shuntD[d][c]
  | .shuntTol d c => p.shuntTol[d][c]
  | .window => p.window
  | .stabBand => p.stabBand
  | .emptyBand => p.emptyBand
  | .period => p.period
  | .threshold => p.threshold

def setLegalValue (p : LegalParams) (i : ParamId) (v : Int) : LegalParams :=
  match i with
  | .decks => { p with decks := v }
  | .interval => { p with interval := v }
  | .capacity => { p with capacity := v }
  | .maxD d => { p with maxD := upd p.maxD d fun _ => v }
  | .zero d c => { p with zero := upd p.zero d fun r => upd r c fun _ => v }
  | .factor d c => { p with factor := upd p.factor d fun r => upd r c fun _ => v }
  | .shuntD d c => { p with shuntD := upd p.shuntD d fun r => upd r c fun _ => v }
  | .shuntTol d c => { p with shuntTol := upd p.shuntTol d fun r => upd r c fun _ => v }
  | .window => { p with window := v }
  | .stabBand => { p with stabBand := v }
  | .emptyBand => { p with emptyBand := v }
  | .period => { p with period := v }
  | .threshold => { p with threshold := v }

/-- The range column of R149. -/
def legalRange (i : ParamId) (v : Int) : Bool :=
  match i with
  | .decks => 1 ≤ v ∧ v ≤ 4
  | .interval => v = 10 ∨ v = 20 ∨ v = 50 ∨ v = 100
  | .capacity => 10000 ≤ v ∧ v ≤ 160000
  | .maxD _ => 5000 ≤ v ∧ v ≤ 60000
  | .zero _ _ => -8388607 ≤ v ∧ v ≤ 8388607
  | .factor _ _ => 100 ≤ v ∧ v ≤ 100000
  | .shuntD _ _ => 1 ≤ v ∧ v ≤ 4000000
  | .shuntTol _ _ => 100 ≤ v ∧ v ≤ 5000
  | .window => 8 ≤ v ∧ v ≤ 64
  | .stabBand => 1 ≤ v ∧ v ≤ 3
  | .emptyBand => 1 ≤ v ∧ v ≤ 20
  | .period => 1 ≤ v ∧ v ≤ 730
  | .threshold => 1 ≤ v ∧ v ≤ 255

/-- The parameter lies in its range. -/
def inRange (p : LegalParams) (i : ParamId) : Bool := legalRange i (legalValue p i)

def maxDParams : List ParamId := (List.finRange 4).map .maxD

def cellParams (d : DeckId) : List ParamId :=
  (List.finRange 4).map (.zero d) ++ (List.finRange 4).map (.factor d)

def shuntParams (d : DeckId) : List ParamId :=
  (List.finRange 4).map (.shuntD d) ++ (List.finRange 4).map (.shuntTol d)

/-- The parameters of bridge scope (R149). -/
def bridgeParams : List ParamId :=
  [.decks, .interval, .capacity, .window, .stabBand, .emptyBand, .period, .threshold]

/-- Every legal parameter. -/
def allParams : List ParamId :=
  bridgeParams ++ maxDParams ++ (List.finRange 4).flatMap cellParams ++
    (List.finRange 4).flatMap shuntParams

/-- Each Max_d of decks 1 to 4 is a multiple of e (R149). -/
def maxDWhole (p : LegalParams) : Bool := (List.finRange 4).all fun d => p.maxD[d] % p.interval = 0

/-- Cap divided by e is at most 10,000 (R149), without division. -/
def capWithinIntervals (p : LegalParams) : Bool := p.capacity ≤ 10000 * p.interval

/-- Cap is at most the sum of Max_d over decks 1 to N (R149). -/
def capWithinDecks (p : LegalParams) : Bool :=
  p.capacity ≤ ((decksInUse p).map fun d => p.maxD[d]).sum

/-- The three conditions on the set as a whole (R149). -/
def wholeSetOk (p : LegalParams) : Bool := maxDWhole p && capWithinIntervals p && capWithinDecks p

/-- A set that meets every range and all three conditions (R149). -/
def consistentSet (p : LegalParams) : Bool := allParams.all (inRange p) && wholeSetOk p

/-- The conditions of a set that must be repairable one request at a time: each is tested only when
every parameter it names lies in range; the sum of Max_d names those of decks 1 to N (R149, R186). -/
def repairableSet (p : LegalParams) : Bool :=
  let capOk := inRange p .capacity
  let eOk := inRange p .interval
  let maxOk := maxDParams.all (inRange p)
  (!(eOk && maxOk) || maxDWhole p) &&
    (!(eOk && capOk) || capWithinIntervals p) &&
    (!(capOk && inRange p .decks && (decksInUse p).all fun d => inRange p (.maxD d)) ||
      capWithinDecks p)

/-- The test on the set that would result from a legal write (R149, R151, R186). -/
def resultingSetOk (old new : LegalParams) : Bool :=
  if consistentSet old then consistentSet new else repairableSet new

/-- The bridge-wide values of R186. -/
def bridgeWideParams : List ParamId :=
  [.decks, .interval, .capacity, .window, .stabBand, .emptyBand] ++ maxDParams

/-- A bridge-wide value lies outside its range, or a condition on the whole set fails: every sample
record is invalid (R186). -/
def bridgeWideBad (p : LegalParams) : Bool :=
  !(bridgeWideParams.all (inRange p) && wholeSetOk p)

/-- The parameter-range flag of READ_CELLS (R16). -/
def cellParamBad (p : LegalParams) (d : DeckId) (c : CellId) : Bool :=
  !(inRange p (.zero d c) && inRange p (.factor d c))

/-- The deck monitor marks every record of the deck invalid (R15, R186). -/
def deckParamsBad (p : LegalParams) (d : DeckId) : Bool :=
  bridgeWideBad p || (List.finRange 4).any (cellParamBad p d)

/-- Which decks a change of a parameter affects (R152). -/
def decksAffected : ParamId → List DeckId
  | .zero d _ | .factor d _ | .shuntD d _ | .shuntTol d _ | .maxD d => [d]
  | .interval | .decks | .capacity | .window | .stabBand | .emptyBand => List.finRange 4
  | .period | .threshold => []

end Sys2Proof.Machine
end

