-- ==== Sys2Proof/Machine/Ops.lean ====
section
/-!
DEFINITION. The shared operations over the state: one setter per block, the clock's reading, the
legal parameters in force, and the metrology log (R168).
-/

namespace Sys2Proof.Machine

namespace State

/-! ### One setter per block -/

def setFront (s : State) (d : DeckId) (f : FrontEnd → FrontEnd) : State :=
  { s with front := upd s.front d f }

def setDeck (s : State) (d : DeckId) (f : Deck → Deck) : State :=
  { s with decks := upd s.decks d f }

def setAxle (s : State) (f : AxleUnit → AxleUnit) : State := { s with axle := f s.axle }

def setPair (s : State) (j : Boundary) (f : Pair → Pair) : State :=
  s.setAxle fun a => { a with pairs := upd a.pairs j f }

def setMap (s : State) (f : AxleMap → AxleMap) : State :=
  s.setAxle fun a => { a with map := f a.map }

def setOrder (s : State) (f : OrderUnit → OrderUnit) : State := { s with order := f s.order }

def setCheck (s : State) (f : AxleCheck → AxleCheck) : State := { s with check := f s.check }

def setVisit (s : State) (f : VisitUnit → VisitUnit) : State := { s with visit := f s.visit }

def setTicket (s : State) (f : TicketUnit → TicketUnit) : State := { s with ticket := f s.ticket }

def setWatch (s : State) (f : WatchUnit → WatchUnit) : State := { s with watch := f s.watch }

def setMetro (s : State) (f : Metrology → Metrology) : State := { s with metro := f s.metro }

def setMetroDeck (s : State) (d : DeckId) (f : MetroDeck → MetroDeck) : State :=
  s.setMetro fun m => { m with decks := upd m.decks d f }

def setPort (s : State) (p : Port) (f : PortState → PortState) : State :=
  { s with ports := upd s.ports (portNumber p) f }

def setClock (s : State) (f : Clock → Clock) : State := { s with clock := f s.clock }

/-! ### Readings -/

/-- The clock's reading, which stamps every record (section 11.5). -/
def now (s : State) : Stamp := ⟨s.clock.day, s.clock.sec⟩

/-- The legal parameters in force (R149). -/
def legal (s : State) : LegalParams := s.metro.legal

def portState (s : State) (p : Port) : PortState := s.ports[portNumber p]

/-- The decks in use, in deck order. -/
def inUse (s : State) : List DeckId := decksInUse s.legal

def deckMode (s : State) (d : DeckId) : DeckMode := s.decks[d].mode

def deckStatus (s : State) (d : DeckId) : VStatus := s.metro.decks[d].status

/-- An audit session is open (R157). -/
def sessionOpen (s : State) : Bool :=
  match s.metro.session with
  | some r => r.isOpen
  | none => false

/-- The session operation in flight (R159). -/
def operation (s : State) : Option Operation :=
  match s.metro.session with
  | some r => if r.isOpen then r.op else none
  | none => none

/-- The test capture in flight on a deck, if any (R159). -/
def testCaptureOn (s : State) (d : DeckId) : Bool :=
  match s.operation with
  | some o => o.deck = d ∧ o.capture.isSome
  | none => false

/-- A test capture is in flight. -/
def testCapture (s : State) : Bool :=
  match s.operation with
  | some o => o.capture.isSome
  | none => false

/-- An order capture is in flight (R69). -/
def orderCapture (s : State) : Bool := s.order.engine.isSome

end State

/-! ### The clock (R188) -/

/-- The seconds stand at the day's last (R188). -/
def atDayEnd (c : Clock) : Bool := 86399 ≤ c.sec

/-! ### The metrology log (R168) -/

/-- The log's capacity. -/
def logCapacity : Nat := 256

/-- The value of the next sequence number at which the log takes no more entries (R168). -/
def seqLimit : Nat := 4294967295

/-- Entries reserved by the operation in flight (R159). -/
def reservedEntries (m : Metrology) : Nat :=
  match m.session with
  | some r => if r.isOpen then (r.op.map (·.reserved)).getD 0 else 0
  | none => 0

/-- Free entries (R168): 256 less the entries held and reserved, and none once the sequence numbers
have run out. -/
def freeEntries (m : Metrology) : Nat :=
  if m.nextSeq < seqLimit then logCapacity - m.log.length - reservedEntries m else 0

/-- The room for new entries: free entries, and sequence numbers that no operation in flight has
reserved (R159: reserved entries are not free to any other entry). An entry takes a place and a number, so
a request that needs more than the room is LOG_FULL, and no change is made without its entry (R150).
Model's choice (notes/assumptions/2.md): READ_LOG's free entries are R168's count, and near the end of the
sequence numbers the room can be less. -/
def logRoom (m : Metrology) : Nat :=
  min (freeEntries m) (seqLimit - m.nextSeq - reservedEntries m)

/-- Append one entry, which takes the next sequence number (R168). -/
def appendEntry (m : Metrology) (t : Stamp) (k : LogKind) (d : Option DeckId) : Metrology :=
  { m with
    log := m.log ++ [{ seq := m.nextSeq, time := t, kind := k, cal := m.cal, deck := d }]
    nextSeq := m.nextSeq + 1 }

/-- A protective entry: appended when there is room, otherwise counted as lost (R168). -/
def protectiveEntry (m : Metrology) (t : Stamp) (k : LogKind) (d : Option DeckId) : Metrology :=
  if 0 < logRoom m then appendEntry m t k d else { m with lost := satInc 65535 m.lost }

/-- A deliberate entry: its request has found room for it (R168), or the operation it ends has reserved
it (R159). -/
def deliberateEntry (m : Metrology) (t : Stamp) (k : LogKind) (d : Option DeckId) : Metrology :=
  protectiveEntry m t k d

namespace State

def logProtective (s : State) (k : LogKind) (d : Option DeckId := none) : State :=
  s.setMetro fun m => protectiveEntry m s.now k d

def logDeliberate (s : State) (k : LogKind) (d : Option DeckId := none) : State :=
  s.setMetro fun m => deliberateEntry m s.now k d

end State

end Sys2Proof.Machine
end

