-- ==== Sys2Proof/Machine/Flags.lean ====
section
/-!
DEFINITION. Flags of the ports: event sets and attention lines (R177 to R179), first-fault records
(R180), the output pins, and the shared operation that takes a request and answers it (R173 to R176).
-/

namespace Sys2Proof.Machine

/-! ### Event categories and counting (R177) -/

/-- The category of an event, numbered as in section 10.4 less 1. -/
def categoryOf : Cause → Fin 9
  | .deckEntered _ _ | .deckZero _ _ => 0
  | .phaseError _ _ _ _ | .beamStuck _ _ | .mapFault _ _ _ | .axleSession | .mapValid _ => 1
  | .orderAborted _ _ _ | .orderNotCompleted _ _ _ | .orderComplete _ _ _ | .orderHeld _ _
  | .orderLeft _ _ _ => 2
  | .ticketIssued _ _ _ _ => 3
  | .spoolFull _ _ | .jobFailed _ _ _ | .printerOffline _ _ | .printerOnline _ => 4
  | .watchArmed _ | .watchDropped _ | .watchMatch _ _ _ _ _ | .holdReleased _ _
  | .holdRejected _ => 5
  | .statusChanged _ _ _ _ | .downgradeReport _ _ _ _ | .switchTaken _ | .sessionOpened
  | .sessionEnded _ | .operationEnded _ _ _ => 6
  | .firstFault _ _ _ | .portReset _ _ => 7
  | .restarted _ _ _ _ _ => 8

/-- Count one event into a port's set: the count stops at 255, the detail is replaced (R177). -/
def countEvent (c : Cause) (t : Stamp) (p : PortState) : PortState :=
  { p with
    events := upd p.events (categoryOf c) fun e =>
      { count := satInc 255 e.count, latest := some (c, t) } }

/-- An event is counted into the event set of each of the three ports (R177). -/
def State.raise (s : State) (c : Cause) : State :=
  { s with ports := vmap (countEvent c s.now) s.ports }

/-- Raise events in order. -/
def State.raiseAll (s : State) (cs : List Cause) : State := cs.foldl State.raise s

/-! ### Pins -/

/-- The attention line's rule: an unmasked category has a count above 0 (R179). -/
def attentionOf (p : PortState) : Bool :=
  (List.finRange 9).any fun c => 0 < p.events[c].count && !p.mask[c]

/-- The bridge is clear (R49). -/
def bridgeClear (m : AxleMap) : Bool :=
  m.valid ∧ m.list = [] ∧ m.departed = 0 ∧ m.direction = none

/-- The lane signals at end A and end B: the table of R78, read from the top. Model's choice
(notes/assumptions/57.md): a COMPLETE order with no pass in progress, which is in no row, shows STOP at
both ends. -/
def laneSignals (s : State) : Lane × Lane :=
  if s.sessionOpen then (.stop, .stop)
  else if !s.axle.map.valid then (.stop, .stop)
  else
    match s.order.active with
    | none => (.stop, .stop)
    | some a =>
      match a.state, s.axle.map.direction with
      | .capturing, _ => (.stop, .stop)
      | .held, _ => (.stop, .stop)
      | .waiting, none => (.go, .go)
      | .surveying, none => (.go, .go)
      | .complete, none => (.stop, .stop)
      | .waiting, some _ => (.stop, .stop)
      | .complete, some .forward => (.stop, .go)
      | .complete, some .reverse => (.go, .stop)
      | .surveying, some .forward => (.stop, .go)
      | .surveying, some .reverse => (.go, .stop)

/-- Whether a deck's channels are excited: running and in use (R1, R183). -/
def excitedNow (s : State) (d : DeckId) : Bool := s.power = .running ∧ deckInUse s.legal d

/-- Every output pin follows the state at the end of a command (R78, R179, R1); while the reset is
held each stands at its restart value (R183). -/
def State.drive (s : State) : State :=
  let on : Bool := s.power = .running
  let lanes := if on then laneSignals s else (Lane.stop, Lane.stop)
  { s with
    order := { s.order with laneA := lanes.1, laneB := lanes.2 }
    ports := vmap (fun p => { p with attention := on && attentionOf p }) s.ports
    front := vgen fun d =>
      { s.front[d] with
        cells := vmap (fun c => { c with excited := excitedNow s d }) s.front[d].cells } }

/-! ### The outcome of a command -/

/-- A command that acts only while the machine runs: while power is absent or the reset is held, what
arrives is lost (R183). -/
def runCommand (f : State → State) (s : State) : Host.Outcome State Fault Refusal :=
  .next (if s.power = .running then (f s).drive else s)

/-! ### Taking and answering a request -/

/-- What an owner answers: a status and result fields (R176). -/
structure Response where
  status : Status
  result : Result
  deriving DecidableEq, Repr

def accepted (r : Result := .none) : Response := ⟨.accepted, r⟩

def refusal (c : Status) (r : Result := .none) : Response := ⟨c, r⟩

/-- The status byte of a reply (R176). -/
def Status.code : Status → Byte
  | .accepted => 0x00#8
  | .pending => 0x01#8
  | .unknownRequest => 0x10#8
  | .notPermitted => 0x11#8
  | .badField => 0x12#8
  | .busy => 0x13#8
  | .notFound => 0x14#8
  | .stale => 0x15#8
  | .full => 0x16#8
  | .duplicate => 0x17#8
  | .wrongState => 0x18#8
  | .notReady => 0x19#8
  | .isProtected => 0x1A#8
  | .noSession => 0x1B#8
  | .logFull => 0x1C#8
  | .openVisits => 0x1D#8
  | .classInUse => 0x1E#8
  | .noValidTare => 0x1F#8
  | .vehicleOnBridge => 0x20#8
  | .requirements => 0x21#8
  | .outOfRange => 0x22#8
  | .counterEnd => 0x23#8

/-- The first bytes of a reply: tag and kind code of its request, and the status byte its body begins
with (R176). -/
def Reply.head (r : Reply) : List Byte := [r.tag, r.kind, r.status.code]

/-- A status that is a refusal code (R176). -/
def isRefusal (c : Status) : Bool := c ≠ .accepted ∧ c ≠ .pending

/-- The receiver's part of a frame that has arrived whole and good (R173, R174): taken in HUNT or
RECEIVING; discarded and counted when its sync arrived while ANSWERING. A frame that is taken notes the
visit table unit as it meets it (R118). -/
def takeFrame (u : VisitUnit) (p : PortState) : Bool × PortState :=
  if p.overrun then (false, { p with overrun := false, discarded := satInc 65535 p.discarded })
  else if p.receiver = .answering then (false, { p with discarded := satInc 65535 p.discarded })
  else (true, { p with receiver := .answering, answered := some ⟨u, u.made.length⟩ })

/-- The activity time in ms that a request from the inspection port restarts (R158). -/
def activityTime : Nat := 600000

/-- A request taken on the inspection port restarts the activity time of an open session (R158). -/
def touchSession (p : Port) (s : State) : State :=
  if p = .inspection then
    s.setMetro fun m =>
      { m with
        session := m.session.map fun r =>
          if r.isOpen then { r with activity := activityTime } else r }
  else s

/-- A refusal enters the port's first-fault record; the first raises FIRST_FAULT (R180). -/
def recordRefusal (h : Header) (k : Byte) (c : Status) (s : State) : State :=
  match (s.portState h.port).firstFault with
  | none =>
    (s.setPort h.port fun p =>
      { p with firstFault := some ⟨k, c, h.tag, s.now, 0⟩ }).raise (.firstFault h.port k c)
  | some f =>
    s.setPort h.port fun p => { p with firstFault := some { f with later := satInc 255 f.later } }

/-- The reply is being sent; the port notes the changes that the visit table unit `u` has seen when the
request's handling ends (R118). -/
def startReply (r : Reply) (u : VisitUnit) (p : PortState) : PortState :=
  { p with
    reply := some r
    replyLost := false
    answered := p.answered.map fun c => { c with upTo := u.made.length } }

/-- Send the one reply of a request, with its tag and kind code (R176, R180). -/
def answer (h : Header) (k : Byte) (r : Response) (s : State) : State :=
  let s1 := s.setPort h.port (startReply ⟨h.tag, k, r.status, r.result⟩ s.visit)
  if isRefusal r.status then recordRefusal h k r.status s1 else s1

/-- A NOT_PERMITTED refusal that the metrology unit counts (R151). -/
def countRejection (k : ReqKind) (s : State) : State :=
  if k.countsRejection then s.setMetro fun m => { m with rejected := satInc 65535 m.rejected }
  else s

/-- The port unit's tests and the owner's answer to a request taken from a good frame (R175). -/
def routeRequest (h : Header) (k : ReqKind) (owner : State → State × Response) (s : State) : State :=
  if !k.permitted h.port then answer h k.code (refusal .notPermitted) (countRejection k s)
  else if !h.formOk then answer h k.code (refusal .badField) s
  else
    let (s1, r) := owner s
    answer h k.code r s1

/-- A request frame arrives on a port (R173 to R176). -/
def request (h : Header) (k : ReqKind) (owner : State → State × Response) :
    State → Host.Outcome State Fault Refusal :=
  runCommand fun s =>
    let (good, p) := takeFrame s.visit (s.portState h.port)
    let s1 := s.setPort h.port fun _ => p
    if good then routeRequest h k owner (touchSession h.port s1) else s1

/-- A request that changes no state of its owner. -/
def readOnly (f : State → Response) (s : State) : State × Response := (s, f s)

/-- A refused request changes no state of its owning block (R176). -/
def refuse (s : State) (c : Status) (r : Result := .none) : State × Response := (s, refusal c r)

def accept (s : State) (r : Result := .none) : State × Response := (s, accepted r)

end Sys2Proof.Machine
end

