-- ==== Sys2Proof/Machine/Monitor.lean ====
section
/-!
DEFINITION. The deck monitor (chapters 1 and 2): stages 1 to 4 of the mass arithmetic, the
classification of a sample record, the zero logic, and what a crossing, a shunt hold's end and a
legal change do to a deck. Each works on one deck alone and notes what the other blocks are told.
-/

namespace Sys2Proof.Machine

/-! ### Stages 1 to 3 (R12 to R14) -/

/-- R12, R13: m = (r − z) × k, mg. -/
def cellMass (p : LegalParams) (d : DeckId) (raw : Vector Int 4) (c : CellId) : Int :=
  (raw[c] - p.zero[d][c]) * p.factor[d][c]

/-- R14: the sum of the cell masses ÷ 1000, to the nearest gram, ties away from zero. -/
def rawMass (p : LegalParams) (d : DeckId) (raw : Vector Int 4) : Int :=
  roundDiv (((List.finRange 4).map (cellMass p d raw)).sum) 1000

/-! ### Limits (section 2.1), in grams -/

def overloadLimit (p : LegalParams) (d : DeckId) : Int := (p.maxD[d] + 9 * p.interval) * 1000

def underloadLimit (p : LegalParams) : Int := -(20 * p.interval) * 1000

def stabBandGrams (p : LegalParams) : Int := p.stabBand * p.interval * 1000

def emptyBandGrams (p : LegalParams) : Int := p.emptyBand * p.interval * 1000

def trackingBand (p : LegalParams) : Int := p.interval * 500

def powerUpRange (p : LegalParams) (d : DeckId) : Int := p.maxD[d] * 100

def zeroRange (p : LegalParams) (d : DeckId) : Int := p.maxD[d] * 20

/-! ### What a deck tells the other blocks -/

/-- An entry to a state (R32), or a cause of the zero logic (R36 to R40). -/
inductive DeckNote where
  | entered (m : DeckMode)
  | zero (c : ZeroCause)
  deriving DecidableEq, Repr

/-- A deck with what it has noted so far, oldest first. -/
structure Monitor where
  deck : Deck
  notes : List DeckNote
  deriving DecidableEq, Repr

def Monitor.of (k : Deck) : Monitor := ⟨k, []⟩

def Monitor.mod (x : Monitor) (f : Deck → Deck) : Monitor := { x with deck := f x.deck }

def Monitor.note (x : Monitor) (n : DeckNote) : Monitor := { x with notes := x.notes ++ [n] }

/-- Enter a state: the entry number rises, wrapping, and marks the state in the history set (R32); a
settled state becomes the last settled state (R29). -/
def enterMode (m : DeckMode) (k : Deck) : Deck :=
  { k with
    mode := m
    lastSettled := if isSettled m then some m else k.lastSettled
    entryNumber := k.entryNumber + 1
    history := upd k.history (modeNumber m) fun _ => some (k.entryNumber + 1) }

def Monitor.enter (x : Monitor) (m : DeckMode) : Monitor := (x.mod (enterMode m)).note (.entered m)

/-! ### The stability window (R20) -/

/-- Append a G and drop the oldest of S + 1. -/
def windowPush (size : Nat) (w : List Int) (g : Int) : List Int :=
  if size < w.length + 1 then (w ++ [g]).drop 1 else w ++ [g]

def windowSpread : List Int → Int
  | [] => 0
  | a :: l => l.foldl max a - l.foldl min a

def windowFull (p : LegalParams) (k : Deck) : Bool := p.window ≤ k.window.length

/-- The test |mean W| ≤ empty band, made without division (R25, R38). Model's choice
(notes/assumptions/26.md): a settled deck whose window has just been emptied by the end of a shunt hold is
tested by S all the same. -/
def withinEmptyBand (p : LegalParams) (k : Deck) : Bool :=
  ((k.window.sum - p.window * k.zeroOffset).natAbs : Int) ≤ p.window * emptyBandGrams p

/-- EMPTY or STEADY, as the window stands against T (R25, R38). -/
def settledMode (p : LegalParams) (k : Deck) : DeckMode :=
  if withinEmptyBand p k then .empty else .steady

/-! ### Classification (section 2.2) -/

/-- What ends a settled state: no reference level, no settled run (R22 to R26). -/
def dropReference (k : Deck) : Deck := { k with reference := none, settledRun := 0 }

/-- R22: an invalid record. -/
def classifyInvalid (x : Monitor) : Monitor :=
  let y := x.mod fun k =>
    { dropReference k with window := [], overRun := 0, underRun := 0, trackRun := 0 }
  if x.deck.mode = .noSignal then y else y.enter .noSignal

/-- R25: the settling test of SETTLING, MOTION and NOISE. A deck that settles from SETTLING or NOISE
has its motion-entry count set to 0 (R27). -/
def settleTest (p : LegalParams) (x : Monitor) : Monitor :=
  let k := x.deck
  if windowFull p k ∧ windowSpread k.window ≤ stabBandGrams p then
    (x.mod fun k =>
      { k with
        reference := some k.window.sum
        settledRun := 1
        motionCount := if k.mode = .motion then k.motionCount else 0 }).enter (settledMode p k)
  else x

/-- R26: a sample leaves the band around the reference level. -/
def leavesBand (p : LegalParams) (k : Deck) (g : Int) : Bool :=
  p.window * stabBandGrams p < ((p.window * g - k.reference.getD 0).natAbs : Int)

/-- R26, R27: the band test of EMPTY and STEADY. -/
def bandTest (p : LegalParams) (g : Int) (x : Monitor) : Monitor :=
  let k := x.deck
  if leavesBand p k g then
    let count := satInc 16 k.motionCount
    (x.mod fun k => { dropReference k with motionCount := count }).enter
      (if count = 16 then .noise else .motion)
  else
    x.mod fun k =>
      let run := satInc p.window.toNat k.settledRun
      { k with
        settledRun := run
        motionCount := if p.window ≤ run then 0 else k.motionCount }

/-- R23, R24: the over run and the under run after a valid sample. -/
def countRuns (p : LegalParams) (d : DeckId) (w : Int) (k : Deck) : Deck :=
  { k with
    overRun := if overloadLimit p d < w then satInc 2 k.overRun else 0
    underRun := if w < underloadLimit p then satInc p.window.toNat k.underRun else 0 }

/-- The classification of a valid, unshunted sample whose G is already in the window
(R22 to R26). -/
def classifyValid (p : LegalParams) (d : DeckId) (g w : Int) (x : Monitor) : Monitor :=
  match x.deck.mode with
  | .noSignal => if windowFull p x.deck then x.enter .settling else x
  | .overload =>
    let y := x.mod (countRuns p d w)
    if overloadLimit p d < w then y else y.enter .settling
  | .underload =>
    let y := x.mod (countRuns p d w)
    if w < underloadLimit p then y else y.enter .settling
  | m =>
    let y := x.mod (countRuns p d w)
    if 2 ≤ y.deck.overRun then (y.mod dropReference).enter .overload
    else if p.window ≤ y.deck.underRun then (y.mod dropReference).enter .underload
    else if isSettled m then bandTest p g y
    else settleTest p y

/-! ### The zero logic (section 2.5) -/

/-- The settled gross of R36: (window sum − S × T) ÷ S, to the nearest gram. Model's choice
(notes/assumptions/26.md): it divides by S also while the window refills after a shunt hold, when that is
not the mean of its entries. -/
def settledGross (p : LegalParams) (k : Deck) : Int :=
  roundDiv (k.window.sum - p.window * k.zeroOffset) p.window

/-- The settled G of R36: window sum ÷ S, to the nearest gram; by S also while the window refills after a
shunt hold (notes/assumptions/26.md). -/
def settledRaw (p : LegalParams) (k : Deck) : Int := roundDiv k.window.sum p.window

/-- R38: a settled deck whose T has changed becomes EMPTY or STEADY anew; a change is an entry. -/
def reclassify (p : LegalParams) (x : Monitor) : Monitor :=
  if isSettled x.deck.mode ∧ settledMode p x.deck ≠ x.deck.mode then
    x.enter (settledMode p x.deck)
  else x

/-- R36: the power-up zero, tried once. Model's choice (notes/assumptions/60.md): a zero taken that equals
the T in force is followed by the reclassification too. -/
def powerUpZero (p : LegalParams) (d : DeckId) (clear : Bool) (x : Monitor) : Monitor :=
  let k := x.deck
  if !k.powerUpSpent ∧ isSettled k.mode ∧ clear then
    if ((settledGross p k).natAbs : Int) ≤ powerUpRange p d then
      reclassify p <| (x.mod fun k =>
        { k with
          zeroOffset := k.zeroOffset + settledGross p k
          zeroSet := true
          powerUpSpent := true }).note (.zero .zeroSet)
    else (x.mod fun k => { k with powerUpSpent := true }).note (.zero .zeroRange)
  else x

/-- Count the deadline of a pending ZERO down; on 0 it ends with MOTION (R38). -/
def countDeadline (x : Monitor) : Monitor :=
  match x.deck.pendingZero with
  | none => x
  | some n =>
    if n ≤ 1 then (x.mod fun k => { k with pendingZero := none }).note (.zero .motion)
    else x.mod fun k => { k with pendingZero := some (n - 1) }

/-- R38: the test of a pending ZERO on a sample. Model's choice (notes/assumptions/60.md): a zero taken
that equals the T in force is followed by the reclassification too. -/
def pendingZeroTest (p : LegalParams) (d : DeckId) (clear capturing : Bool) (x : Monitor) :
    Monitor :=
  let k := x.deck
  if k.pendingZero.isSome ∧ !capturing ∧ isSettled k.mode ∧ clear then
    if ((settledRaw p k).natAbs : Int) ≤ zeroRange p d then
      reclassify p <| (x.mod fun k =>
        { k with
          zeroOffset := settledRaw p k
          zeroSet := true
          powerUpSpent := true
          zeroLimit := false
          pendingZero := none }).note (.zero .zeroSet)
    else (x.mod fun k => { k with pendingZero := none }).note (.zero .zeroRange)
  else countDeadline x

/-- R39: the sample with gross `w` qualifies for tracking; `busy` is an order capture in flight or a
test capture in flight on the deck. -/
def qualifies (p : LegalParams) (clear busy : Bool) (w : Int) (k : Deck) : Bool :=
  k.mode = .empty ∧ k.zeroSet ∧ clear ∧ (w.natAbs : Int) ≤ trackingBand p ∧ !busy

/-- R39, R40: zero tracking on a sample with raw mass `g` and gross `w`. The 100th qualifying sample
makes T equal to its G, or is refused at the zero limit. Model's choices: a T that does not change value is
followed by the reclassification too (notes/assumptions/60.md); when the power-up zero or a ZERO has changed
T on the same sample, its EMPTY and its zero set are the new ones, `w` is still that of the old T, and T
becomes G (notes/assumptions/61.md). -/
def trackZero (p : LegalParams) (d : DeckId) (clear busy : Bool) (g w : Int) (x : Monitor) :
    Monitor :=
  let k := x.deck
  if qualifies p clear busy w k then
    if k.trackRun + 1 < 100 then x.mod fun k => { k with trackRun := k.trackRun + 1 }
    else if (g.natAbs : Int) ≤ zeroRange p d then
      reclassify p <| x.mod fun k =>
        { k with zeroOffset := g, trackRun := 0, zeroLimit := false }
    else if k.zeroLimit then x.mod fun k => { k with trackRun := 0 }
    else (x.mod fun k => { k with trackRun := 0, zeroLimit := true }).note (.zero .zeroLimit)
  else x.mod fun k => { k with trackRun := 0 }

/-! ### One sample record, handled whole (R21, R30) -/

/-- A sample record as the deck monitor takes it (R2, R4, R6): invalid, shunted, or valid with its
G. -/
inductive Record where
  | invalid
  | shunted
  | valid (g : Int)
  deriving DecidableEq, Repr

/-- What the deck reads of the other blocks: clear of axles (section 2.5), any capture in flight, an
order capture in flight or a test capture in flight on the deck. -/
structure Surroundings where
  clear : Bool
  capturing : Bool
  busyHere : Bool
  deriving DecidableEq, Repr

/-- R19, R20: stage 4 and the window. -/
def takeMass (p : LegalParams) (g : Int) (k : Deck) : Deck :=
  { k with
    gross := some (g - k.zeroOffset)
    window := windowPush p.window.toNat k.window g }

/-- R21 up to zero tracking: stage 4 and the window, the classification, power-up zero, the pending
ZERO. -/
def beforeTracking (p : LegalParams) (d : DeckId) (e : Surroundings) (g : Int) (k : Deck) : Monitor :=
  pendingZeroTest p d e.clear e.capturing <|
    powerUpZero p d e.clear <|
      classifyValid p d g (g - k.zeroOffset) ((Monitor.of k).mod (takeMass p g))

/-- R21: stage 4 and the window, the classification, then the zero logic. Under a shunt hold a valid
record is passed over and an invalid one is classified; a pending ZERO's deadline counts on (R30,
R38). -/
def sampleDeck (p : LegalParams) (d : DeckId) (e : Surroundings) (r : Record) (k : Deck) : Monitor :=
  match k.hold, r with
  | true, .invalid => countDeadline (classifyInvalid (.of k))
  | true, _ => countDeadline (.of k)
  | false, .invalid => countDeadline (classifyInvalid (.of k))
  | false, .shunted => countDeadline ((Monitor.of k).mod fun k => { k with trackRun := 0 })
  | false, .valid g =>
    trackZero p d e.clear e.busyHere g (g - k.zeroOffset) (beforeTracking p d e g k)

/-- The sample is the 100th of a tracking run (R39). -/
def trackingDue (p : LegalParams) (d : DeckId) (e : Surroundings) (r : Record) (k : Deck) : Bool :=
  match k.hold, r with
  | false, .valid g =>
    let y := (beforeTracking p d e g k).deck
    qualifies p e.clear e.busyHere (g - k.zeroOffset) y && 100 ≤ y.trackRun + 1
  | _, _ => false

/-! ### Notices between samples -/

/-- R28: an axle crossing at one of the deck's boundaries. A deck under a shunt hold is left to the
abandonment of the check (R30). -/
def crossDeck (k : Deck) : Monitor :=
  if k.hold then .of k
  else if isSettled k.mode then
    ((Monitor.of k).mod fun k => { dropReference k with window := [] }).enter .motion
  else if isFaultMode k.mode then .of k
  else (Monitor.of k).mod fun k => { k with window := [] }

/-- R30: a shunt check starts. -/
def holdDeck (k : Deck) : Deck := { k with hold := true }

/-- R30: the check completes; the deck goes on in EMPTY with its reference level and an empty window,
which is tested as `withinEmptyBand` says until it is whole again (notes/assumptions/26.md). -/
def completeHold (k : Deck) : Deck := { k with hold := false, window := [] }

/-- R30: the check is abandoned; a deck in EMPTY moves to SETTLING. -/
def abandonHold (k : Deck) : Monitor :=
  let x := (Monitor.of k).mod fun k => { dropReference k with hold := false, window := [] }
  if k.mode = .empty then x.enter .settling else x

/-- R31: Max_d, e, or a z or k of the deck has changed: T is 0 and the zero is to be found afresh. -/
def forgetZero (k : Deck) : Deck :=
  { k with
    zeroOffset := 0
    zeroSet := false
    powerUpSpent := false
    zeroLimit := false
    pendingZero := none }

/-- R31, R161: ADJUST_ZERO leaves T at 0 with the zero set; a settled deck whose T has changed is
reclassified (R38). Model's choice (notes/assumptions/60.md): with T at 0 already nothing has changed. -/
def adjustedZero (p : LegalParams) (k : Deck) : Monitor :=
  let x := (Monitor.of k).mod fun k =>
    { forgetZero k with zeroSet := true, powerUpSpent := true }
  if k.zeroOffset = 0 then x else reclassify p x

/-- R31: S, the stability band or the empty band has changed. -/
def restartWindow (k : Deck) : Monitor :=
  let x := (Monitor.of k).mod fun k =>
    { dropReference k with window := [], overRun := 0, underRun := 0 }
  match k.mode with
  | .empty | .steady | .motion | .noise => x.enter .settling
  | .settling | .noSignal | .overload | .underload => x

end Sys2Proof.Machine
end

