-- ==== Sys2Proof/Machine/Map.lean ====
section
/-!
DEFINITION. The decoder of a beam pair (R44, R45) and the axle map's crossings (sections 3.3, 3.4),
each on its own data; and clear of axles (section 2.5).
-/

namespace Sys2Proof.Machine

/-! ### The decoder -/

def beamBlocked : BeamState → Beam → Bool
  | .clear, _ => false
  | .u, b => b = .u
  | .both, _ => true
  | .d, b => b = .d

/-- What a transition of the decoder is (R44, R45). -/
inductive Decoded where
  | quiet
  | crossing (d : Direction)
  | phaseError
  deriving DecidableEq, Repr

/-- The rows of R44, and the jumps of R45. -/
def decodeTransition (start : StartBeam) : BeamState → BeamState → Decoded
  | .u, .clear => if start = .d then .crossing .reverse else .quiet
  | .d, .clear => if start = .u then .crossing .forward else .quiet
  | .clear, .both | .u, .d | .d, .u | .both, .clear => .phaseError
  | _, _ => .quiet

/-- The start beam after a transition (R44, R45). -/
def startAfter (start : StartBeam) : BeamState → BeamState → StartBeam
  | .clear, .u => .u
  | .clear, .d => .d
  | .u, .clear | .d, .clear => .unknown
  | .clear, .both | .u, .d | .d, .u | .both, .clear => .unknown
  | _, _ => start

/-- The decoder takes a state: a beam clear in it loses its blocked time and its stuck mark (R46). -/
def takeState (new : BeamState) (start : StartBeam) (p : Pair) : Pair :=
  { p with
    decoder := some new
    start := start
    persist := none
    stuckU := p.stuckU && beamBlocked new .u
    stuckD := p.stuckD && beamBlocked new .d
    blockedU := if beamBlocked new .u then p.blockedU else 0
    blockedD := if beamBlocked new .d then p.blockedD else 0 }

/-- A pair coming into use (R42): it starts a persistence time. Model's choice
(notes/assumptions/43.md): with a filter time of 0 it takes its first state at the next millisecond, not
with the legal write that brings it into use. -/
def pairIntoUse (p : Pair) : Pair :=
  { p with
    decoder := none
    start := .unknown
    stuckU := false
    stuckD := false
    blockedU := 0
    blockedD := 0
    persist := some 0 }

/-! ### The axle map -/

/-- Axles of a deck (section 3.3): the per-deck axle count. -/
def axlesOn (m : AxleMap) (d : DeckId) : Nat := (m.list.filter (·.deck = d)).length

/-- The indices of the front-most and the back-most axle on a deck (R74). -/
def axleRange (m : AxleMap) (d : DeckId) : Option (Nat × Nat) :=
  match m.list.filter (·.deck = d) with
  | [] => none
  | a :: l => some (a.index, (l.getLast?.getD a).index)

/-- Place the front-most record on one deck on another; it keeps its place in the list (R50). -/
def moveFirst (fromDeck toDeck : DeckId) : List Axle → List Axle
  | [] => []
  | a :: l =>
    if a.deck = fromDeck then { a with deck := toDeck } :: l else a :: moveFirst fromDeck toDeck l

/-- Place the back-most record on one deck on another (R50). -/
def moveLast (fromDeck toDeck : DeckId) (l : List Axle) : List Axle :=
  (moveFirst fromDeck toDeck l.reverse).reverse

/-- What a decoded crossing does to a VALID map (R49 to R51, R53). -/
inductive MapStep where
  | applied (m : AxleMap) (started ended : Bool)
  | fault (r : FaultReason)
  deriving DecidableEq, Repr

/-- An empty list ends the pass: direction NONE, departed count 0 (R53). -/
def closePass (m : AxleMap) : AxleMap × Bool :=
  if m.list = [] then ({ m with direction := none, departed := 0 }, true) else (m, false)

/-- The deck of the bridge nearest to end A is deck 1, that nearest to end B deck N. -/
def deckAt (n : Nat) : Option DeckId := if h : n < 4 then some ⟨n, h⟩ else none

/-- R50 within a pass of a bridge of `n` decks. The entry and exit boundaries and decks are those of
section 3.4; `j` lies in 0 to `n`. -/
def crossInPass (n : Nat) (pass : Direction) (j : Nat) (d : Direction) (m : AxleMap) :
    Except FaultReason AxleMap :=
  let onward : Bool := d = pass
  let entryB := if pass = .forward then 0 else n
  let exitB := if pass = .forward then n else 0
  let entryDeck := deckAt (if pass = .forward then 0 else n - 1)
  let exitDeck := deckAt (if pass = .forward then n - 1 else 0)
  let entrySide := deckAt (if pass = .forward then j - 1 else j)
  let exitSide := deckAt (if pass = .forward then j else j - 1)
  if j = entryB then
    match entryDeck with
    | none => .error .noAxle
    | some k =>
      if onward then
        if 16 ≤ m.list.length then .error .listFull
        else if 255 < m.departed + m.list.length + 1 then .error .indexLimit
        else .ok { m with list := m.list ++ [⟨m.departed + m.list.length + 1, k⟩] }
      else
        match m.list.getLast? with
        | some a =>
          if a.deck = k then .ok { m with list := m.list.dropLast } else .error .noAxle
        | none => .error .noAxle
  else if j = exitB then
    match exitDeck with
    | none => .error .noAxle
    | some k =>
      if onward then
        match m.list with
        | a :: l =>
          if a.deck = k then .ok { m with list := l, departed := m.departed + 1 }
          else .error .noAxle
        | [] => .error .noAxle
      else if m.departed = 0 then .error .noAxle
      else if 16 ≤ m.list.length then .error .listFull
      else .ok { m with list := ⟨m.departed, k⟩ :: m.list, departed := m.departed - 1 }
  else
    match entrySide, exitSide with
    | some en, some ex =>
      if onward then
        if axlesOn m en = 0 then .error .noAxle
        else .ok { m with list := moveFirst en ex m.list }
      else if axlesOn m ex = 0 then .error .noAxle
      else .ok { m with list := moveLast ex en m.list }
    | _, _ => .error .noAxle

/-- A decoded crossing at boundary `j` of a bridge of `n` decks, its map VALID (R49 to R53). -/
def crossMap (n : Nat) (j : Nat) (d : Direction) (m : AxleMap) : MapStep :=
  let finish (started : Bool) (r : Except FaultReason AxleMap) : MapStep :=
    match r with
    | .error e => .fault e
    | .ok m' => .applied (closePass m').1 started (closePass m').2
  match m.direction with
  | some pass => finish false (crossInPass n pass j d m)
  | none =>
    if d = .forward ∧ j = 0 then
      finish true (crossInPass n .forward j d { m with direction := some .forward })
    else if d = .reverse ∧ j = n then
      finish true (crossInPass n .reverse j d { m with direction := some .reverse })
    else .fault .notEntry

/-! ### Clear of axles -/

def pairClear (s : State) (j : Boundary) : Bool := s.axle.pairs[j].decoder = some .clear

/-- The boundaries on the end-A side and the end-B side of a deck: deck d has d − 1 and d. -/
def boundaryA (d : DeckId) : Boundary := d.castSucc

def boundaryB (d : DeckId) : Boundary := d.succ

/-- Section 2.5: by the map when it is VALID, otherwise by the pairs at the deck's boundaries. -/
def clearOfAxles (s : State) (d : DeckId) : Bool :=
  if s.axle.map.valid then axlesOn s.axle.map d = 0
  else pairClear s (boundaryA d) && pairClear s (boundaryB d)

end Sys2Proof.Machine
end

