-- ==== Sys2Proof/Machine/GroupChecks.lean ====
section
/-!
DEFINITION. The axle check unit's judgement of a stop (sections 5.3 to 5.5), on its own table.
-/

namespace Sys2Proof.Machine

/-- A group's range (R83). -/
def groupRange (g : Group) : Nat × Nat := (g.firstAxle, g.firstAxle + g.axles - 1)

/-- The tolerances and the interval that verdicts are computed with. -/
structure CheckSettings where
  axleTol : Nat
  consTol : Nat
  interval : Int
  deriving DecidableEq, Repr

/-- A table that takes a class on the first stop, or class none (R88). -/
def tableFor (c : Option (Nat × ClassEntry)) (handled : Nat) : GroupTable :=
  { GroupTable.empty with
    cls := c
    groups := match c with
      | none => []
      | some (_, e) => e.groups.map fun _ => ⟨none, .unresolved, none⟩
    stopsHandled := handled }

/-- A group offered a deck mass keeps the highest (R91). -/
def offerGroup (mass : Int) (stop : Nat) (g : GroupResult) : GroupResult :=
  match g.mass with
  | none => { g with mass := some (mass, stop) }
  | some (m, _) => if m < mass then { g with mass := some (mass, stop) } else g

/-- A combined result offered for the run of groups `first` to `last` (numbers from 1), kept in order
of first group (R92, R96). Model's choice (notes/assumptions/51.md): of two with the same first group
the one with the lower last group stands first. -/
def offerCombined (first last : Nat) (mass : Int) (stop : Nat) : List Combined → List Combined
  | [] => [⟨first, last, mass, stop, .unresolved, none⟩]
  | c :: l =>
    if c.first = first ∧ c.last = last then
      (if c.mass < mass then { c with mass := mass, stop := stop } else c) :: l
    else if first < c.first ∨ (first = c.first ∧ last < c.last) then
      ⟨first, last, mass, stop, .unresolved, none⟩ :: c :: l
    else c :: offerCombined first last mass stop l

/-- The place (from 0) of the group whose range starts at `a`, and of the one whose range ends at
`b` (R91). -/
def groupStarting (gs : List Group) (a : Nat) : Option Nat :=
  gs.findIdx? fun g => (groupRange g).1 = a

def groupEnding (gs : List Group) (b : Nat) : Option Nat :=
  gs.findIdx? fun g => (groupRange g).2 = b

/-- R91, R92: one deck's range and mass. An exact group is offered the mass; the union of two or more
consecutive groups is offered as a combined result; a cut offers nothing. -/
def judgeDeck (stop : Nat) (mass : Int) (range : Nat × Nat) (t : GroupTable) : GroupTable :=
  match t.cls with
  | none => t
  | some (_, e) =>
    match groupStarting e.groups range.1, groupEnding e.groups range.2 with
    | some i, some j =>
      if i = j then { t with groups := t.groups.modify i (offerGroup mass stop) }
      else if i < j then
        { t with combined := offerCombined (i + 1) (j + 1) mass stop t.combined }
      else t
    | _, _ => t

/-- R89 steps 3 and 4: the pass indication, then each deck with a range in deck order. -/
def judgeStop (number : Nat) (s : Stop) (t : GroupTable) : GroupTable :=
  let t1 := match s.whole with
    | some i => { t with indication := some (i, number) }
    | none => t
  s.decks.toList.foldl (fun t o =>
    match o with
    | some (mass, some range) => judgeDeck number mass range t
    | _ => t) t1

/-- R93: WITHIN or OVER, without division, with the excess of an OVER. -/
def massVerdict (c : CheckSettings) (mass permitted : Int) : Verdict × Option Int :=
  if mass * 100 ≤ permitted * (100 + c.axleTol) then (.within, none)
  else (.over, some (raiseTo (mass - permitted) c.interval))

/-- The sum of the permitted masses of groups `first` to `last`, numbered from 1 (R92). -/
def permittedSum (gs : List Group) (first last : Nat) : Nat :=
  (((gs.drop (first - 1)).take (last + 1 - first)).map (·.permitted)).sum

def recomputeGroup (c : CheckSettings) (g : Group) (r : GroupResult) : GroupResult :=
  match r.mass with
  | none => { r with verdict := .unresolved, excess := none }
  | some (m, _) =>
    let v := massVerdict c m g.permitted
    { r with verdict := v.1, excess := v.2 }

def recomputeCombined (c : CheckSettings) (gs : List Group) (r : Combined) : Combined :=
  let v := massVerdict c r.mass (permittedSum gs r.first r.last)
  { r with verdict := v.1, excess := v.2 }

/-- Every group of the class is resolved; with class none, no (R96). -/
def everyResolved (t : GroupTable) : Bool :=
  t.cls.isSome && t.groups.all fun g => g.mass.isSome

/-- The sum of the resolved masses (R94). -/
def resolvedSum (t : GroupTable) : Int :=
  (t.groups.map fun g => (g.mass.map (·.1)).getD 0).sum

/-- R94. -/
def checkConsistency (c : CheckSettings) (t : GroupTable) : Consistency :=
  match t.indication with
  | none => .notTested
  | some (i, _) =>
    if everyResolved t then
      let diff := resolvedSum t - i
      if (c.consTol : Int) * i.natAbs < (diff.natAbs : Int) * 1000 then .inconsistent diff
      else .consistent diff
    else .notTested

/-- R95. -/
def checkGross (c : CheckSettings) (t : GroupTable) : GrossVerdict :=
  match t.cls, t.indication with
  | some (_, e), some (i, _) =>
    if i ≤ e.grossLimit then .within else .over (raiseTo (i - e.grossLimit) c.interval)
  | _, _ => .notTested

/-- R89 steps 5 to 7. -/
def recompute (c : CheckSettings) (t : GroupTable) : GroupTable :=
  let gs := match t.cls with
    | some (_, e) => e.groups
    | none => []
  let t1 :=
    { t with
      groups := List.zipWith (recomputeGroup c) gs t.groups
      combined := t.combined.map (recomputeCombined c gs) }
  { t1 with
    consistency := checkConsistency c t1
    gross := checkGross c t1
    allResolved := everyResolved t1 }

/-- Handle earlier stops again, each with its own number (R90). -/
def replay (first : Nat) : List Stop → GroupTable → GroupTable
  | [], t => t
  | s :: l, t => replay (first + 1) l (judgeStop first s t)

/-- R90: rebuild the table for the stop's class from every earlier stop of the pass. -/
def rebuild (c : Option (Nat × ClassEntry)) (earlier : List Stop) (t : GroupTable) : GroupTable :=
  replay 1 earlier (tableFor c t.stopsHandled)

/-- R89: one stop, handled whole. `earlier` are the stops appended before it, `c` its class. -/
def handleStop (set : CheckSettings) (c : Option (Nat × ClassEntry)) (earlier : List Stop)
    (s : Stop) (t : GroupTable) : GroupTable :=
  let t1 := if t.cls.map (·.1) = c.map (·.1) then t else rebuild c earlier t
  let t2 := { t1 with stopsHandled := t1.stopsHandled + 1 }
  recompute set (judgeStop t2.stopsHandled s t2)

/-- The greatest excess among the groups that are OVER, or 0 (R93). -/
def largestExcess (t : GroupTable) : Int :=
  t.groups.foldl (fun m g => if g.verdict = .over then max m (g.excess.getD 0) else m) 0

/-- R96. -/
def summaryOf (t : GroupTable) : AxleSummary where
  cls := t.cls.map (·.1)
  groups := t.groups.map fun g => (g.verdict, g.mass.map (·.1), g.excess)
  combined := t.combined.map fun c => (c.first, c.last, c.mass, c.verdict, c.excess)
  indication := t.indication.map (·.1)
  consistency := t.consistency
  gross := t.gross
  largestExcess := largestExcess t

/-! ### Class entries (R83) -/

/-- The entry in the place of a code. -/
def classAt (k : AxleCheck) (code : Nat) : Option ClassEntry :=
  if h : 1 ≤ code ∧ code ≤ 32 then k.classes[code - 1]'(by omega) else none

def kindAxles : GroupKind → Nat
  | .single => 1
  | .tandem => 2
  | .triaxle => 3
  | .quad => 4

/-- The groups as carried, each starting at axle `a` or after the group before it, with kind and
permitted mass in order; and the axle after the last (R83). -/
def groupsFrom (a : Nat) : List GroupBody → Option (List Group × Nat)
  | [] => some ([], a)
  | b :: l =>
    match b.kind with
    | none => none
    | some k =>
      if b.firstAxle = a ∧ b.axles = kindAxles k ∧ 500 ≤ b.permitted ∧ b.permitted ≤ 60000 then
        (groupsFrom (a + b.axles) l).map fun r => (⟨b.firstAxle, b.axles, k, b.permitted⟩ :: r.1, r.2)
      else none

/-- The entry a body describes when every field satisfies R83. -/
def classEntryOf (b : ClassBody) : Option ClassEntry :=
  if textOk b.name ∧ 1 ≤ b.name.length ∧ b.name.length ≤ 16 ∧ 2 ≤ b.axleCount ∧ b.axleCount ≤ 12 ∧
      1 ≤ b.groups.length ∧ b.groups.length ≤ 6 ∧ 1000 ≤ b.grossLimit ∧ b.grossLimit ≤ 160000 then
    match groupsFrom 1 b.groups with
    | some (gs, next) =>
      if next = b.axleCount + 1 then some ⟨b.name, b.axleCount, gs, b.grossLimit⟩ else none
    | none => none
  else none

/-- A class's permitted total (R83). -/
def permittedTotal (e : ClassEntry) : Nat := (e.groups.map (·.permitted)).sum

end Sys2Proof.Machine
end

