-- ==== Sys2Proof/Machine/Conditions.lean ====
section
/-!
DEFINITION. What orders are judged by: the visits and classes they name, whether a visit suits a kind
(R62, R64), a plate's stored tare (R113), the capture conditions (R66) and the condition run (R67).
-/

namespace Sys2Proof.Machine

/-! ### Visits and tares by key -/

def findVisit (u : VisitUnit) (n : Nat) : Option Visit := u.visits.find? (·.number = n)

/-- A visit is live when it is OPEN or FIRST_DONE, or holds a held ticket (R101). -/
def isLive (v : Visit) : Bool := v.state = .opened ∨ v.state = .firstDone ∨ v.held.isSome

def findTare (u : VisitUnit) (plate : Text) : Option TareEntry :=
  u.tares.find? (·.plate = plate)

/-- An entry's age; 0 when its day recorded lies after today (R113). -/
def tareAge (today : Nat) (e : TareEntry) : Nat := today - e.day

/-- R113, R116. Model's choice (notes/assumptions/52.md): an entry with no uses left that is also too
old is USED_UP. -/
def tareValidity (u : VisitUnit) (today : Nat) (e : TareEntry) : TareValidity :=
  if e.uses = 0 then .usedUp else if u.validity < tareAge today e then .expired else .valid

/-- The valid stored tare of a plate (R113). -/
def validTare (u : VisitUnit) (today : Nat) (plate : Text) : Option TareEntry :=
  match findTare u plate with
  | some e => if tareValidity u today e = .valid then some e else none
  | none => none

/-! ### Orders -/

/-- FIRST_WEIGH, SECOND_WEIGH, STORED_TARE and AXLE_SURVEY (R60). -/
def isTrade (k : OrderKind) : Bool := k ≠ .check

/-- FIRST_WEIGH, SECOND_WEIGH, STORED_TARE and CHECK (R60). -/
def isWholeVehicle (k : OrderKind) : Bool := k ≠ .axleSurvey

/-- An order's class: the code of its visit, or the one a CHECK without a visit was staged with; a
code that names no entry is treated as absent (R60). -/
def orderClass (s : State) (o : Order) : Option (Nat × ClassEntry) :=
  let code := if o.visit = 0 then o.cls else (findVisit s.visit o.visit).bind (·.cls)
  code.bind fun c => (classAt s.check c).map fun e => (c, e)

/-- The second table of R62. -/
def suitsKind (o : Order) (v : Visit) : Bool :=
  match o.kind with
  | .firstWeigh => v.state = .opened
  | .secondWeigh => v.state = .firstDone ∧ (o.storeTare → v.kind = .receival)
  | .storedTare => v.state = .opened ∧ v.kind = .receival
  | .axleSurvey => v.state = .opened ∨ v.state = .firstDone
  | .check => v.state ≠ .void

/-- The examination of R64: the visit exists, holds no held ticket and suits the kind. -/
def passesExamination (s : State) (o : Order) : Bool :=
  if o.visit = 0 then true
  else
    match findVisit s.visit o.visit with
    | none => false
    | some v => v.held.isNone && suitsKind o v

/-! ### The capture conditions (R66) -/

/-- Condition 3: the pairs at boundary 0 and boundary N are CLEAR, the departed count is 0, the list
is not empty. -/
def allOn (s : State) : Bool :=
  !s.axle.map.list.isEmpty && s.axle.map.departed = 0 && pairClear s 0 &&
    pairClear s ⟨deckCount s.legal, by unfold deckCount; split <;> omega⟩

/-- Condition 8. Model's choice (notes/assumptions/68.md): the deck states are the present ones. -/
def decksStill (s : State) (k : OrderKind) : Bool :=
  s.inUse.all fun d =>
    isSettled (s.deckMode d) && !s.decks[d].hold &&
      (k ≠ .axleSurvey || axlesOn s.axle.map d = 0 || s.deckMode d = .steady)

/-- The first capture condition that fails, in the test order of R66; none when all hold. Model's choice
(notes/assumptions/68.md): a deck state that a crossing or a hold's end has changed since the deck's latest
sample counts as last offered. -/
def firstFailing (s : State) (o : Order) : Option NotReady :=
  let whole := isWholeVehicle o.kind
  if s.sessionOpen then some .session
  else if !s.axle.map.valid then some .mapInvalid
  else if whole ∧ !allOn s then some .notAllOn
  else if whole ∧ (orderClass s o).any (fun c => c.2.axleCount ≠ s.axle.map.list.length) then
    some .axleCount
  else if s.inUse.any fun d => isFaultMode (s.deckMode d) then some .deckFault
  else if s.inUse.any fun d => !s.decks[d].zeroSet then some .zeroNotSet
  else if s.inUse.any fun d => s.deckMode d = .noise then some .noise
  else if !decksStill s o.kind then some .motion
  else if s.inUse.any fun d => axlesOn s.axle.map d = 0 ∧ s.deckMode d ≠ .empty then
    some .loadWithoutAxle
  else if isTrade o.kind ∧
      (s.metro.switch = .opened ∨ s.inUse.any fun d => s.deckStatus d = .unverified) then
    some .unverified
  else none

/-- The order the conditions are tested for: the active one in WAITING or SURVEYING (R67). -/
def testedOrder (s : State) : Option Order :=
  match s.order.active with
  | some a => if a.state = .waiting ∨ a.state = .surveying then some a.order else none
  | none => none

/-- Every capture condition holds for the active order (R66, R67). -/
def conditionsHold (s : State) : Bool :=
  match testedOrder s with
  | some o => firstFailing s o = none
  | none => false

/-- A notice between two tests that makes a condition fail sets the condition run to 0 at once
(R67). Model's choice (notes/assumptions/30.md): it acts while the order is WAITING or SURVEYING, where
the run is tested; while the order is CAPTURING a notice leaves the run. -/
def noticeConditions (s : State) : State :=
  if (testedOrder s).isSome ∧ !conditionsHold s then
    s.setOrder fun u => { u with condRun := 0 }
  else s

end Sys2Proof.Machine
end

