-- ==== Sys2Proof/Machine/Status.lean ====
section
/-!
DEFINITION. Verification status (section 9.3) and its changes, with their log entries and events.
-/

namespace Sys2Proof.Machine

/-- Change a deck's status and append its STATUS_CHANGE entry, protective or deliberate; a row whose
effect leaves the status as it was appends nothing (R154). -/
def changeStatus (protective : Bool) (d : DeckId) (new : VStatus) (c : StatusCause) (s : State) :
    State :=
  let old := s.deckStatus d
  if old = new then s
  else
    let s1 := s.setMetroDeck d fun m => { m with status := new }
    if protective then s1.logProtective (.statusChange old new c) (some d)
    else s1.logDeliberate (.statusChange old new c) (some d)

/-- A status change reported as STATUS (R154, R170): the change, then its event. -/
def changeStatusWithEvent (protective : Bool) (d : DeckId) (new : VStatus) (c : StatusCause)
    (s : State) : State :=
  let old := s.deckStatus d
  if old = new then s
  else noticeConditions ((changeStatus protective d new c s).raise (.statusChanged d old new c))

/-- The status after a protective downgrade: VERIFIED and DUE become SUSPECT (R154, R156). -/
def downgraded : VStatus → VStatus
  | .verified | .due => .suspect
  | v => v

/-- A report of budget exhausted, ZERO_LIMIT or a failing shunt check, handled whole: the deck becomes
SUSPECT and a METROLOGY event names the statuses before and after (R156). -/
def reportDowngrade (c : StatusCause) (d : DeckId) (s : State) : State :=
  let before := s.deckStatus d
  noticeConditions
    ((changeStatus true d (downgraded before) c s).raise
      (.downgradeReport c d before (downgraded before)))

end Sys2Proof.Machine
end

