-- ==== Sys2Proof/Machine/Printing.lean ====
section
/-!
DEFINITION. The ticket unit's operations: printed content (section 7.6), printer lines and their
exchange (R126 to R131), slips, and the issue of a ticket (R120, R121, R124).
-/

namespace Sys2Proof.Machine

/-! ### Printed content (section 7.6) -/

/-- Class code and name; a class deleted by then is printed by code alone. -/
def classField (k : AxleCheck) (c : Option Nat) : List PrintField :=
  match c with
  | none => []
  | some code => [.cls code ((classAt k code).map (·.name))]

/-- Group verdicts when a class (always on an axle report), combined results when present, and the
checks when a class. Model's choice (notes/assumptions/69.md): the class is the axle summary's, not that of
the ticket or the order. -/
def summaryFields (always : Bool) (y : AxleSummary) : List PrintField :=
  (if always ∨ y.cls.isSome then [.groupVerdicts y.groups] else []) ++
    (if y.combined = [] then [] else [.combined y.combined]) ++
    (if y.cls.isSome then [.checks y.consistency y.gross] else [])

/-- The marks that are set, NOT FOR TRADE apart. -/
def markField (m : Marks) : List PrintField :=
  if m.due ∨ m.w1 ∨ m.w2 ∨ m.released then [.marks m.due m.w1 m.w2 m.released] else []

def massField : TicketMasses → PrintField
  | .first m r t => .firstMass m r t
  | .final g t n src gt tt => .net g t n (src = .stored) gt tt

/-- A printed ticket; NOT FOR TRADE stands first after the title. -/
def ticketFields (k : AxleCheck) (t : Ticket) (copy : Option Nat) (e : BridgeEnd) :
    List PrintField :=
  let c := t.content
  [.title .weighbridgeTicket] ++
    (if c.marks.notForTrade then [.notForTrade] else []) ++
    (match copy with | some n => [.copy n] | none => []) ++
    [.ticketNumber t.number, .ticketKind c.kind, .visit c.visit c.plate c.visitKind,
      .goods c.commodity c.grade] ++
    classField k c.cls ++ [massField c.masses] ++ summaryFields false c.summary ++
    markField c.marks ++ [.time t.issued, .cal c.cal, .printer e]

/-- A printed slip. -/
def slipFields (k : AxleCheck) (kind : SlipKind) (visit : Option Visit) (cls : Option Nat)
    (y : AxleSummary) (indication : Option Int) (m : Marks) (t : Stamp) (cal : Nat)
    (e : BridgeEnd) : List PrintField :=
  [.title (match kind with | .axleReport => .axleReport | .checkSlip => .checkSlip)] ++
    (match visit with | some v => [.visit v.number v.plate v.kind] | none => []) ++
    classField k cls ++
    (match indication with | some i => [.indication i] | none => []) ++
    summaryFields (kind = .axleReport) y ++
    (if m.notForTrade then [.notForTrade] else []) ++ markField m ++
    [.time t, .cal cal, .printer e]

/-! ### Printer lines -/

def lineOf (u : TicketUnit) : BridgeEnd → PrinterLine
  | .a => u.lineA
  | .b => u.lineB

def setLine (e : BridgeEnd) (f : PrinterLine → PrinterLine) (u : TicketUnit) : TicketUnit :=
  match e with
  | .a => { u with lineA := f u.lineA }
  | .b => { u with lineB := f u.lineB }

/-- A spool holds at most 8 jobs, counting the head job being sent (R126). -/
def hasRoom (u : TicketUnit) (e : BridgeEnd) : Bool := (lineOf u e).spool.length < 8

/-- The time a printer has for its answer, ms (R127). -/
def answerTime : Nat := 1000

/-- A READY line sends the head job of its spool as soon as it holds one (R128). -/
def sendHead (l : PrinterLine) : PrinterLine :=
  if l.state = .ready ∧ l.spool ≠ [] then
    { l with state := .sending, answerLeft := some answerTime }
  else l

/-- Append a job, in whatever state the line is in (R126). -/
def pushJob (j : Job) (l : PrinterLine) : PrinterLine := sendHead { l with spool := l.spool ++ [j] }

/-- Take the head job off and go to READY, its retry count 0, sending the next at once (R128, R129). -/
def dropHead (l : PrinterLine) : PrinterLine :=
  sendHead { l with state := .ready, spool := l.spool.tail, retry := 0, answerLeft := none }

def setPrintState (e : BridgeEnd) (p : PrintState) (t : Ticket) : Ticket :=
  match e with
  | .a => { t with printA := p }
  | .b => { t with printB := p }

def printStateOf (t : Ticket) : BridgeEnd → PrintState
  | .a => t.printA
  | .b => t.printB

/-- The ticket number of a job, none for a slip (R134). -/
def jobNumber (j : Job) : Option Nat :=
  match j.name with
  | .ticket n => some n
  | .slip _ => none

/-- An original job has ended: the ticket's print state for the printer follows, if the ticket is
still in the journal; the ending of a copy leaves it (R131). Model's choice (notes/assumptions/65.md): a
job carries the ticket number alone (R126), so where its ticket has left the journal and the number has
been issued again meanwhile, the outcome goes to the ticket that holds the number now. -/
def recordOutcome (e : BridgeEnd) (j : Job) (p : PrintState) (u : TicketUnit) : TicketUnit :=
  match j.name, j.isCopy with
  | .ticket n, false =>
    { u with
      journal := u.journal.map fun t => if t.number = n then setPrintState e p t else t }
  | _, _ => u

/-- The head job has failed: removed, marked and reported (R129). -/
def failHead (e : BridgeEnd) (s : State) : State :=
  match (lineOf s.ticket e).spool with
  | [] => s
  | j :: _ =>
    (s.setTicket fun u => setLine e dropHead (recordOutcome e j .failed u)).raise
      (.jobFailed e (jobNumber j) j.isCopy)

/-- BUSY or no answer to a print message (R129). -/
def printRefused (e : BridgeEnd) (s : State) : State :=
  let count := satInc 99 (lineOf s.ticket e).retry
  if s.ticket.limit ≠ 0 ∧ s.ticket.limit ≤ count then failHead e s
  else
    s.setTicket fun u => setLine e (fun l =>
      { l with state := .retryWait, retry := count, waitLeft := u.interval * 1000,
               answerLeft := none }) u

/-- ACCEPT of a print message (R128, R131). -/
def printTaken (e : BridgeEnd) (s : State) : State :=
  match (lineOf s.ticket e).spool with
  | [] => s
  | j :: _ => s.setTicket fun u => setLine e dropHead (recordOutcome e j .printed u)

/-- NO_PAPER (`paper`) or FAULT to a print message (R130). -/
def printerFails (e : BridgeEnd) (paper : Bool) (s : State) : State :=
  (s.setTicket fun u => setLine e (fun l =>
    { l with state := .offline, waitLeft := u.interval * 1000, answerLeft := none }) u).raise
    (.printerOffline e paper)

/-- Queue a slip on one printer; a slip that finds the spool full is discarded (R126). -/
def queueSlip (e : BridgeEnd) (k : SlipKind) (content : List PrintField) (s : State) : State :=
  if hasRoom s.ticket e then
    s.setTicket (setLine e (pushJob ⟨.slip k, false, content⟩))
  else s.raise (.spoolFull e none)

/-! ### Issue (R120, R121) -/

/-- The number after the counter; 999,999 is followed by 1 (R120). -/
def nextTicket (counter : Nat) : Nat := if 999999 ≤ counter then 1 else counter + 1

/-- Whether a ticket is to be queued on a printer: the exit end, and with the copy setting ON the
other (R126). -/
def destined (u : TicketUnit) (exit e : BridgeEnd) : Bool := e = exit ∨ u.copyOn

/-- A new ticket's print state for a printer: QUEUED or UNPRINTED as the spool stands (R126). -/
def newPrintState (u : TicketUnit) (exit e : BridgeEnd) : PrintState :=
  if destined u exit e then (if hasRoom u e then .queued else .unprinted) else .none

/-- Enter a record at the journal's end; of 512 the oldest leaves (R124). -/
def journalAppend (j : List Ticket) (t : Ticket) : List Ticket :=
  if 512 ≤ j.length then j.drop 1 ++ [t] else j ++ [t]

/-- The ticket that an issue of the content makes at a time (R121, R122). -/
def newTicket (u : TicketUnit) (c : TicketContent) (t : Stamp) : Ticket where
  number := nextTicket u.counter
  content := c
  issued := t
  printA := newPrintState u c.exit .a
  printB := newPrintState u c.exit .b
  copies := 0

/-- Steps 1 and 2 of R121: the number is taken, the record journaled. -/
def enterTicket (t : Ticket) (u : TicketUnit) : TicketUnit :=
  { u with counter := t.number, journal := journalAppend u.journal t }

/-- Queue a ticket on one printer as its print state says (R126). -/
def queueTicket (t : Ticket) (e : BridgeEnd) (s : State) : State :=
  match printStateOf t e with
  | .queued =>
    s.setTicket (setLine e (pushJob ⟨.ticket t.number, false, ticketFields s.check t none e⟩))
  | .unprinted => s.raise (.spoolFull e (some t.number))
  | _ => s

/-- Steps 3 and 4 of R121: the TICKET event, then the printers, the exit end first. -/
def reportTicket (t : Ticket) (s : State) : State :=
  queueTicket t (otherEnd t.content.exit) <|
    queueTicket t t.content.exit <|
      s.raise (.ticketIssued t.number t.content.kind t.content.visit t.content.marks)

end Sys2Proof.Machine
end

