-- ==== Sys2Proof/Machine/VisitOps.lean ====
section
/-!
DEFINITION. The visit table unit's operations on its own tables: changes of a visit (R105), visit
numbers (R102), eviction (R104), held weighings (R111), stored tares (R113, R115), and every change of
its retained state (R118).
-/

namespace Sys2Proof.Machine

/-! ### The visit table -/

def updateVisit (n : Nat) (f : Visit → Visit) (u : VisitUnit) : VisitUnit :=
  { u with visits := u.visits.map fun v => if v.number = n then f v else v }

/-- One change of a visit raises its revision by 1, wrapping (R105). -/
def changeVisit (n : Nat) (f : Visit → Visit) (u : VisitUnit) : VisitUnit :=
  updateVisit n (fun v => { f v with revision := v.revision + 1 }) u

/-- Whether any visit is live (R117). -/
def anyLive (u : VisitUnit) : Bool := u.visits.any isLive

/-- A live visit other than `n` carries the plate (R101, R106); visit 0 is no visit. -/
def plateHeld (u : VisitUnit) (n : Nat) (plate : Text) : Bool :=
  u.visits.any fun v => isLive v ∧ v.number ≠ n ∧ v.plate = plate

/-- An OPEN or FIRST_DONE visit names the class (R84, R85). -/
def classInUse (u : VisitUnit) (code : Nat) : Bool :=
  u.visits.any fun v => (v.state = .opened ∨ v.state = .firstDone) ∧ v.cls = some code

/-- The number after a visit number; 9999 wraps to 1 (R102). -/
def stepNumber (n : Nat) : Nat := if 9999 ≤ n then 1 else n + 1

/-- The first number after `n` that no visit holds, found within the given steps (R102). -/
def freeNumber (u : VisitUnit) : Nat → Nat → Nat
  | 0, n => stepNumber n
  | k + 1, n =>
    if (findVisit u (stepNumber n)).isSome then freeNumber u k (stepNumber n) else stepNumber n

/-- R102: at most 64 numbers are held, so 65 steps find a free one. -/
def nextVisitNumber (u : VisitUnit) : Nat := freeNumber u 64 u.counter

def stampBefore (a b : Stamp) : Bool := a.day < b.day ∨ (a.day = b.day ∧ a.sec < b.sec)

/-- The visit of the order whose capture is in flight, 0 for none (R104). -/
def capturingVisit (o : OrderUnit) : Nat :=
  match o.active with
  | some a => if a.state = .capturing then a.order.visit else 0
  | none => 0

/-- R104. -/
def evictable (busy : Nat) (v : Visit) : Bool :=
  (v.state = .closed ∨ v.state = .void) ∧ v.held.isNone ∧ v.number ≠ busy

/-- The visit with the oldest opened time, the earliest in opening order among equals (R104). -/
def oldestOf : List Visit → Option Visit
  | [] => none
  | v :: l =>
    match oldestOf l with
    | none => some v
    | some w => if stampBefore w.openedAt v.openedAt then some w else some v

def evictionChoice (busy : Nat) (u : VisitUnit) : Option Visit :=
  oldestOf (u.visits.filter (evictable busy))

/-! ### Held weighings (R111) -/

/-- Enter the issued number in each weighing that waits for one. -/
def fillNumber (n : Nat) (w : Option Weighing) : Option Weighing :=
  w.map fun w => if w.ticket = none then { w with ticket := some n } else w

/-- Release: the number enters the held weighing, the held summary becomes the visit's (R111). -/
def releaseVisit (n : Nat) (v : Visit) : Visit :=
  match v.held with
  | none => v
  | some h =>
    { v with
      first := fillNumber n v.first
      second := fillNumber n v.second
      summary := some h.content.summary
      held := none }

/-- Rejection: the held weighing is removed, or both of a held STORED_TARE, and the visit returns to
the state it held before (R111, R146). -/
def rejectVisit (v : Visit) : Visit :=
  match v.held with
  | none => v
  | some h =>
    match h.content.masses with
    | .first _ _ _ => { v with first := none, net := none, held := none, state := .opened }
    | .final _ _ _ .stored _ _ =>
      { v with first := none, second := none, net := none, held := none, state := .opened }
    | .final _ _ _ .captured _ _ =>
      { v with second := none, net := none, held := none, state := .firstDone }

/-! ### AMEND_VISIT -/

/-- A class code 1..32, or 0 for none (R103, R106). -/
def classOf (code : Nat) : Option Nat := if code = 0 then none else some code

/-- Fields not carried are left unchanged (R106). -/
def amend (a : Amendment) (v : Visit) : Visit :=
  { v with
    plate := a.plate.getD v.plate
    commodity := a.commodity.getD v.commodity
    grade := a.grade.getD v.grade
    cls := match a.cls with
      | some c => classOf c
      | none => v.cls }

/-! ### Changes -/

/-- What a weighing step or the end of a hold changes of a visit: all that its new record `v` does not
share with its opening and its amendments (R111). -/
def takeRecord (v x : Visit) : Visit :=
  { x with
    state := v.state, first := v.first, second := v.second, net := v.net, summary := v.summary,
    held := v.held, w1 := v.w1, w2 := v.w2 }

/-- What a change makes of the visit table unit: the one place where the tables, the counter and the
settings change. -/
def applyChange (c : VisitChange) (u : VisitUnit) : VisitUnit :=
  match c with
  | .opened v => { u with visits := u.visits ++ [v], counter := v.number }
  | .amended n a => changeVisit n (amend a) u
  | .voided n => changeVisit n (fun v => { v with state := .void }) u
  | .removed n => { u with visits := u.visits.filter (·.number ≠ n) }
  | .recorded v => changeVisit v.number (takeRecord v) u
  | .surveyed n y => changeVisit n (fun v => { v with summary := some y }) u
  | .tareWritten e replaced =>
    { u with tares := u.tares.filter (fun x => x.plate ≠ e.plate ∧ some x.plate ≠ replaced) ++ [e] }
  | .tareUsed plate =>
    { u with
      tares := u.tares.map fun e => if e.plate = plate then { e with uses := e.uses - 1 } else e }
  | .tareDeleted plate => { u with tares := u.tares.filter (·.plate ≠ plate) }
  | .rulesSet validity uses => { u with validity := validity, initialUses := uses }
  | .cleared => { u with visits := [], tares := [] }

/-- Make a change, and note it among those made (R118). -/
def make (c : VisitChange) (u : VisitUnit) : VisitUnit :=
  { applyChange c u with made := u.made ++ [c] }

/-! ### Stored tares -/

/-- The stored tare with the oldest day recorded, the earliest written among equals (R115). -/
def oldestTare : List TareEntry → Option TareEntry
  | [] => none
  | e :: l =>
    match oldestTare l with
    | none => some e
    | some f => if f.day < e.day then some f else some e

/-- The plate of the entry that a write for `plate` replaces for lack of room (R115). -/
def tareReplaced (u : VisitUnit) (plate : Text) : Option Text :=
  if (findTare u plate).isSome ∨ u.tares.length < 128 then none
  else (oldestTare u.tares).map (·.plate)

/-- R115: the write of an entry. -/
def tareWrite (u : VisitUnit) (plate : Text) (tare : Int) (day : Nat) : VisitChange :=
  .tareWritten ⟨plate, tare, day, u.initialUses⟩ (tareReplaced u plate)

/-- A visit's captured tare weighing (R115). -/
def capturedTare (v : Visit) : Option Weighing :=
  [v.first, v.second].filterMap id |>.find? fun w => w.role = .tare ∧ w.source = .captured

/-- The write of the store-tare flag at issue: never a tare that carries NOT_FOR_TRADE (R115). -/
def storeAtIssue (flag : Bool) (n : Nat) (u : VisitUnit) : VisitUnit :=
  match findVisit u n with
  | none => u
  | some v =>
    match flag, capturedTare v with
    | true, some w => if w.notForTrade then u else make (tareWrite u v.plate w.mass w.time.day) u
    | _, _ => u

end Sys2Proof.Machine
end

