-- ==== Sys2Proof/Machine/OrderOps.lean ====
section
/-!
DEFINITION. The order queue's operations: leaving and promotion (R64, R65), the abort of a capture
(R71), the completion of a survey (R76), the end of a pass (R53, R65, R88) and the visit table's
reports to its neighbours (R108).
-/

namespace Sys2Proof.Machine

/-! ### Leaving and promotion -/

/-- An order leaves the queue: an ORDER event with its result (R65, R79). -/
def raiseLeft (o : Order) (r : OrderResult) (s : State) : State :=
  s.raise (.orderLeft o.visit o.kind r)

/-- An order becoming active takes the state WAITING (R61); its condition run is 0. -/
def activate (o : Order) (s : State) : State :=
  s.setOrder fun u => { u with active := some ⟨o, .waiting, 0, none⟩, condRun := 0 }

/-- Promotion through the staged orders, each examined in its turn (R64). -/
def promoteFrom : List Order → State → State
  | [], s => s.setOrder fun u => { u with staged := [] }
  | o :: l, s =>
    if passesExamination s o then activate o (s.setOrder fun u => { u with staged := l })
    else promoteFrom l (raiseLeft o .stale s)

/-- R64: the active slot is empty. -/
def promote (s : State) : State := promoteFrom s.order.staged s

/-- The active order leaves with a result and promotion follows (R65). -/
def leaveActive (r : OrderResult) (s : State) : State :=
  match s.order.active with
  | none => s
  | some a =>
    promote (raiseLeft a.order r (s.setOrder fun u => { u with active := none, condRun := 0 }))

/-- An active order in WAITING or SURVEYING is examined again on a report of its visit (R64). -/
def examineActive (visit : Nat) (s : State) : State :=
  match testedOrder s with
  | some o => if o.visit = visit ∧ !passesExamination s o then leaveActive .stale s else s
  | none => s

/-! ### Reports of the visit table unit (R108, R142) -/

/-- The watch unit takes a visit off the armed-visit list (R142). -/
def disarm (visit : Nat) (s : State) : State :=
  s.setWatch fun w => { w with armed := w.armed.filter (· ≠ visit) }

/-- An amendment is reported to the order controller. -/
def reportAmended (visit : Nat) (s : State) : State :=
  noticeConditions (examineActive visit s)

/-- A void, a removal or an eviction is reported to the order controller and the watch unit. -/
def reportGone (visit : Nat) (s : State) : State := disarm visit (examineActive visit s)

/-! ### Captures -/

/-- R71: a capture in flight is aborted; the order returns to the state it started from. -/
def abortCapture (c : AbortCause) (s : State) : State :=
  match s.order.engine, s.order.active with
  | some e, some a =>
    (s.setOrder fun u =>
      { u with
        engine := none
        condRun := 0
        active := some { a with state := e.fromState } }).raise
      (.orderAborted a.order.visit a.order.kind c)
  | _, _ => s

/-- The active order takes a state. -/
def setActiveState (st : OrderState) (s : State) : State :=
  s.setOrder fun u => { u with active := u.active.map fun a => { a with state := st } }

/-- The active order becomes COMPLETE, with an ORDER event (R75, R79). -/
def completeActive (ticket : Option Nat) (s : State) : State :=
  match s.order.active with
  | none => s
  | some a =>
    (setActiveState .complete s).raise (.orderComplete a.order.visit a.order.kind ticket)

/-! ### Surveys and passes -/

/-- The exit end of a pass: end B of a FORWARD pass; printer A when there was no pass (R119). -/
def exitEnd : Option Direction → BridgeEnd
  | some .forward => .b
  | some .reverse => .a
  | none => .a

/-- An AXLE_SURVEY becomes COMPLETE: its summary goes to the visit as one change (R112), and an axle
report slip with the marks of the last stop to the exit-end printer (R76). Model's choice
(notes/assumptions/54.md): the slip prints the calibration counter in force when the survey completes, and
the class of the axle summary, not that of a visit amended since its last stop. -/
def finishSurvey (s : State) : State :=
  match s.order.active with
  | none => s
  | some a =>
    let y := summaryOf s.check.table
    let s1 := s.setVisit (make (.surveyed a.order.visit y))
    let (dir, marks) := a.lastStop.getD (none, ⟨false, false, false, false, false⟩)
    let e := exitEnd dir
    let content := slipFields s1.check .axleReport (findVisit s1.visit a.order.visit) y.cls y
      y.indication marks s1.now s1.metro.cal e
    completeActive none (queueSlip e .axleReport content s1)

/-- A survey that is COMPLETE while no pass is in progress leaves with DONE at once (R76). -/
def leaveWithoutPass (s : State) : State :=
  if s.axle.map.direction = none then leaveActive .done s else s

/-- The stop list and the group result table are emptied, when a pass starts and when it ends (R65,
R88). -/
def emptyStops (s : State) : State :=
  (s.setOrder fun u => { u with stops := [] }).setCheck fun k => { k with table := .empty }

/-- The active order at a pass end (R65). -/
def passEndActive (s : State) : State :=
  match s.order.active with
  | none => s
  | some a =>
    match a.state with
    | .waiting => s.setOrder fun u => { u with condRun := 0 }
    | .surveying => leaveActive .done (finishSurvey s)
    | .complete => leaveActive .done s
    | .held => leaveActive .held s
    | .capturing => s

/-- The end of a pass is reported to the order controller (R53, R65). A survey hands its group results
on before they are emptied. -/
def passEnd (s : State) : State :=
  (emptyStops (passEndActive s)).setOrder fun u => { u with crossingSince := false }

/-- The map has become INVALID, or a crossing was applied, or a beam erred: a capture in flight is
aborted AXLE_MOVED (R71), and a condition that fails sets the run to 0 (R67). -/
def axleMoved (s : State) : State := noticeConditions (abortCapture .axleMoved s)

/-! ### Recovery of the map (R55) -/

/-- R55: no session is open, every deck in use is EMPTY, every pair in use is CLEAR. -/
def mapCanRecover (s : State) : Bool :=
  !s.axle.map.valid && !s.sessionOpen && (s.inUse.all fun d => s.deckMode d = .empty) &&
    (pairsInUse s.legal).all (pairClear s)

/-- R55: the map becomes VALID and empty; the order controller is told of the recovery and, when a
pass was frozen, of its end. -/
def recoverMap (s : State) : State :=
  if mapCanRecover s then
    let ended := s.axle.map.direction.isSome
    let s1 := (s.setMap fun _ => ⟨true, none, [], 0⟩).raise (.mapValid ended)
    if ended then passEnd s1 else s1
  else s

end Sys2Proof.Machine
end

