-- ==== Sys2Proof/Machine/Session.lean ====
section
/-!
DEFINITION. Shunt measurements and their abandonment (R164 to R167), the outcome of a session
operation (R159), and the end of an audit session (R158).
-/

namespace Sys2Proof.Machine

/-! ### What a deck monitor's notes bring about -/

/-- An entry to NOSIGNAL, OVERLOAD, UNDERLOAD or NOISE raises a DECK event (R35). -/
def raisesEntry (m : DeckMode) : Bool := isFaultMode m ∨ m = .noise

/-- A note of a deck monitor: its DECK event (R35 to R40), and for ZERO_LIMIT its report (R40). -/
def handleNote (d : DeckId) (s : State) : DeckNote → State
  | .entered m => if raisesEntry m then s.raise (.deckEntered d m) else s
  | .zero .zeroLimit => reportDowngrade .zeroLimit d (s.raise (.deckZero d .zeroLimit))
  | .zero c => s.raise (.deckZero d c)

/-- Entries to EMPTY among a deck's notes. -/
def emptyEntries (ns : List DeckNote) : Nat := (ns.filter (· = .entered .empty)).length

/-- Each entry to EMPTY adds 1 to the entry count of a PERIODIC deck, stopping at P (R164). -/
def countEntries (n : Nat) (m : MetroDeck) : MetroDeck :=
  match m.shuntMode with
  | .periodic p => { m with entryCount := min p (m.entryCount + n) }
  | _ => m

/-- Put a monitor's deck in place and bring its notes about. -/
def applyMonitor (d : DeckId) (x : Monitor) (s : State) : State :=
  x.notes.foldl (handleNote d)
    ((s.setDeck d fun _ => x.deck).setMetroDeck d (countEntries (emptyEntries x.notes)))

/-! ### Shunt measurements -/

/-- Switch one cell's shunt (R6). -/
def switchShunt (d : DeckId) (c : CellId) (on : Bool) (s : State) : State :=
  s.setFront d fun f => { f with cells := upd f.cells c fun ch => { ch with shunt := on } }

/-- A measurement before its first sample (R165). -/
def newRun (forReference : Bool) : ShuntRun := ⟨forReference, 0, .measureOff, 0, 0, 0, []⟩

/-- Start a measurement under a shunt hold (R165, R167). -/
def startRun (forReference : Bool) (d : DeckId) (s : State) : State :=
  (s.setDeck d holdDeck).setMetroDeck d fun m => { m with run := some (newRun forReference) }

/-- The shunt scheduler's conditions on an entry to EMPTY (R164, R186). -/
def checkDue (s : State) (d : DeckId) : Bool :=
  let m := s.metro.decks[d]
  (match m.shuntMode with
    | .off => false
    | .oneShot => true
    | .periodic p => p ≤ m.entryCount) &&
  s.deckMode d = .empty && clearOfAxles s d && !s.sessionOpen && !s.orderCapture &&
  m.run.isNone && !s.decks[d].hold && (shuntParams d).all (inRange s.legal)

/-- Start a check; in PERIODIC mode the entry count returns to 0 (R164). -/
def startCheck (d : DeckId) (s : State) : State :=
  startRun false d (s.setMetroDeck d fun m =>
    match m.shuntMode with
    | .periodic _ => { m with entryCount := 0 }
    | _ => m)

/-- The measurement's shunt goes OFF, the run is dropped, the hold ends as for abandonment; a check of
PERIODIC mode is due again at the next entry (R30, R166, R167). Model's choice (notes/assumptions/71.md): the
mode is the one in force at the abandonment. -/
def abandonRun (d : DeckId) (s : State) : State :=
  match s.metro.decks[d].run with
  | none => s
  | some r =>
    let s1 := (switchShunt d r.cell false s).setMetroDeck d fun m =>
      { m with
        run := none
        entryCount := match r.forReference, m.shuntMode with
          | false, .periodic p => p
          | _, _ => m.entryCount }
    applyMonitor d (abandonHold s1.decks[d]) s1

/-! ### Session operations (R159) -/

/-- Change the session record. -/
def setSession (f : Session → Session) (s : State) : State :=
  s.setMetro fun m => { m with session := m.session.map f }

/-- The operation in flight is over; its reserved entries are released (R159). -/
def clearOperation (s : State) : State := setSession (fun r => { r with op := none }) s

/-- Raise the outcome of an operation (R159, R170). -/
def raiseOutcome (o : Operation) (r : OpOutcome) (s : State) : State :=
  s.raise (.operationEnded o.kind o.deck r)

/-- An operation ends ABORTED: no result and no change (R159). -/
def abortOperation (c : AbortCause) (s : State) : State :=
  match s.operation with
  | none => s
  | some o => raiseOutcome o (.aborted c) (clearOperation s)

/-- A cause of abandonment on a deck under a measurement (R166, R167). -/
def abandonOn (c : AbortCause) (d : DeckId) (s : State) : State :=
  match s.metro.decks[d].run with
  | none => s
  | some r => if r.forReference then abortOperation c (abandonRun d s) else abandonRun d s

/-- A test capture on the deck is aborted when the deck leaves EMPTY or STEADY (R159). -/
def abortTestCapture (d : DeckId) (s : State) : State :=
  if s.testCaptureOn d ∧ !isSettled (s.deckMode d) then
    abortOperation (if isFaultMode (s.deckMode d) then .deckFault else .motion) s
  else s

/-! ### The end of a session (R158) -/

/-- The operation in flight is abandoned without a result and without an OPERATION event. -/
def abandonOperation (s : State) : State :=
  match s.operation with
  | none => s
  | some o => clearOperation (if o.kind = .recordShuntRef then abandonRun o.deck s else s)

/-- R158: one step. Model's choice (notes/assumptions/28.md): the activity time keeps the value it had
at the end, which READ_SESSION then gives. -/
def endSession (c : SessionEndCause) (s : State) : State :=
  if s.sessionOpen then
    let s1 := (abandonOperation s).logProtective (.sessionEnd c)
    let s2 := setSession (fun r => { r with isOpen := false }) s1
    let s3 := s2.setMetro fun m => { m with marker := false }
    (recoverMap s3).raise (.sessionEnded c)
  else s

/-! ### Port reset (R181) -/

/-- The reset of one port: receiver in HUNT, no reply being sent, its counts, events, mask and first
fault cleared; the rate stays. -/
def resetPortState (p : PortState) : PortState :=
  { PortState.start p.rate with lineRate := p.lineRate }

/-- R181, in its order. -/
def resetPort (p : Port) (c : ResetCause) (s : State) : State :=
  let s1 := s.setPort p resetPortState
  let s2 := if p = .inspection then endSession .portReset s1 else s1
  s2.raise (.portReset p c)

/-- A new line rate applies to a port: a frame being received is discarded and counted, and the rest
of a reply being sent will not be understood (R172). Model's choice (notes/assumptions/67.md): where the
port's own change still waits for its reply's end, another port's later change overtakes it: the change
that waited is dropped, and the rate set last stays. -/
def applyRate (p : PortState) : PortState :=
  { p with
    lineRate := p.rate
    rateDeferred := false
    receiver := if p.receiver = .receiving then .hunt else p.receiver
    overrun := false
    discarded :=
      if p.receiver = .receiving ∨ p.overrun then satInc 65535 p.discarded else p.discarded
    replyLost := p.replyLost || p.receiver = .answering }

end Sys2Proof.Machine
end

