-- ==== Sys2Proof/Machine/PortCommands.lean ====
section
/-!
DEFINITION. The port unit's own commands (chapter 10): its requests, and the events of the service
lines.
-/

namespace Sys2Proof.Machine

/-! ### Operands -/

/-- A text field whose characters are not all from 20h to 7Eh fails the port unit's test (R175). -/
def withTexts (h : Header) (ts : List Text) : Header :=
  { h with formOk := h.formOk && ts.all textOk }

/-- A port named 1 to 3, or 0 for the port the request arrives on (R180, R182). -/
def portNamed (h : Header) (n : Nat) : Option Port :=
  if n = 0 then some h.port else portNumbered n

/-- A category numbered 1 to 9 (section 10.4). -/
def categoryNumbered (n : Nat) : Option (Fin 9) :=
  if h : 1 ≤ n ∧ n ≤ 9 then some ⟨n - 1, by omega⟩ else none

/-- No element occurs twice. -/
def noRepeats {α : Type} [DecidableEq α] : List α → Bool
  | [] => true
  | a :: l => !l.contains a && noRepeats l

/-! ### READ_EVENTS, CLEAR_EVENTS, SET_EVENT_MASK (R178, R179) -/

def readEventsReply (h : Header) (s : State) : Response :=
  accepted (.events (s.portState h.port).events (s.portState h.port).mask)

def execReadEvents (h : Header) (s : State) : Host.Outcome State Fault Refusal :=
  request h .readEvents (readOnly (readEventsReply h)) s

/-- The event set after a clear of the listed categories whose counts match. -/
def clearCells (list : List (Nat × Nat)) (v : Vector EventCell 9) : Vector EventCell 9 :=
  vgen fun c =>
    if list.contains (c.val + 1, v[c].count) then ⟨0, none⟩ else v[c]

/-- The listed categories whose counts differ, with their current counts. Model's choice
(notes/assumptions/72.md): they stand in the order of the request's list. -/
def inhibitedCells (list : List (Nat × Nat)) (v : Vector EventCell 9) : List (Nat × Nat) :=
  list.filterMap fun x =>
    match categoryNumbered x.1 with
    | some c => if v[c].count = x.2 then none else some (x.1, v[c].count)
    | none => none

def ownClearEvents (h : Header) (list : List (Nat × Nat)) (s : State) : State × Response :=
  if list.all (fun x => (categoryNumbered x.1).isSome) ∧ noRepeats (list.map (·.1)) then
    accept (s.setPort h.port fun p => { p with events := clearCells list p.events })
      (.inhibitedEvents (inhibitedCells list (s.portState h.port).events))
  else refuse s .badField

def execClearEvents (h : Header) (list : List (Nat × Nat)) (s : State) :
    Host.Outcome State Fault Refusal :=
  request h .clearEvents (ownClearEvents h list) s

def ownSetEventMask (h : Header) (mask : Vector Bool 9) (s : State) : State × Response :=
  accept (s.setPort h.port fun p => { p with mask := mask })

def execSetEventMask (h : Header) (mask : Vector Bool 9) (s : State) :
    Host.Outcome State Fault Refusal :=
  request h .setEventMask (ownSetEventMask h mask) s

/-! ### READ_FAULT, CLEAR_FAULT (R180) -/

def readFaultReply (h : Header) (n : Nat) (s : State) : Response :=
  match portNamed h n with
  | some p => accepted (.fault (s.portState p).firstFault)
  | none => refusal .badField

def execReadFault (h : Header) (port : Nat) (s : State) : Host.Outcome State Fault Refusal :=
  request h .readFault (readOnly (readFaultReply h port)) s

def ownClearFault (h : Header) (s : State) : State × Response :=
  accept (s.setPort h.port fun p => { p with firstFault := none })

def execClearFault (h : Header) (s : State) : Host.Outcome State Fault Refusal :=
  request h .clearFault (ownClearFault h) s

/-! ### RESET_PORT, READ_PORT, SET_PORT_RATE (R181, R182, R172) -/

/-- The reset is taken when the reply has been sent. It resets the port the request arrives on. -/
def ownResetPort (h : Header) (s : State) : State × Response :=
  accept (s.setPort h.port fun p => { p with resetDeferred := true })

def execResetPort (h : Header) (s : State) : Host.Outcome State Fault Refusal :=
  request h .resetPort (ownResetPort h) s

def readPortReply (h : Header) (n : Nat) (s : State) : Response :=
  match portNamed h n with
  | some p =>
    let x := s.portState p
    accepted (.port p x.lineRate x.receiver x.discarded x.mask
      (attentionOf x) x.firstFault.isSome)
  | none => refusal .badField

def execReadPort (h : Header) (port : Nat) (s : State) : Host.Outcome State Fault Refusal :=
  request h .readPort (readOnly (readPortReply h port)) s

/-- The new rate waits for the reply's end on the requesting port, and applies at once on another. -/
def ownSetPortRate (h : Header) (n code : Nat) (s : State) : State × Response :=
  match portNumbered n with
  | none => refuse s .badField
  | some p =>
    let r := clamp 0 3 code
    let s1 := s.setPort p fun x => { x with rate := r }
    let s2 :=
      if p = h.port then s1.setPort p fun x => { x with rateDeferred := true }
      else s1.setPort p applyRate
    accept s2 (.taken [r])

def execSetPortRate (h : Header) (port code : Nat) (s : State) :
    Host.Outcome State Fault Refusal :=
  request h .setPortRate (ownSetPortRate h port code) s

/-! ### An unknown kind code (R175) -/

/-- A kind code that is not in the table is refused UNKNOWN_REQUEST. A code that is in the table is
judged as its own kind with a body that has not the form of the kind. -/
def answerUnknown (h : Header) (code : Byte) (s : State) : State :=
  match kindOfCode code with
  | none => answer h code (refusal .unknownRequest) s
  | some k => routeRequest { h with formOk := false } k (fun s => refuse s .badField) s

def execUnknownRequest (h : Header) (code : Byte) (s : State) : Host.Outcome State Fault Refusal :=
  runCommand (fun s =>
    let (good, p) := takeFrame s.visit (s.portState h.port)
    let s1 := s.setPort h.port fun _ => p
    if good then answerUnknown h code (touchSession h.port s1) else s1) s

/-! ### Events of the service lines (R173, R174, R181) -/

/-- One more frame discarded; the receiver goes to HUNT unless it is ANSWERING. -/
def discardFrame (p : PortState) : PortState :=
  { p with
    discarded := satInc 65535 p.discarded
    overrun := false
    receiver := if p.receiver = .answering then .answering else .hunt }

/-- A byte of A5h starts a frame in HUNT; while ANSWERING it starts one that will be discarded. -/
def startFrame (p : PortState) : PortState :=
  match p.receiver with
  | .hunt => { p with receiver := .receiving }
  | .receiving => p
  | .answering => { p with overrun := true }

def execFrameSyncReceived (port : Port) (s : State) : Host.Outcome State Fault Refusal :=
  runCommand (fun s => s.setPort port startFrame) s

/-- A frame is discarded and counted, whatever found it bad (R173, R174). -/
def discardFor (cause : DiscardCause) (p : PortState) : PortState :=
  match cause with
  | .badLength | .framingError | .badCrc => discardFrame p
  | .duringAnswer => if p.receiver = .answering ∨ p.overrun then discardFrame p else p

def execFrameDiscarded (port : Port) (cause : DiscardCause) (s : State) :
    Host.Outcome State Fault Refusal :=
  runCommand (fun s => s.setPort port (discardFor cause)) s

/-- A gap of more than 50 ms discards the frame being read; with no frame being read it is nothing. -/
def gapTimeout (p : PortState) : PortState :=
  if p.receiver = .receiving ∨ p.overrun then discardFrame p else p

def execByteGapTimeout (port : Port) (s : State) : Host.Outcome State Fault Refusal :=
  runCommand (fun s => s.setPort port gapTimeout) s

/-- The last byte of the reply has been sent: the receiver returns to HUNT (R174). A frame whose sync
arrived during the reply is still read to its end. -/
def finishReply (p : PortState) : PortState :=
  { p with receiver := .hunt, reply := none, replyLost := false, answered := none }

/-- What waits for the end of a reply takes place: a rate change (R172), a port reset (R181). -/
def takeDeferred (port : Port) (s : State) : State :=
  let p := s.portState port
  let s1 := if p.rateDeferred then s.setPort port applyRate else s
  if p.resetDeferred then resetPort port .request s1 else s1

/-- Without a reply being sent there is nothing to end. -/
def replyEnds (port : Port) (s : State) : State :=
  if (s.portState port).receiver = .answering then takeDeferred port (s.setPort port finishReply)
  else s

def execReplySent (port : Port) (s : State) : Host.Outcome State Fault Refusal :=
  runCommand (replyEnds port) s

def execLineBreak (port : Port) (s : State) : Host.Outcome State Fault Refusal :=
  runCommand (resetPort port .break_) s

end Sys2Proof.Machine
end

