-- ==== Sys2Proof/Machine/ClassCommands.lean ====
section
/-!
DEFINITION. Requests to the axle check unit (chapter 5).
-/

namespace Sys2Proof.Machine

/-! ### READ_CLASS (R86) -/

/-- One line per occupied place, in code order. -/
def classLines (k : AxleCheck) : List (Nat × Text × Nat) :=
  (List.finRange 32).filterMap fun i =>
    k.classes[i].map fun e => (i.val + 1, e.name, e.axleCount)

def readClassReply (code : Nat) (s : State) : Response :=
  if code = 0 then accepted (.classLines (classLines s.check))
  else if 32 < code then refusal .badField
  else
    match classAt s.check code with
    | some e => accepted (.classEntry e (permittedTotal e))
    | none => refusal .notFound

def execReadClass (h : Header) (code : Nat) (s : State) : Host.Outcome State Fault Refusal :=
  request h .readClass (readOnly (readClassReply code)) s

/-! ### SET_CLASS (R84), DELETE_CLASS (R85) -/

/-- Put an entry, or none, in the place of a code from 1 to 32. -/
def putClass (code : Nat) (e : Option ClassEntry) (k : AxleCheck) : AxleCheck :=
  { k with classes := vgen fun i => if i.val + 1 = code then e else k.classes[i] }

def classCodeOk (code : Nat) : Bool := 1 ≤ code ∧ code ≤ 32

def ownSetClass (code : Nat) (body : ClassBody) (s : State) : State × Response :=
  match classCodeOk code, classEntryOf body with
  | true, some e =>
    let occupied := (classAt s.check code).isSome
    if occupied ∧ classInUse s.visit code then refuse s .classInUse
    else accept (s.setCheck (putClass code (some e))) (.classWritten occupied)
  | _, _ => refuse s .badField

def execSetClass (h : Header) (code : Nat) (body : ClassBody) (s : State) :
    Host.Outcome State Fault Refusal :=
  request (withTexts h [body.name]) .setClass (ownSetClass code body) s

def ownDeleteClass (code : Nat) (s : State) : State × Response :=
  if !classCodeOk code then refuse s .badField
  else if (classAt s.check code).isNone then refuse s .notFound
  else if classInUse s.visit code then refuse s .classInUse
  else accept (s.setCheck (putClass code none))

def execDeleteClass (h : Header) (code : Nat) (s : State) : Host.Outcome State Fault Refusal :=
  request h .deleteClass (ownDeleteClass code) s

/-! ### READ_GROUPS (R97), SET_AXLE_CHECK (R87) -/

/-- The permitted mass of each group of the table's class, and the permitted sum of each combined
result. -/
def permittedParts (t : GroupTable) : List Nat × List Nat :=
  match t.cls with
  | none => ([], [])
  | some (_, e) =>
    (e.groups.map (·.permitted), t.combined.map fun c => permittedSum e.groups c.first c.last)

def readGroupsReply (s : State) : Response :=
  let t := s.check.table
  accepted (.groups (summaryOf t) t s.check.axleTol s.check.consTol (permittedParts t).1
    (permittedParts t).2)

def execReadGroups (h : Header) (s : State) : Host.Outcome State Fault Refusal :=
  request h .readGroups (readOnly readGroupsReply) s

def ownSetAxleCheck (axleTol consTol : Nat) (s : State) : State × Response :=
  let a := clamp 0 10 axleTol
  let c := clamp 5 50 consTol
  accept (s.setCheck fun k => { k with axleTol := a, consTol := c }) (.taken [a, c])

def execSetAxleCheck (h : Header) (axleTol consTol : Nat) (s : State) :
    Host.Outcome State Fault Refusal :=
  request h .setAxleCheck (ownSetAxleCheck axleTol consTol) s

end Sys2Proof.Machine
end

