-- ==== Sys2Proof/Machine/Crossing.lean ====
section
/-!
DEFINITION. Transitions of a beam pair and what they bring about: crossings handled whole (R47), phase
errors (R45), stuck beams (R46), with the abort of a capture (R71) and the recovery of the map (R55).
-/

namespace Sys2Proof.Machine

/-! ### The map becomes INVALID (R54) -/

/-- Its list, departed count and direction are kept. -/
def invalidateMap (s : State) : State := s.setMap fun m => { m with valid := false }

/-! ### A decoded crossing (R47) -/

/-- The decks in use on either side of boundary `j`, that on the end-A side first. -/
def decksBeside (s : State) (j : Boundary) : List DeckId :=
  s.inUse.filter fun d => boundaryB d = j ∨ boundaryA d = j

/-- Step 1: the map takes the crossing, or faults. -/
def crossOnMap (j : Boundary) (d : Direction) (s : State) : State × Option (Bool × Bool) :=
  if s.axle.map.valid then
    match crossMap (deckCount s.legal) j.val d s.axle.map with
    | .applied m started ended => (s.setMap fun _ => m, some (started, ended))
    | .fault r => (axleMoved ((invalidateMap s).raise (.mapFault j d r)), none)
  else (s, none)

/-- Step 2: the deck monitors (R28). -/
def crossOnDeck (s : State) (d : DeckId) : State := applyMonitor d (crossDeck s.decks[d]) s

/-- Step 4: an applied crossing reaches the order controller (R67, R71). -/
def reportApplied (s : State) : State :=
  let surveying : Bool := match s.order.active with
    | some a => a.state = .surveying
    | none => false
  axleMoved (s.setOrder fun u => { u with crossingSince := u.crossingSince || surveying })

/-- Step 4: the start of a pass, the crossing, the end of a pass. -/
def reportCrossing (started ended : Bool) (s : State) : State :=
  let s1 := reportApplied (if started then emptyStops s else s)
  if ended then passEnd s1 else s1

/-- A decoded crossing at boundary `j`, handled whole. A test capture on a deck that the crossing has
unsettled is aborted (R159). -/
def handleCrossing (j : Boundary) (d : Direction) (s : State) : State :=
  let sides := decksBeside s j
  let (s1, applied) := crossOnMap j d s
  let s2 := sides.foldl crossOnDeck s1
  let s3 := sides.foldl (fun s d => abandonOn .motion d s) s2
  let s4 := match applied with
    | some (started, ended) => reportCrossing started ended s3
    | none => s3
  sides.foldl (fun s d => abortTestCapture d s) s4

/-! ### Phase errors and stuck beams -/

/-- R45. -/
def handlePhaseError (j : Boundary) (before after : BeamState) (s : State) : State :=
  let s1 := s.setPair j fun p => { p with errors := satInc 255 p.errors }
  axleMoved ((invalidateMap s1).raise (.phaseError j before after s1.axle.pairs[j].errors))

def isStuck (p : Pair) : Beam → Bool
  | .u => p.stuckU
  | .d => p.stuckD

def markStuck (b : Beam) (p : Pair) : Pair :=
  match b with
  | .u => { p with stuckU := true }
  | .d => { p with stuckD := true }

def blockedNow (p : Pair) (b : Beam) : Bool :=
  match p.decoder with
  | some st => beamBlocked st b
  | none => false

/-- R46: a beam of a pair in use, blocked for more than 120 s; the report is made once per blocking. -/
def handleStuck (j : Boundary) (b : Beam) (s : State) : State :=
  let p := s.axle.pairs[j]
  if pairInUse s.legal j ∧ blockedNow p b ∧ !isStuck p b then
    axleMoved ((invalidateMap (s.setPair j (markStuck b))).raise (.beamStuck j b))
  else s

/-! ### Transitions -/

/-- What a transition is handled as (R44, R45). -/
def handleDecoded (j : Boundary) (old new : BeamState) (x : Decoded) (s : State) : State :=
  match x with
  | .quiet => s
  | .phaseError => handlePhaseError j old new s
  | .crossing d => handleCrossing j d s

/-- The decoder of a pair takes the raw state (R42, R44, R45); its first state is taken without
decoding. Model's choice (notes/assumptions/50.md): recovery (R55) is tested last, so a BOTH to CLEAR
phase error that makes the map INVALID is itself followed by the test in the same handling. -/
def takeTransition (j : Boundary) (s : State) : State :=
  let p := s.axle.pairs[j]
  match p.decoder with
  | none => recoverMap (noticeConditions (s.setPair j (takeState p.raw .unknown)))
  | some old =>
    if old = p.raw then s.setPair j fun p => { p with persist := none }
    else
      let s1 := s.setPair j (takeState p.raw (startAfter p.start old p.raw))
      recoverMap (noticeConditions
        (handleDecoded j old p.raw (decodeTransition p.start old p.raw) s1))

/-- The persistence time of a pair in use has run (R42). -/
def filterExpired (j : Boundary) (s : State) : State :=
  if pairInUse s.legal j ∧ s.axle.pairs[j].persist.isSome then takeTransition j s else s

/-- The beam inputs of a pair as they stand; a pair in use starts a persistence time (R42). -/
def setRaw (j : Boundary) (raw : BeamState) (s : State) : State :=
  s.setPair j fun p =>
    if p.raw = raw then p
    else { p with raw := raw, persist := if pairInUse s.legal j then some 0 else none }

/-- A change of raw state, taken as soon as it occurs with a filter time of 0 (R42). -/
def rawChange (j : Boundary) (raw : BeamState) (s : State) : State :=
  if s.axle.pairs[j].raw = raw then s
  else
    let s1 := setRaw j raw s
    if s1.axle.filter = 0 then filterExpired j s1 else s1

/-- Persistence times that have reached a new filter time are taken at once, in boundary order
(R43). -/
def takeDue (s : State) : State :=
  (List.finRange 5).foldl (fun s j =>
    match s.axle.pairs[j].persist with
    | some t => if s.axle.filter ≤ t then filterExpired j s else s
    | none => s) s

end Sys2Proof.Machine
end

