-- ==== Sys2Proof/Machine/DeckCommands.lean ====
section
/-!
DEFINITION. Requests to the cell front end, the deck monitors and the axle sensor unit (chapters 1
to 3).
-/

namespace Sys2Proof.Machine

/-! ### READ_CELLS (R16) -/

def cellsPart (s : State) (d : DeckId) : CellsPart where
  budget := s.front[d].budget
  threshold := s.legal.threshold
  lastValid := s.front[d].lastValid
  channels := (List.finRange 4).map fun i =>
    let c := s.front[d].cells[i]
    (channelNumber d i, c.latest, c.shunt, c.tally, cellParamBad s.legal d i)

def readCellsReply (deck : Nat) (s : State) : Response :=
  match decksNamed s.legal deck with
  | some ds => accepted (.cells (ds.map (cellsPart s)))
  | none => refusal .badField

def execReadCells (h : Header) (deck : Nat) (s : State) : Host.Outcome State Fault Refusal :=
  request h .readCells (readOnly (readCellsReply deck)) s

/-! ### READ_DECKS, CLEAR_DECK_HISTORY (R33, R34) -/

/-- The members of a state history set with their entry marks (R33). R32 gives the set no order. Model's choice
(notes/assumptions/72.md): they stand in the order of `allModes`, whatever their marks. -/
def historyMembers (k : Deck) : List (DeckMode × BitVec 32) :=
  allModes.filterMap fun m => (k.history[modeNumber m]).map fun e => (m, e)

def deckPart (s : State) (d : DeckId) : DeckPart :=
  let k := s.decks[d]
  { deck := d.val + 1
    mode := k.mode
    lastSettled := if k.mode = .settling then some k.lastSettled else none
    gross := k.gross.map fun w => roundDiv w 1000
    zeroSet := k.zeroSet
    zeroOffset := roundDiv k.zeroOffset 1000
    zeroLimit := k.zeroLimit
    motionCount := k.motionCount
    hold := k.hold
    zeroPending := k.pendingZero.isSome
    history := historyMembers k }

/-- R33. Model's choice (notes/assumptions/62.md): the reply gives the present state, with what a crossing,
a request or a hold has changed since the deck's latest sample. -/
def readDecksReply (deck : Nat) (s : State) : Response :=
  match decksNamed s.legal deck with
  | some ds => accepted (.decks (ds.map (deckPart s)))
  | none => refusal .badField

def execReadDecks (h : Header) (deck : Nat) (s : State) : Host.Outcome State Fault Refusal :=
  request h .readDecks (readOnly (readDecksReply deck)) s

/-- The history set after a clear of the listed states whose marks match. -/
def clearHistory (list : List (DeckMode × BitVec 32)) (k : Deck) : Deck :=
  { k with
    history := list.foldl (fun h x =>
      upd h (modeNumber x.1) fun e => if e = some x.2 then none else e) k.history }

/-- The listed states that have been entered again, with their current marks. Model's choice
(notes/assumptions/72.md): they stand in the order of the request's list. -/
def inhibitedStates (list : List (DeckMode × BitVec 32)) (k : Deck) :
    List (DeckMode × BitVec 32) :=
  list.filterMap fun x =>
    match k.history[modeNumber x.1] with
    | some e => if e = x.2 then none else some (x.1, e)
    | none => none

/-- The listed states, none when a code names no state. -/
def statesListed (list : List (Choice DeckMode × BitVec 32)) : Option (List (DeckMode × BitVec 32)) :=
  list.mapM fun x => x.1.map fun m => (m, x.2)

def ownClearDeckHistory (deck : Nat) (list : List (Choice DeckMode × BitVec 32)) (s : State) :
    State × Response :=
  match deckNumbered s.legal deck, statesListed list with
  | some d, some l =>
    if noRepeats (l.map (·.1)) then
      accept (s.setDeck d (clearHistory l)) (.inhibitedStates (inhibitedStates l s.decks[d]))
    else refuse s .badField
  | _, _ => refuse s .badField

def execClearDeckHistory (h : Header) (deck : Nat) (list : List (Choice DeckMode × BitVec 32))
    (s : State) : Host.Outcome State Fault Refusal :=
  request h .clearDeckHistory (ownClearDeckHistory deck list) s

/-! ### ZERO (R37) -/

/-- The deadline of a pending ZERO, in samples. -/
def zeroDeadline : Nat := 300

/-- A deck that already has a pending ZERO keeps it with its deadline. -/
def takeZero (k : Deck) : Deck :=
  { k with pendingZero := some (k.pendingZero.getD zeroDeadline) }

def ownZero (deck : Nat) (s : State) : State × Response :=
  match decksNamed s.legal deck with
  | none => refuse s .badField
  | some ds =>
    if s.orderCapture || s.testCapture then refuse s .busy
    else (ds.foldl (fun s d => s.setDeck d takeZero) s, ⟨.pending, .none⟩)

def execZero (h : Header) (deck : Nat) (s : State) : Host.Outcome State Fault Refusal :=
  request h .zero (ownZero deck) s

/-! ### READ_AXLES, SET_BEAM_FILTER (R58, R43) -/

def pairPart (s : State) (j : Boundary) : PairPart :=
  let p := s.axle.pairs[j]
  ⟨j.val, p.decoder, p.start, p.errors, p.stuckU, p.stuckD⟩

/-- R58. Model's choice (notes/assumptions/72.md): the pair parts stand in boundary order. -/
def readAxlesReply (s : State) : Response :=
  accepted (.axles s.axle.map (s.inUse.map (axlesOn s.axle.map)) s.axle.filter
    ((pairsInUse s.legal).map (pairPart s)))

def execReadAxles (h : Header) (s : State) : Host.Outcome State Fault Refusal :=
  request h .readAxles (readOnly readAxlesReply) s

def ownSetBeamFilter (ms : Nat) (s : State) : State × Response :=
  let v := clamp 0 50 ms
  accept (takeDue (s.setAxle fun a => { a with filter := v })) (.taken [v])

def execSetBeamFilter (h : Header) (ms : Nat) (s : State) : Host.Outcome State Fault Refusal :=
  request h .setBeamFilter (ownSetBeamFilter ms) s

end Sys2Proof.Machine
end

