-- ==== Sys2Proof/Machine/Watching.lean ====
section
/-!
DEFINITION. The watch unit's evaluation of a ticket about to issue (R138 to R143), on its own state.
-/

namespace Sys2Proof.Machine

/-! ### Field values (R138) -/

/-- The captured tare of a ticket. -/
def contentCapturedTare (c : TicketContent) : Option Int :=
  match c.masses with
  | .first m .tare _ => some m
  | .first _ .gross _ => none
  | .final _ t _ .captured _ _ => some t
  | .final _ _ _ .stored _ _ => none

/-- The value a field reads from a ticket, none when the ticket cannot supply it; `entry` is the tare
of the stored tare entry that carries the visit's plate. -/
def fieldValue (c : TicketContent) (entry : Option Int) : WatchField → Option Int
  | .net =>
    match c.masses with
    | .first _ _ _ => none
    | .final _ _ n _ _ _ => some n
  | .gross =>
    match c.masses with
    | .first m .gross _ => some m
    | .first _ .tare _ => none
    | .final g _ _ _ _ _ => some g
  | .tare =>
    match c.masses with
    | .first m .tare _ => some m
    | .first _ .gross _ => none
    | .final _ t _ _ _ _ => some t
  | .tareDeviation =>
    match contentCapturedTare c, entry with
    | some t, some e => some ((t - e).natAbs : Int)
    | _, _ => none
  | .groupExcess => if c.summary.cls.isNone then none else some c.summary.largestExcess
  | .grossExcess =>
    match c.summary.gross with
    | .notTested => none
    | .within => some 0
    | .over x => some x

/-- The table of tests of R138. -/
def testPasses (w : WatchConfig) (v : Int) : Bool :=
  match w.test with
  | .above => (w.value : Int) < v
  | .below => v < (w.value : Int)
  | .outside => (w.band : Int) < ((v - w.value).natAbs : Int)

/-- The filters of a channel (R138). -/
def filtersPass (w : WatchConfig) (c : TicketContent) : Bool :=
  (match w.commodity with
    | none => true
    | some k => k = c.commodity) &&
  (match w.cls with
    | none => true
    | some k => c.cls = some k) &&
  (match w.kind with
    | .any => true
    | .only k => k = c.kind)

/-- The value with which a channel matches a ticket, none when it does not match (R138). -/
def channelMatch (w : WatchConfig) (c : TicketContent) (entry : Option Int) : Option Int :=
  if w.enabled ∧ filtersPass w c then
    match fieldValue c entry w.field with
    | some v => if testPasses w v then some v else none
    | none => none
  else none

/-! ### Match flags (R143) and the armed-visit list (R142) -/

/-- Set a channel's flag: the match number rises, wrapping, and marks it. -/
def setFlag (ch : WatchChannel) (c : TicketContent) (v : Int) (a : WatchAction) (u : WatchUnit) :
    WatchUnit :=
  let d : MatchDetail := ⟨u.matchNumber + 1, c.visit, c.kind, v, a⟩
  match ch with
  | .w1 => { u with matchNumber := u.matchNumber + 1, flag1 := some d }
  | .w2 => { u with matchNumber := u.matchNumber + 1, flag2 := some d }

/-- The armed-visit list's capacity. -/
def armedCapacity : Nat := 8

/-- The list after an append, with the visit dropped for room (R141, R142). -/
def armVisit (visit : Nat) (l : List Nat) : List Nat × Option Nat :=
  if armedCapacity ≤ l.length then (l.drop 1 ++ [visit], l.head?) else (l ++ [visit], none)

/-! ### Evaluation (R139 to R141) -/

/-- What an evaluation decides: the marks, the holding channels, and its WATCH events. -/
structure Evaluation where
  unit : WatchUnit
  mark1 : Bool
  mark2 : Bool
  hold1 : Bool
  hold2 : Bool
  notes : List Cause
  deriving DecidableEq, Repr

/-- The event of a channel's application (R147). -/
def matchEvent (ch : WatchChannel) (c : TicketContent) (v : Int) (a : WatchAction) : Cause :=
  .watchMatch ch c.visit c.kind v a

/-- One channel applied when it matches, in INDEPENDENT mode (R140). -/
def applyChannel (ch : WatchChannel) (w : WatchConfig) (c : TicketContent) (v : Option Int)
    (u : WatchUnit) : WatchUnit × List Cause :=
  match v with
  | none => (u, [])
  | some x => (setFlag ch c x w.action u, [matchEvent ch c x w.action])

/-- R140. Model's choice (notes/assumptions/55.md): when both channels match, W1 takes the lower match
number. -/
def evaluateIndependent (c : TicketContent) (entry : Option Int) (u : WatchUnit) : Evaluation :=
  let m1 := channelMatch u.w1 c entry
  let m2 := channelMatch u.w2 c entry
  let (u1, n1) := applyChannel .w1 u.w1 c m1 u
  let (u2, n2) := applyChannel .w2 u.w2 c m2 u1
  { unit := u2
    mark1 := m1.isSome
    mark2 := m2.isSome
    hold1 := m1.isSome && u.w1.action = .hold
    hold2 := m2.isSome && u.w2.action = .hold
    notes := n1 ++ n2 }

/-- R141 step 1: W1 arms the visit. Events in the order DROPPED, ARMED (R147). -/
def armStep (c : TicketContent) (m1 : Option Int) (u : WatchUnit) : WatchUnit × List Cause :=
  if m1.isSome ∧ c.visit ∉ u.armed then
    let (l, dropped) := armVisit c.visit u.armed
    ({ u with armed := l },
      (match dropped with
        | some v => [.watchDropped v]
        | none => []) ++ [.watchArmed c.visit])
  else (u, [])

/-- R141. Model's choice (notes/assumptions/70.md): a ticket that both arms and fires on a full list leaves
the oldest entry, which the append has dropped (R142), off the list. -/
def evaluateSequential (c : TicketContent) (entry : Option Int) (u : WatchUnit) : Evaluation :=
  let (u1, n1) := armStep c (channelMatch u.w1 c entry) u
  match channelMatch u.w2 c entry with
  | some v =>
    if c.visit ∈ u1.armed then
      { unit := setFlag .w2 c v u.w2.action { u1 with armed := u1.armed.filter (· ≠ c.visit) }
        mark1 := false
        mark2 := true
        hold1 := false
        hold2 := u.w2.action = .hold
        notes := n1 ++ [matchEvent .w2 c v u.w2.action] }
    else ⟨u1, false, false, false, false, n1⟩
  | none => ⟨u1, false, false, false, false, n1⟩

/-- R139. -/
def evaluate (c : TicketContent) (entry : Option Int) (u : WatchUnit) : Evaluation :=
  match u.mode with
  | .independent => evaluateIndependent c entry u
  | .sequential => evaluateSequential c entry u

end Sys2Proof.Machine
end

