-- ==== Sys2Proof/Machine/Weighing.lean ====
section
/-!
DEFINITION. The weighing step of a capture result (R110 to R113), with watch evaluation (R139), issue
(R121) or hold (R144); and the two ends of a hold (R145, R146).
-/

namespace Sys2Proof.Machine

/-- A capture result as the order controller hands it to the visit table unit (R74). -/
structure CaptureResult where
  order : Order
  /-- I, kg -/
  mass : Int
  due : Bool
  notForTrade : Bool
  time : Stamp
  cal : Nat
  summary : AxleSummary
  exit : BridgeEnd
  deriving DecidableEq, Repr

/-! ### Building the weighings (R111, R113) -/

/-- The role of a visit's first weighing (section 6.1). -/
def firstRole : VisitKind → Role
  | .receival => .gross
  | .outload => .tare

def secondRole : VisitKind → Role
  | .receival => .tare
  | .outload => .gross

/-- A captured weighing, its number not yet entered. -/
def capturedWeighing (r : CaptureResult) (role : Role) : Weighing :=
  ⟨r.mass, role, .captured, r.time, none, r.due, r.notForTrade, r.cal⟩

/-- The stored weighing of a STORED_TARE (R113). -/
def storedWeighing (r : CaptureResult) (e : TareEntry) : Weighing :=
  ⟨e.tare, .tare, .stored, ⟨e.day, 0⟩, none, r.due, r.notForTrade, r.cal⟩

/-- Gross less tare (R111). -/
def netOf (k : VisitKind) (first second : Int) : Int :=
  match k with
  | .receival => first - second
  | .outload => second - first

/-- Record a second weighing with its net, or refuse NET_NEGATIVE (R111, R113). -/
def closeVisit (first second : Weighing) (v : Visit) : Except NotCompleted Visit :=
  let n := netOf v.kind first.mass second.mass
  if n < 0 then .error .netNegative
  else .ok { v with first := some first, second := some second, net := some n, state := .closed }

/-- The visit with its new weighing, or the refusal. An order's visit is in the state its kind asks
for and holds no held ticket, because nothing changes it during a capture (R62, R110); a visit that
were not so would be refused. -/
def buildWeighing (u : VisitUnit) (r : CaptureResult) (v : Visit) : Except NotCompleted Visit :=
  match r.order.kind, v.state, v.held with
  | .firstWeigh, .opened, none =>
    .ok { v with first := some (capturedWeighing r (firstRole v.kind)), state := .firstDone }
  | .secondWeigh, .firstDone, none =>
    match v.first with
    | some w => closeVisit w (capturedWeighing r (secondRole v.kind)) v
    | none => .error .netNegative
  | .storedTare, .opened, none =>
    match v.kind, validTare u r.time.day v.plate with
    | .receival, some e => closeVisit (capturedWeighing r .gross) (storedWeighing r e) v
    | _, _ => .error .noValidTare
  | _, _, _ => .error .netNegative

/-! ### The ticket content (R122, R123, R144) -/

def weighingMarks (w : Weighing) : Marks := ⟨w.due, w.notForTrade, false, false, false⟩

/-- A FINAL ticket carries each mark that either weighing bears (R123). -/
def joinMarks (a b : Marks) : Marks :=
  ⟨a.due || b.due, a.notForTrade || b.notForTrade, a.w1 || b.w1, a.w2 || b.w2,
    a.released || b.released⟩

/-- Masses and marks of the ticket that a visit's weighings make. -/
def ticketMasses (k : VisitKind) : Option Weighing → Option Weighing → TicketMasses × Marks
  | some f, some x =>
    let (g, t) := match k with
      | .receival => (f, x)
      | .outload => (x, f)
    (.final g.mass t.mass (netOf k f.mass x.mass) t.source g.time t.time,
      joinMarks (weighingMarks f) (weighingMarks x))
  | some f, none => (.first f.mass f.role f.time, weighingMarks f)
  | none, _ => (.first 0 .gross ⟨0, 0⟩, ⟨false, false, false, false, false⟩)

/-- The ticket that a result would become, judged by the watch channels (R139). -/
def contentOf (r : CaptureResult) (v : Visit) : TicketContent :=
  let m := ticketMasses v.kind v.first v.second
  { kind := match r.order.kind with
      | .secondWeigh | .storedTare => .final
      | .firstWeigh | .axleSurvey | .check => .first
    visit := v.number
    visitKind := v.kind
    plate := v.plate
    commodity := v.commodity
    grade := v.grade
    cls := v.cls
    masses := m.1
    summary := r.summary
    marks := m.2
    cal := r.cal
    exit := r.exit
    storeTare := r.order.storeTare }

/-- The content with the marks the channels gave. -/
def markContent (e : Evaluation) (c : TicketContent) : TicketContent :=
  { c with marks := { c.marks with w1 := e.mark1, w2 := e.mark2 } }

/-! ### Completing the visit record (R111) -/

/-- The watch marks of the ticket set the visit's where the ticket carries them. -/
def takeMarks (m : Marks) (v : Visit) : Visit :=
  { v with w1 := v.w1 || m.w1, w2 := v.w2 || m.w2 }

/-- The record of an issued weighing. -/
def issuedVisit (n : Nat) (c : TicketContent) (v : Visit) : Visit :=
  takeMarks c.marks
    { v with
      first := fillNumber n v.first
      second := fillNumber n v.second
      summary := some c.summary }

/-- The record of a held weighing: its axle summary is not replaced. -/
def heldVisit (e : Evaluation) (c : TicketContent) (t : Stamp) (v : Visit) : Visit :=
  takeMarks c.marks { v with held := some ⟨c, e.hold1, e.hold2, t⟩ }

/-- Put a visit's new record in its place: one change (R105, R110). -/
def putVisit (v : Visit) (u : VisitUnit) : VisitUnit := make (.recorded v) u

/-- A STORED_TARE lowers the uses of the entry it found, stopping at 0 (R113, R114). -/
def useOf (k : OrderKind) (plate : Text) (u : VisitUnit) : VisitUnit :=
  if k = .storedTare then make (.tareUsed plate) u else u

/-! ### The weighing step -/

/-- What becomes of a capture result: refused; recorded and issued with a number; recorded and
held. -/
inductive Weighed where
  | refused (c : NotCompleted)
  | issued (n : Nat)
  | held
  deriving DecidableEq, Repr

/-- The visit becoming CLOSED is reported to the watch unit (R108, R142). -/
def reportClosed (v : Visit) (s : State) : State :=
  if v.state = .closed then disarm v.number s else s

/-- A held result: stored in the visit, no number taken (R111, R144). -/
def holdResult (e : Evaluation) (r : CaptureResult) (v : Visit) (s : State) : State :=
  let c := markContent e (contentOf r v)
  let s1 := (s.setVisit fun u => useOf r.order.kind v.plate (putVisit (heldVisit e c r.time v) u))
  (reportClosed v (s1.setWatch fun _ => e.unit)).raiseAll e.notes

/-- An issued result: counter, journal, visit and stored tare in one step, then the events and the
queueing (R121). -/
def issueResult (e : Evaluation) (r : CaptureResult) (v : Visit) (s : State) : State :=
  let c := markContent e (contentOf r v)
  let t := newTicket s.ticket c r.time
  let s1 := s.setVisit fun u =>
    storeAtIssue c.storeTare v.number
      (useOf r.order.kind v.plate (putVisit (issuedVisit t.number c v) u))
  let s2 := reportClosed v ((s1.setTicket (enterTicket t)).setWatch fun _ => e.unit)
  reportTicket t (s2.raiseAll e.notes)

/-- The tare of the stored tare entry that carries a plate, valid or not (R138). -/
def entryTare (u : VisitUnit) (plate : Text) : Option Int := (findTare u plate).map (·.tare)

/-- The weighing step, taken whole (R110). -/
def weighingStep (r : CaptureResult) (s : State) : Weighed × State :=
  match findVisit s.visit r.order.visit with
  | none => (.refused .noValidTare, s)
  | some v0 =>
    match buildWeighing s.visit r v0 with
    | .error c => (.refused c, s)
    | .ok v =>
      let e := evaluate (contentOf r v) (entryTare s.visit v.plate) s.watch
      if e.hold1 || e.hold2 then (.held, holdResult e r v s)
      else (.issued (nextTicket s.ticket.counter), issueResult e r v s)

/-! ### The ends of a hold -/

/-- R145: the held ticket is issued from its frozen content with the RELEASED mark. -/
def releaseHeld (v : Visit) (h : HeldTicket) (s : State) : Nat × State :=
  let c := { h.content with marks := { h.content.marks with released := true } }
  let t := newTicket s.ticket c s.now
  let s1 := s.setVisit fun u =>
    storeAtIssue c.storeTare v.number (putVisit (releaseVisit t.number v) u)
  (t.number, reportTicket t (s1.setTicket (enterTicket t)))

/-- The active order is a HELD order for the visit. -/
def heldOrderOf (visit : Nat) (s : State) : Bool :=
  match s.order.active with
  | some a => a.state = .held ∧ a.order.visit = visit
  | none => false

/-- R75: a release makes an active HELD order for the visit COMPLETE. -/
def orderReleased (visit n : Nat) (s : State) : State :=
  if heldOrderOf visit s then completeActive (some n) s else s

/-- R75: a rejection returns an active HELD order for the visit to WAITING in a pass of a VALID map;
otherwise it leaves with REJECTED. -/
def orderRejected (visit : Nat) (s : State) : State :=
  if heldOrderOf visit s then
    if s.axle.map.valid ∧ s.axle.map.direction.isSome then
      (setActiveState .waiting s).setOrder fun u => { u with condRun := 0 }
    else leaveActive .rejected s
  else s

end Sys2Proof.Machine
end

