-- ==== Sys2Proof/Machine/Capture.lean ====
section
/-!
DEFINITION. The order controller's capture: its start (R69), the samples it takes (R70), its results
(R72), its completion (R73 to R77), and auto-capture (R67).
-/

namespace Sys2Proof.Machine

/-! ### Start (R69) -/

/-- A capture starts for the active order. -/
def startCapture (s : State) : State :=
  match s.order.active with
  | none => s
  | some a =>
    s.setOrder fun u =>
      { u with
        engine := some ⟨u.window, s.axle.map.direction, a.state, vrep 4 0, vrep 4 0⟩
        active := some { a with state := .capturing } }

/-! ### Samples of the window (R70) -/

/-- A valid, unshunted sample of a deck whose count has not reached C adds its W. -/
def addSample (d : DeckId) (w : Int) (e : OrderCapture) : OrderCapture :=
  if e.counts[d] < e.window then
    { e with sums := upd e.sums d (· + w), counts := upd e.counts d (· + 1) }
  else e

def captureSample (d : DeckId) (w : Int) (s : State) : State :=
  s.setOrder fun u => { u with engine := u.engine.map (addSample d w) }

/-- The window ends when the last deck in use reaches C. -/
def windowEnded (s : State) : Bool :=
  match s.order.engine with
  | some e => s.inUse.all fun d => e.window ≤ e.counts[d]
  | none => false

/-- The captured gross of a deck, g (R70). -/
def capturedGross (e : OrderCapture) (d : DeckId) : Int := roundDiv e.sums[d] e.window

/-- V, g (R70). -/
def vehicleMass (e : OrderCapture) (decks : List DeckId) : Int :=
  (decks.map (capturedGross e)).sum

/-! ### Stage 6 (R72) -/

def overLimit (p : LegalParams) : Int := (p.capacity + 9 * p.interval) * 1000

def underLimit (p : LegalParams) : Int := -(20 * p.interval) * 1000

/-- Grams to the nearest multiple of e, in kg. -/
def indicated (p : LegalParams) (grams : Int) : Int := roundDiv grams (p.interval * 1000) * p.interval

/-! ### Verification at completion (R73) -/

/-- A trade capture is refused. -/
def refusedUnverified (s : State) : Bool :=
  s.metro.switch = .opened || s.inUse.any fun d => s.deckStatus d = .unverified

/-- The marks of a trade capture. -/
def tradeMarks (s : State) : Marks where
  due := s.inUse.any fun d => s.deckStatus d = .due
  notForTrade := s.inUse.any fun d => s.deckStatus d = .suspect
  w1 := false
  w2 := false
  released := false

/-- The marks of a CHECK. -/
def checkMarks (s : State) : Marks where
  due := s.inUse.any fun d => s.deckStatus d = .due
  notForTrade := s.metro.switch = .opened ||
    s.inUse.any fun d => s.deckStatus d ≠ .verified ∧ s.deckStatus d ≠ .due
  w1 := false
  w2 := false
  released := false

/-! ### The stop (R74) -/

def stopOf (e : OrderCapture) (k : OrderKind) (s : State) : Stop where
  decks := vgen fun d =>
    if deckInUse s.legal d then
      some (indicated s.legal (capturedGross e d), axleRange s.axle.map d)
    else none
  whole := if isWholeVehicle k then some (indicated s.legal (vehicleMass e s.inUse)) else none

def checkSettings (s : State) : CheckSettings :=
  ⟨s.check.axleTol, s.check.consTol, s.legal.interval⟩

/-- A stop is appended and judged, unless the list holds 4 stops. -/
def takeStop (o : Order) (st : Stop) (s : State) : State :=
  if 4 ≤ s.order.stops.length then s
  else
    (s.setCheck fun k =>
      { k with
        table := handleStop (checkSettings s) (orderClass s o) s.order.stops st k.table }).setOrder
      fun u => { u with stops := u.stops ++ [st] }

/-! ### Ends of a capture -/

/-- The order returns to the state it started from, its run at 0 (R73, R74). -/
def returnOrder (e : OrderCapture) (c : NotCompleted) (s : State) : State :=
  match s.order.active with
  | none => s
  | some a =>
    ((setActiveState e.fromState s).setOrder fun u => { u with condRun := 0 }).raise
      (.orderNotCompleted a.order.visit a.order.kind c)

/-- R74, R75: the capture result of a weighing order. -/
def weighOrder (e : OrderCapture) (o : Order) (mass : Int) (m : Marks) (s : State) : State :=
  let r : CaptureResult :=
    { order := o
      mass := mass
      due := m.due
      notForTrade := m.notForTrade
      time := s.now
      cal := s.metro.cal
      summary := summaryOf s.check.table
      exit := exitEnd e.direction }
  match weighingStep r s with
  | (.refused c, s1) => returnOrder e c s1
  | (.issued n, s1) => completeActive (some n) s1
  | (.held, s1) => (setActiveState .held s1).raise (.orderHeld o.visit o.kind)

/-- R76: a survey's stop; with every group resolved or the 4th stop the survey completes. `reported`
says that the axle check unit was handed the stop. -/
def surveyStop (e : OrderCapture) (m : Marks) (reported : Bool) (s : State) : State :=
  let s1 := s.setOrder fun u =>
    { u with
      crossingSince := false
      active := u.active.map fun a =>
        { a with
          state := .surveying
          stopsTaken := a.stopsTaken + 1
          lastStop := some (e.direction, m) } }
  match s1.order.active with
  | none => s1
  | some a =>
    if (reported && s1.check.table.allResolved) || 4 ≤ a.stopsTaken then
      leaveWithoutPass (finishSurvey s1)
    else s1

/-- R77: a check slip; the order is COMPLETE. -/
def finishCheck (e : OrderCapture) (o : Order) (mass : Int) (m : Marks) (s : State) : State :=
  let exit := exitEnd e.direction
  let content := slipFields s.check .checkSlip (findVisit s.visit o.visit)
    ((orderClass s o).map (·.1)) (summaryOf s.check.table) (some mass) m s.now s.metro.cal exit
  completeActive none (queueSlip exit .checkSlip content s)

/-- The completion of a capture that has passed R73 (R74 to R77). -/
def completeStop (e : OrderCapture) (o : Order) (s : State) : State :=
  let mass := indicated s.legal (vehicleMass e s.inUse)
  let reported : Bool := s.order.stops.length < 4
  let s1 := takeStop o (stopOf e o.kind s) s
  match o.kind with
  | .firstWeigh | .secondWeigh | .storedTare => weighOrder e o mass (tradeMarks s) s1
  | .axleSurvey => surveyStop e (tradeMarks s) reported s1
  | .check => finishCheck e o mass (checkMarks s) s1

/-- The result of stage 6 and of verification that gives no stop (R72, R73). -/
def captureFailure (e : OrderCapture) (k : OrderKind) (s : State) : Option NotCompleted :=
  let v := vehicleMass e s.inUse
  if overLimit s.legal < v then some .over
  else if v < underLimit s.legal then some .under
  else if isTrade k ∧ refusedUnverified s then some .refusedUnverified
  else none

/-- The window end, handled whole (R73 to R77). -/
def completeCapture (s : State) : State :=
  match s.order.engine, s.order.active with
  | some e, some a =>
    let s1 := s.setOrder fun u => { u with engine := none }
    match captureFailure e a.order.kind s1 with
    | some c => returnOrder e c s1
    | none => completeStop e a.order s1
  | _, _ => s

/-! ### The test of the conditions (R67) -/

/-- The condition run's upper limit. -/
def runLimit : Nat := 500

/-- One test: the condition run counts it. -/
def countTest (s : State) : State :=
  s.setOrder fun u =>
    { u with condRun := if conditionsHold s then satInc runLimit u.condRun else 0 }

/-- What the test just made leaves to auto-capture. -/
def autoCaptureDue (s : State) : Bool :=
  match s.order.active with
  | some a =>
    a.order.auto && s.order.engine.isNone && conditionsHold s && s.order.delay ≤ s.order.condRun &&
      (a.state = .waiting || (a.state = .surveying && s.order.crossingSince))
  | none => false

/-- The test on a sample of deck 1; true when it started a capture. -/
def testOnSample (s : State) : State × Bool :=
  if (testedOrder s).isSome then
    let s1 := countTest s
    if autoCaptureDue s1 then (startCapture s1, true) else (s1, false)
  else (s, false)

end Sys2Proof.Machine
end

