-- ==== Sys2Proof/Machine/LegalWrites.lean ====
section
/-!
DEFINITION. What an accepted legal write does (R152): the parameters, the counter and the log, the
decks' status, and the effects of the new values on the other blocks (R1, R11, R31, R42, R117).
-/

namespace Sys2Proof.Machine

/-! ### The changes of a request -/

/-- A write with the value it carries. -/
abbrev Write := ParamId × Int

/-- A write whose new value equals the value in force is not a change (R151). -/
def isChange (p : LegalParams) (w : Write) : Bool := w.2 ≠ legalValue p w.1

def changesOf (p : LegalParams) (ws : List Write) : List Write := ws.filter (isChange p)

/-- The writes that are no changes, as the reply lists them (R151). Model's choice
(notes/assumptions/72.md): they stand in the order of the request's list. -/
def unchangedOf (p : LegalParams) (ws : List Write) : List ParamId :=
  (ws.filter fun w => !isChange p w).map (·.1)

/-- The set that would result (R151). -/
def resultingSet (p : LegalParams) (ws : List Write) : LegalParams :=
  ws.foldl (fun p w => setLegalValue p w.1 w.2) p

/-- Decks that the changes affect (R152), in deck order. -/
def decksAffectedBy (ws : List Write) : List DeckId :=
  (List.finRange 4).filter fun d => ws.any fun w => (decksAffected w.1).contains d

/-- Decks that the changes will make UNVERIFIED (R152). -/
def decksLowered (s : State) (ws : List Write) : List DeckId :=
  (decksAffectedBy ws).filter fun d => s.deckStatus d ≠ .unverified

/-- The parameters whose change asks that no visit is live (R151). -/
def asksVisits : ParamId → Bool
  | .interval | .decks | .capacity | .maxD _ => true
  | .zero _ _ | .factor _ _ | .shuntD _ _ | .shuntTol _ _ | .window | .stabBand | .emptyBand
  | .period | .threshold => false

/-- The free entries a request needs (R152). -/
def entriesNeeded (s : State) (ws : List Write) : Nat :=
  ws.length + (decksLowered s ws).length + (if ws.any (·.1 = .interval) then 1 else 0)

/-- The changes with their counter values, as the reply carries them (R151). -/
def numberChanges (cal : Nat) : List Write → List (ParamId × Int × Nat)
  | [] => []
  | w :: l => (w.1, w.2, cal + 1) :: numberChanges (cal + 1) l

/-! ### Making the changes -/

def paramDeck : ParamId → Option DeckId
  | .maxD d | .zero d _ | .factor d _ | .shuntD d _ | .shuntTol d _ => some d
  | .decks | .interval | .capacity | .window | .stabBand | .emptyBand | .period | .threshold => none

/-- R117: a change of e removes every visit and every stored tare; the removals are reported (R108)
and the armed-visit list empties (R142). -/
def clearTables (s : State) : State :=
  let gone := s.visit.visits.map (·.number)
  let s1 := s.setVisit (make .cleared)
  (gone.foldl (fun s n => reportGone n s) s1).setWatch fun w => { w with armed := [] }

/-- One change: the value, the counter, its PARAM_CHANGE entry (R150), and for e the tables with
their TARE_TABLE_CLEARED entry (R152). -/
def makeChange (s : State) (w : Write) : State :=
  let old := legalValue s.legal w.1
  let s1 := s.setMetro fun m => { m with legal := setLegalValue m.legal w.1 w.2, cal := m.cal + 1 }
  let s2 := s1.logDeliberate (.paramChange w.1 old w.2) (paramDeck w.1)
  if w.1 = .interval then
    (clearTables s2).logDeliberate (.tareTableCleared s2.visit.tares.length)
  else s2

/-- Results of the affected decks are superseded (R163). -/
def supersede (ds : List DeckId) (r : Session) : Session :=
  { r with
    results := r.results.map fun x =>
      if ds.contains x.deck then { x with superseded := true } else x }

/-- The status of the affected decks (R154): UNVERIFIED, with LEGAL_CHANGE; several in deck order
(notes/assumptions/56.md). -/
def lowerDecks (ds : List DeckId) (s : State) : State :=
  ds.foldl (fun s d => changeStatusWithEvent false d .unverified .legalChange s) s

/-- The stored check value follows the legal region when the region has been written (R184, R185);
without a change nothing has been (R151). -/
def rewriteCheck (ws : List Write) (m : Metrology) : Metrology :=
  if ws.isEmpty then m else { m with check := Config.legalCheck m.legal m.cal }

/-- The changes of one request in the metrology unit, made together (R152). `ds` are the decks that
become UNVERIFIED with them. -/
def writeLegal (ws : List Write) (ds : List DeckId) (s : State) : State :=
  let s1 := ws.foldl makeChange s
  let s2 := s1.setMetro (rewriteCheck ws)
  lowerDecks ds (setSession (supersede (decksAffectedBy ws)) s2)

/-! ### Effects on the other blocks -/

/-- A deck leaves use or comes into use: its monitor starts anew (R31), its channels have no
conversion yet (R1). -/
def renewDeck (d : DeckId) (s : State) : State :=
  (s.setDeck d fun _ => .start).setFront d fun f =>
    { f with
      lastValid := none
      cells := vmap (fun c => { c with latest := none, shunt := false }) f.cells }

/-- A pair leaves use (R42). -/
def pairIdle (p : Pair) : Pair := { p with persist := none }

/-- A change of N (R1, R31, R42). -/
def applyDecks (old : LegalParams) (s : State) : State :=
  let s1 := (List.finRange 4).foldl (fun s d =>
    if deckInUse old d = deckInUse s.legal d then s else renewDeck d s) s
  (List.finRange 5).foldl (fun s j =>
    if pairInUse old j = pairInUse s.legal j then s
    else s.setPair j (if pairInUse s.legal j then pairIntoUse else pairIdle)) s1

/-- A change of S or of a band: the window of every deck in use starts afresh (R31). -/
def applyWindows (s : State) : State :=
  s.inUse.foldl (fun s d => applyMonitor d (restartWindow s.decks[d]) s) s

/-- The decks whose zero a change forgets (R31). -/
def forgets (d : DeckId) : ParamId → Bool
  | .interval => true
  | .maxD e | .zero e _ | .factor e _ => d = e
  | .decks | .capacity | .shuntD _ _ | .shuntTol _ _ | .window | .stabBand | .emptyBand
  | .period | .threshold => false

def applyZeros (ws : List Write) (s : State) : State :=
  (s.inUse.filter fun d => ws.any fun w => forgets d w.1).foldl
    (fun s d => s.setDeck d forgetZero) s

/-- Every budget that exceeds the threshold is set to it (R11). -/
def capBudgets (s : State) : State :=
  { s with front := vmap (fun f => { f with budget := min f.budget s.legal.threshold.toNat }) s.front }

def isWindowParam : ParamId → Bool
  | .window | .stabBand | .emptyBand => true
  | _ => false

/-- The other blocks apply the new values (R152). -/
def applyEffects (old : LegalParams) (ws : List Write) (s : State) : State :=
  let s1 := if ws.any (·.1 = .decks) then applyDecks old s else s
  let s2 := if ws.any fun w => isWindowParam w.1 then applyWindows s1 else s1
  let s3 := applyZeros ws s2
  if ws.any (·.1 = .threshold) then capBudgets s3 else s3

/-- The changes of an accepted SET_LEGAL, SET_CELL_FACTOR, ADJUST_SPAN or RECORD_SHUNT_REF. Without a
change it is without effect (R151). -/
def legalWrite (ws : List Write) (s : State) : State :=
  if ws.isEmpty then s
  else noticeConditions (applyEffects s.legal ws (writeLegal ws (decksLowered s ws) s))

end Sys2Proof.Machine
end

