-- ==== Sys2Proof/Machine/Operations.lean ====
section
/-!
DEFINITION. Session operations and shunt measurements: readiness (R159), the ends of test captures and
adjustments (R160 to R162), the phases of a shunt measurement and its completion (R165, R167).
-/

namespace Sys2Proof.Machine

/-! ### Readiness and start (R159) -/

/-- The settled state an operation needs. -/
def neededMode : OpKind → DeckMode
  | .testZero | .adjustZero | .recordShuntRef => .empty
  | .testLoad _ _ | .adjustSpan _ => .steady

/-- TEST_ZERO, TEST_LOAD and ADJUST_SPAN need the deck's zero set. -/
def needsZero : OpKind → Bool
  | .testZero | .testLoad _ _ | .adjustSpan _ => true
  | .adjustZero | .recordShuntRef => false

def isAdjustment : OpKind → Bool
  | .adjustZero | .adjustSpan _ | .recordShuntRef => true
  | .testZero | .testLoad _ _ => false

/-- Why a deck is not ready, none when it is ready. A deck under a shunt hold answers MOTION, as
condition 8 of R66 does. Model's choice (notes/assumptions/36.md): a deck in the wrong settled state is
NOT_EMPTY or NOT_LOADED also when its zero is not set. -/
def notReadyCause (k : OpKind) (x : Deck) : Option NotReady :=
  if isFaultMode x.mode then some .deckFault
  else if x.mode = .noise then some .noise
  else if x.mode = .settling ∨ x.mode = .motion then some .motion
  else if x.hold then some .motion
  else if x.mode ≠ neededMode k then
    (if neededMode k = .empty then some .notEmpty else some .notLoaded)
  else if needsZero k ∧ !x.zeroSet then some .zeroNotSet
  else none

/-- Entries an operation reserves. -/
def reserveFor (k : OpKind) (v : VStatus) : Nat :=
  if isAdjustment k then (if v = .unverified then 4 else 5) else 1

/-- An operation starts: a test capture, or for RECORD_SHUNT_REF a measurement under a hold. -/
def startOperation (k : OpKind) (d : DeckId) (s : State) : State :=
  let o : Operation :=
    { kind := k
      deck := d
      reserved := reserveFor k (s.deckStatus d)
      capture := if k = .recordShuntRef then none
        else some ⟨s.order.window, 0, 0, vrep 4 0⟩ }
  let s1 := setSession (fun r => { r with op := some o }) s
  if k = .recordShuntRef then startRun true d s1 else s1

/-! ### Test captures -/

/-- One sample of a test capture: its W, and its raw samples for ADJUST_ZERO (R161). -/
def addTestSample (w : Int) (raw : Vector Int 4) (c : TestCapture) : TestCapture :=
  if c.count < c.window then
    { c with
      count := c.count + 1
      sum := c.sum + w
      rawSums := vgen fun i => c.rawSums[i] + raw[i] }
  else c

def testSample (d : DeckId) (w : Int) (raw : Vector Int 4) (s : State) : State :=
  if s.testCaptureOn d then
    setSession (fun r =>
      { r with op := r.op.map fun o => { o with capture := o.capture.map (addTestSample w raw) } }) s
  else s

/-- The test capture in flight on the deck has its C samples. -/
def testWindowEnded (d : DeckId) (s : State) : Bool :=
  match s.operation with
  | some o =>
    match o.capture with
    | some c => o.deck = d ∧ c.window ≤ c.count
    | none => false
  | none => false

/-- Captured gross in g to the nearest multiple of e × 100 g, in kg (R159). -/
def fineIndication (p : LegalParams) (grams : Int) : Int :=
  roundDiv grams (p.interval * 100) * p.interval / 10

/-- MPE in quarters of a kg (R160). -/
def mpeOf (p : LegalParams) : TestKind → Int
  | .zero => p.interval
  | .load m _ =>
    if (m : Int) ≤ 500 * p.interval then 2 * p.interval
    else if (m : Int) ≤ 2000 * p.interval then 4 * p.interval
    else 6 * p.interval

def errorOf (fine : Int) : TestKind → Int
  | .zero => fine
  | .load m _ => fine - m

/-- The result of a test (R160). -/
def judgeTest (p : LegalParams) (number cal : Nat) (d : DeckId) (k : TestKind) (grams : Int) :
    TestResult :=
  let fine := fineIndication p grams
  let err := errorOf fine k
  { number := number
    deck := d
    kind := k
    fine := fine
    error := err
    mpeQuarters := mpeOf p k
    pass := (err.natAbs : Int) * 4 ≤ mpeOf p k
    cal := cal
    superseded := false }

def resultsOf (s : State) : List TestResult := (s.metro.session.map (·.results)).getD []

/-- The window end of a test: the result is recorded and logged, a FAIL lowers the deck (R160). -/
def endTest (o : Operation) (k : TestKind) (c : TestCapture) (s : State) : State :=
  let r := judgeTest s.legal ((resultsOf s).length + 1) s.metro.cal o.deck k
    (roundDiv c.sum c.window)
  let s1 := setSession (fun x => { x with results := x.results ++ [r] }) (clearOperation s)
  let s2 := s1.logDeliberate (.testResult r) (some o.deck)
  let s3 := if r.pass then s2 else changeStatusWithEvent true o.deck .unverified .testFail s2
  raiseOutcome o (.tested r) s3

/-- An operation ends with the refusal code of a test made at its end (R159). -/
def endRefused (o : Operation) (c : Status) (s : State) : State :=
  raiseOutcome o (.refused c) (clearOperation s)

/-- An adjustment ends with its new values, already written (R161, R162, R167). -/
def endAdjusted (o : Operation) (values : List Int) (s : State) : State :=
  raiseOutcome o (.adjusted values s.metro.cal) s

/-- The writes that give four cells of a deck new values, in cell order. -/
def cellWrites (f : CellId → ParamId) (v : CellId → Int) : List Write :=
  (List.finRange 4).map fun i => (f i, v i)

/-- The new z of a cell (R161). -/
def newZero (c : TestCapture) (i : CellId) : Int := roundDiv c.rawSums[i] c.window

/-- The window end of ADJUST_ZERO (R161): the four z values, the deck UNVERIFIED, T at 0 with the zero
set. -/
def endAdjustZero (o : Operation) (c : TestCapture) (s : State) : State :=
  if s.metro.switch = .shut then endRefused o .isProtected s
  else
    let s1 := clearOperation s
    let ws := changesOf s1.legal (cellWrites (.zero o.deck) (newZero c))
    let ds := if s1.deckStatus o.deck = .unverified then [] else [o.deck]
    let s2 := writeLegal ws ds s1
    let s3 := applyMonitor o.deck (adjustedZero s2.legal s2.decks[o.deck]) s2
    endAdjusted o ((List.finRange 4).map (newZero c)) (noticeConditions s3)

/-- The new k of a cell (R162). -/
def newFactor (p : LegalParams) (d : DeckId) (ref : Nat) (w : Int) (i : CellId) : Int :=
  roundTiesUp (p.factor[d][i] * (ref * 1000)) w

/-- Step 1 of R162. -/
def spanRatioOk (ref : Nat) (w : Int) : Bool :=
  0 < w ∧ 9 * w ≤ 10 * ((ref : Int) * 1000) ∧ 10 * ((ref : Int) * 1000) ≤ 11 * w

/-- The window end of ADJUST_SPAN (R162). -/
def endAdjustSpan (o : Operation) (ref : Nat) (c : TestCapture) (s : State) : State :=
  let w := roundDiv c.sum c.window
  let k := newFactor s.legal o.deck ref w
  if s.metro.switch = .shut then endRefused o .isProtected s
  else if !spanRatioOk ref w then endRefused o .outOfRange s
  else if (List.finRange 4).any fun i => !legalRange (.factor o.deck i) (k i) then
    endRefused o .outOfRange s
  else
    let s1 := clearOperation s
    endAdjusted o ((List.finRange 4).map k)
      (legalWrite (changesOf s1.legal (cellWrites (.factor o.deck) k)) s1)

/-- The window end of a test capture, by its operation. -/
def endTestCapture (s : State) : State :=
  match s.operation with
  | none => s
  | some o =>
    match o.capture with
    | none => s
    | some c =>
      match o.kind with
      | .testZero => endTest o .zero c s
      | .testLoad ref pos => endTest o (.load ref pos) c s
      | .adjustZero => endAdjustZero o c s
      | .adjustSpan ref => endAdjustSpan o ref c s
      | .recordShuntRef => s

/-! ### Shunt measurements (R165, R167) -/

/-- The samples a phase counts. -/
def phaseLength : ShuntPhase → Nat
  | .measureOff | .measureOn => 32
  | .settleOn | .settleOff => 50

/-- One sample of the deck in the phase. -/
def countPhase (raw : Vector Int 4) (r : ShuntRun) : ShuntRun :=
  let r1 := { r with count := r.count + 1 }
  match r.phase with
  | .measureOff => { r1 with offSum := r.offSum + raw[r.cell] }
  | .measureOn => { r1 with onSum := r.onSum + raw[r.cell] }
  | .settleOn | .settleOff => r1

/-- What follows a phase: the next phase of the cell, the next cell, or the end of the measurement. -/
inductive PhaseStep where
  | next (r : ShuntRun) (shunt : Option Bool)
  | complete (deflections : List Int)
  deriving DecidableEq, Repr

def nextPhase (r : ShuntRun) : PhaseStep :=
  match r.phase with
  | .measureOff => .next { r with phase := .settleOn, count := 0 } (some true)
  | .settleOn => .next { r with phase := .measureOn, count := 0 } none
  | .measureOn => .next { r with phase := .settleOff, count := 0 } (some false)
  | .settleOff =>
    let done := r.done ++ [r.onSum - r.offSum]
    if h : r.cell.val + 1 < 4 then
      .next
        { r with cell := ⟨r.cell.val + 1, h⟩, phase := .measureOff, count := 0, offSum := 0,
                 onSum := 0, done := done } none
    else .complete done

/-- A cell's sum difference as measured. -/
def cellDiff (diffs : List Int) (i : CellId) : Int := (diffs[i.val]?).getD 0

/-- The measured deflection D_m, to the nearest count. -/
def deflection (diffs : List Int) (i : CellId) : Int := roundDiv (cellDiff diffs i) 32

/-- The test of R165 on a cell, exact. -/
def cellFails (p : LegalParams) (d : DeckId) (diffs : List Int) (i : CellId) : Bool :=
  32 * p.shuntTol[d][i] * p.shuntD[d][i] <
    ((cellDiff diffs i - 32 * p.shuntD[d][i]).natAbs : Int) * 1000000

/-- The run is over: its deck goes on in EMPTY (R30). -/
def endRun (d : DeckId) (s : State) : State :=
  (s.setDeck d completeHold).setMetroDeck d fun m => { m with run := none }

/-- A check completes (R165). Model's choice (notes/assumptions/71.md): the mode is the one in force at the
completion, also where SET_SHUNT_MODE has changed it during the check; the entry names its failing cells in
cell order (notes/assumptions/72.md). -/
def completeCheck (d : DeckId) (diffs : List Int) (s : State) : State :=
  let p := s.legal
  let s1 := (endRun d s).setMetroDeck d fun m =>
    { m with results := vgen fun i => some ⟨!cellFails p d diffs i, deflection diffs i⟩ }
  let failing := (List.finRange 4).filter (cellFails p d diffs)
  let s2 :=
    if failing = [] then s1
    else reportDowngrade .shuntFail d
      (s1.logProtective (.shuntFail (failing.map fun i => (i, deflection diffs i))) (some d))
  s2.setMetroDeck d fun m =>
    { m with shuntMode := if m.shuntMode = .oneShot then .off else m.shuntMode }

/-- The measurement of RECORD_SHUNT_REF completes (R167). -/
def completeReference (d : DeckId) (diffs : List Int) (s : State) : State :=
  let s1 := endRun d s
  match s1.operation with
  | none => s1
  | some o =>
    let v := deflection diffs
    if s1.metro.switch = .shut then endRefused o .isProtected s1
    else if (List.finRange 4).any fun i => !legalRange (.shuntD d i) (v i) then
      endRefused o .outOfRange s1
    else
      let s2 := clearOperation s1
      endAdjusted o ((List.finRange 4).map v)
        (legalWrite (changesOf s2.legal (cellWrites (.shuntD d) v)) s2)

/-- One sample of a deck under measurement; true when a phase ended with it. -/
def shuntSample (d : DeckId) (raw : Vector Int 4) (s : State) : State × Bool :=
  match s.metro.decks[d].run with
  | none => (s, false)
  | some r =>
    let r1 := countPhase raw r
    if r1.count < phaseLength r1.phase then
      (s.setMetroDeck d fun m => { m with run := some r1 }, false)
    else
      match nextPhase r1 with
      | .next r2 shunt =>
        let s1 := s.setMetroDeck d fun m => { m with run := some r2 }
        (match shunt with
          | some on => switchShunt d r1.cell on s1
          | none => s1, true)
      | .complete diffs =>
        (if r1.forReference then completeReference d diffs s else completeCheck d diffs s, true)

end Sys2Proof.Machine
end

