-- ==== Sys2Proof/Machine/Sampling.lean ====
section
/-!
DEFINITION. One sample of a deck, handled whole: the cell front end (R2 to R9), the deck monitor
(R21), and what the offered deck state brings about in the order controller (R67, R70, R71), the
metrology unit (R159, R164 to R167) and the axle sensor unit (R55).
-/

namespace Sys2Proof.Machine

/-! ### Cell front end -/

/-- The converter's rails (R3). -/
def railLow : Int := -8388608

def railHigh : Int := 8388607

/-- The condition of a conversion: the first check that fails gives it (R3). -/
def conditionOf (sensed : Bool) (raw : Int) : Condition :=
  if !sensed then .noExcitation
  else if raw = railLow ∨ raw = railHigh then .saturated
  else .ok

/-- A conversion whose condition is SATURATED or NO_EXCITATION is a cell error (R3). -/
def isCellError (conv : Conversion) (i : CellId) : Bool :=
  conditionOf conv.sense[i] conv.raw[i] ≠ .ok

def cellErrors (conv : Conversion) : Nat := ((List.finRange 4).filter (isCellError conv)).length

/-- A channel after its conversion (R3, R5). -/
def convertCell (conv : Conversion) (i : CellId) (ch : Channel) : Channel :=
  { ch with
    latest := some (conv.raw[i], conditionOf conv.sense[i] conv.raw[i])
    tally := if isCellError conv i then satInc 65535 ch.tally else ch.tally }

/-- A sample is shunted when a shunt switch was ON during its conversion (R6). -/
def isShunted (f : FrontEnd) : Bool := (List.finRange 4).any fun i => f.cells[i].shunt

/-- The sample record of a conversion (R4, R6, R15). -/
def recordOf (p : LegalParams) (d : DeckId) (f : FrontEnd) (conv : Conversion) : Record :=
  if 0 < cellErrors conv ∨ deckParamsBad p d then .invalid
  else if isShunted f then .shunted
  else .valid (rawMass p d conv.raw)

/-- The channels, the tallies, the budget and the validity of the record (R3, R5, R8). -/
def convertDeck (p : LegalParams) (d : DeckId) (conv : Conversion) (f : FrontEnd) : FrontEnd :=
  { cells := vgen fun i => convertCell conv i f.cells[i]
    budget := f.budget - cellErrors conv
    lastValid := some (recordOf p d f conv ≠ .invalid) }

/-- Budget exhausted is reported once per fall to 0, before the record is handed over (R9). -/
def frontEndStep (d : DeckId) (conv : Conversion) (s : State) : State :=
  let before := s.front[d].budget
  let s1 := s.setFront d (convertDeck s.legal d conv)
  if 0 < before ∧ s1.front[d].budget = 0 then reportDowngrade .budget d s1 else s1

/-! ### What comes about in a sample -/

/-- The steps that came about in a sample, for the commands that name one. -/
structure Happened where
  deadline : Bool := false
  tracking : Bool := false
  autoStart : Bool := false
  windowEnd : Bool := false
  testEnd : Option OpKind := none
  shuntPhase : Bool := false
  deriving DecidableEq, Repr

/-- What the deck monitor reads of the other blocks. -/
def surroundings (s : State) (d : DeckId) : Surroundings where
  clear := clearOfAxles s d
  capturing := s.orderCapture || s.testCapture
  busyHere := s.orderCapture || s.testCaptureOn d

/-- The W of the sample, when the deck monitor handed it to stage 4. -/
def sampleGross (r : Record) (k : Deck) : Option Int :=
  match k.hold, r with
  | false, .valid g => some (g - k.zeroOffset)
  | _, _ => none

/-! ### Captures and the sample -/

/-- The deck state offered aborts an order capture in flight (R71). -/
def abortOnDeck (d : DeckId) (s : State) : State :=
  if s.orderCapture ∧ !isSettled (s.deckMode d) then
    abortCapture (if isFaultMode (s.deckMode d) then .deckFault else .motion) s
  else s

/-- The capture windows and their aborts, in one of the two orders they may be taken in (R71, R159). -/
def captureStep (endFirst : Bool) (d : DeckId) (s : State) : State :=
  let finish (s : State) : State := if windowEnded s then completeCapture s else s
  if endFirst then abortOnDeck d (finish s) else finish (abortOnDeck d s)

def testCaptureStep (endFirst : Bool) (d : DeckId) (s : State) : State :=
  let finish (s : State) : State := if testWindowEnded d s then endTestCapture s else s
  if endFirst then abortTestCapture d (finish s) else finish (abortTestCapture d s)

/-- The scheduler on an entry of the deck to EMPTY (R164). -/
def schedule (entered : Bool) (d : DeckId) (s : State) : State :=
  if entered ∧ checkDue s d then startCheck d s else s

/-- Whether a window end is due now, and is taken in the order given. -/
def windowEndTaken (endFirst : Bool) (d : DeckId) (s : State) : Bool :=
  windowEnded s && (endFirst || isSettled (s.deckMode d))

def testEndTaken (endFirst : Bool) (d : DeckId) (s : State) : Option OpKind :=
  if testWindowEnded d s && (endFirst || isSettled (s.deckMode d)) then s.operation.map (·.kind)
  else none

/-! ### The whole sample -/

/-- A cell error abandons a measurement of the deck (R166, R167). -/
def abandonOnError (d : DeckId) (conv : Conversion) (s : State) : State :=
  if 0 < cellErrors conv then abandonOn .deckFault d s else s

/-- One sample of a deck in use, handled whole; `endFirst` says that a window end is taken before an
abort that arrives with it. -/
def sampleWhole (endFirst : Bool) (d : DeckId) (conv : Conversion) (s : State) :
    State × Happened :=
  let r := recordOf s.legal d s.front[d] conv
  let s1 := abandonOnError d conv (frontEndStep d conv s)
  let k := s1.decks[d]
  let e := surroundings s1 d
  let x := sampleDeck s1.legal d e r k
  let s2 := applyMonitor d x s1
  let s3 := match sampleGross r k with
    | some w => testSample d w conv.raw (captureSample d w s2)
    | none => s2
  let s4 := noticeConditions (captureStep endFirst d s3)
  let tested := if d = 0 then testOnSample s4 else (s4, false)
  let s5 := testCaptureStep endFirst d tested.1
  let measured := shuntSample d conv.raw s5
  let s6 := schedule (x.notes.contains (.entered .empty)) d measured.1
  (noticeConditions (recoverMap s6),
    { deadline := x.notes.contains (.zero .motion)
      tracking := trackingDue s1.legal d e r k
      autoStart := tested.2
      windowEnd := windowEndTaken endFirst d s3
      testEnd := testEndTaken endFirst d tested.1
      shuntPhase := measured.2 })

/-- A deck not in use is not converted (R1). -/
def takeSample (endFirst : Bool) (d : DeckId) (conv : Conversion) (s : State) : State :=
  if deckInUse s.legal d then (sampleWhole endFirst d conv s).1 else s

/-- The sample in which a named step comes about; without it the command is without effect. -/
def takeSampleIf (endFirst : Bool) (named : Happened → Bool) (d : DeckId) (conv : Conversion)
    (s : State) : State :=
  if deckInUse s.legal d then
    let out := sampleWhole endFirst d conv s
    if named out.2 then out.1 else s
  else s

end Sys2Proof.Machine
end

