-- ==== Sys2Proof/Machine/FieldEvents.lean ====
section
/-!
DEFINITION. Events of the decks, the beams and the beam pairs' times (chapters 1 to 4, 9): a sample of
a deck, and the samples in which a step named by a row of the table comes about.

A sample that ends a capture window may also abort the capture, and either may be taken first (R71,
R159): DECK_SAMPLE takes the abort first, the rows of the window ends take the end first.
-/

namespace Sys2Proof.Machine

/-! ### Samples -/

def execDeckSample (deck : DeckId) (conv : Conversion) (s : State) :
    Host.Outcome State Fault Refusal :=
  runCommand (takeSample false deck conv) s

/-- The sample brings the deadline of a pending ZERO to 0 (R38). -/
def execZeroDeadlineExpired (deck : DeckId) (conv : Conversion) (s : State) :
    Host.Outcome State Fault Refusal :=
  runCommand (takeSampleIf false (·.deadline) deck conv) s

/-- The sample is the 100th of a tracking run (R39, R40). -/
def execZeroTrackingMove (deck : DeckId) (conv : Conversion) (s : State) :
    Host.Outcome State Fault Refusal :=
  runCommand (takeSampleIf false (·.tracking) deck conv) s

/-- The sample of deck 1 on which auto-capture starts a capture (R67). -/
def execAutoCaptureStart (conv : Conversion) (s : State) : Host.Outcome State Fault Refusal :=
  runCommand (takeSampleIf false (·.autoStart) 0 conv) s

/-- The sample with which the last deck reaches C (R70, R73). -/
def execCaptureWindowEnd (deck : DeckId) (conv : Conversion) (s : State) :
    Host.Outcome State Fault Refusal :=
  runCommand (takeSampleIf true (·.windowEnd) deck conv) s

def isTest : OpKind → Bool
  | .testZero | .testLoad _ _ => true
  | .adjustZero | .adjustSpan _ | .recordShuntRef => false

def isAdjustZero : OpKind → Bool
  | .adjustZero => true
  | .testZero | .testLoad _ _ | .adjustSpan _ | .recordShuntRef => false

def isAdjustSpan : OpKind → Bool
  | .adjustSpan _ => true
  | .testZero | .testLoad _ _ | .adjustZero | .recordShuntRef => false

/-- The sample with which a TEST_ZERO or TEST_LOAD reaches C (R160). -/
def execTestCaptureEnd (deck : DeckId) (conv : Conversion) (s : State) :
    Host.Outcome State Fault Refusal :=
  runCommand (takeSampleIf true (fun x => x.testEnd.any isTest) deck conv) s

/-- The sample with which ADJUST_ZERO reaches C (R161). -/
def execAdjustZeroEnd (deck : DeckId) (conv : Conversion) (s : State) :
    Host.Outcome State Fault Refusal :=
  runCommand (takeSampleIf true (fun x => x.testEnd.any isAdjustZero) deck conv) s

/-- The sample with which ADJUST_SPAN reaches C (R162). -/
def execAdjustSpanEnd (deck : DeckId) (conv : Conversion) (s : State) :
    Host.Outcome State Fault Refusal :=
  runCommand (takeSampleIf true (fun x => x.testEnd.any isAdjustSpan) deck conv) s

/-- The sample that ends a phase of a shunt measurement (R165, R167). -/
def execShuntPhaseEnd (deck : DeckId) (conv : Conversion) (s : State) :
    Host.Outcome State Fault Refusal :=
  runCommand (takeSampleIf false (·.shuntPhase) deck conv) s

/-! ### Beams -/

/-- While the reset is held the pairs are not watched; the inputs stand as they stand (R42, R183). -/
def execBeamRawChange (boundary : Boundary) (raw : BeamState) (s : State) :
    Host.Outcome State Fault Refusal :=
  .next (if s.power = .running then (rawChange boundary raw s).drive
    else s.setPair boundary fun p => { p with raw := raw })

def execFilterTimeExpired (boundary : Boundary) (s : State) : Host.Outcome State Fault Refusal :=
  runCommand (filterExpired boundary) s

def execStuckBeam (boundary : Boundary) (beam : Beam) (s : State) :
    Host.Outcome State Fault Refusal :=
  runCommand (handleStuck boundary beam) s

end Sys2Proof.Machine
end

