-- ==== Sys2Proof/Machine/MetrologyCommands.lean ====
section
/-!
DEFINITION. Requests to the metrology unit (chapter 9) and to the clock (section 11.5), and the events
of the adjustment switch and the session's activity time.
-/

namespace Sys2Proof.Machine

/-! ### READ_METROLOGY, READ_SESSION (R170) -/

def metroBridgeReply (s : State) : Response :=
  let p := s.legal
  accepted (.metroBridge p.decks p.interval p.capacity p.window p.stabBand p.emptyBand p.period
    p.threshold s.metro.cal s.metro.switch s.sessionOpen)

/-- A check, and not the measurement of RECORD_SHUNT_REF, is held on the deck. -/
def checkHeldOn (s : State) (d : DeckId) : Bool :=
  s.metro.decks[d].run.any fun r => !r.forReference

def metroPart (s : State) (d : DeckId) : MetroPart :=
  let m := s.metro.decks[d]
  let p := s.legal
  { maxD := p.maxD[d]
    status := m.status
    lastVerified := m.lastVerified
    shuntMode := m.shuntMode
    entryCount := m.entryCount
    checkHeld := checkHeldOn s d
    cells := (List.finRange 4).map fun i =>
      (p.zero[d][i], p.factor[d][i], p.shuntD[d][i], p.shuntTol[d][i], m.results[i]) }

def readMetrologyReply (deck : Nat) (s : State) : Response :=
  if deck = 0 then metroBridgeReply s
  else
    match deckNumbered s.legal deck with
    | some d => accepted (.metroDeck (metroPart s d))
    | none => refusal .badField

def execReadMetrology (h : Header) (deck : Nat) (s : State) : Host.Outcome State Fault Refusal :=
  request h .readMetrology (readOnly (readMetrologyReply deck)) s

/-- The session record, its activity time in whole seconds. -/
def readSessionReply (s : State) : Response :=
  accepted (.session (s.metro.session.map fun r =>
    (r.isOpen, r.openedAt, (r.activity + 999) / 1000, r.op, r.results)))

def execReadSession (h : Header) (s : State) : Host.Outcome State Fault Refusal :=
  request h .readSession (readOnly readSessionReply) s

/-! ### OPEN_SESSION (R157), CLOSE_SESSION (R158) -/

/-- Every shunt check in progress is abandoned (R166). -/
def abandonChecks (s : State) : State :=
  (List.finRange 4).foldl (fun s d => abandonRun d s) s

/-- The axle sensor unit is told: a VALID map becomes INVALID with an AXLE event (R56). -/
def closeMap (s : State) : State :=
  if s.axle.map.valid then (s.setMap fun m => { m with valid := false }).raise .axleSession else s

/-- The session opens in one step. -/
def openSession (s : State) : State :=
  let s1 := s.setMetro fun m =>
    { m with session := some ⟨true, s.now, activityTime, none, []⟩, marker := true }
  let s2 := s1.logDeliberate .sessionOpen
  (noticeConditions (closeMap (abandonChecks s2))).raise .sessionOpened

def openRefusal (s : State) : Option Status :=
  if s.sessionOpen || s.orderCapture then some .busy
  else if s.axle.map.list ≠ [] then some .vehicleOnBridge
  else if logRoom s.metro = 0 then some .logFull
  else none

def ownOpenSession (s : State) : State × Response :=
  match openRefusal s with
  | some c => refuse s c
  | none => accept (openSession s) (.logSeq s.metro.nextSeq)

def execOpenSession (h : Header) (s : State) : Host.Outcome State Fault Refusal :=
  request h .openSession ownOpenSession s

def ownCloseSession (s : State) : State × Response :=
  if s.sessionOpen then accept (endSession .closed s) else refuse s .noSession

def execCloseSession (h : Header) (s : State) : Host.Outcome State Fault Refusal :=
  request h .closeSession ownCloseSession s

/-! ### SET_LEGAL, SET_CELL_FACTOR (R151) -/

/-- The writes by parameter, none when one names no parameter. -/
def writesOf (l : List LegalWrite) : Option (List Write) :=
  l.mapM fun w => w.param.map fun i => (i, w.value)

/-- The BAD_FIELD row of R151: no parameter twice, each value in its range, the resulting set. -/
def writesOk (p : LegalParams) (ws : List Write) : Bool :=
  noRepeats (ws.map (·.1)) && (ws.all fun w => legalRange w.1 w.2) &&
    resultingSetOk p (resultingSet p ws)

/-- The rows of R151 before BAD_FIELD. -/
def legalGate (s : State) : Option Status :=
  if !s.sessionOpen then some .noSession
  else if s.metro.switch = .shut then some .isProtected
  else if s.operation.isSome then some .busy
  else none

/-- The rows of R151 after BAD_FIELD, on the changes. -/
def changesRefusal (s : State) (cs : List Write) : Option Status :=
  if (cs.any fun w => asksVisits w.1) ∧ anyLive s.visit then some .openVisits
  else if 65535 < s.metro.cal + cs.length then some .counterEnd
  else if logRoom s.metro < entriesNeeded s cs then some .logFull
  else none

def ownSetLegal (l : List LegalWrite) (s : State) : State × Response :=
  match legalGate s, writesOf l with
  | some c, _ => refuse s c
  | none, none => refuse s .badField
  | none, some ws =>
    if !writesOk s.legal ws then refuse s .badField
    else
      let cs := changesOf s.legal ws
      match changesRefusal s cs with
      | some c => refuse s c
      | none =>
        accept (legalWrite cs s)
          (.changes (numberChanges s.metro.cal cs) (unchangedOf s.legal ws)
            (s.metro.cal + cs.length))

/-- The form of a SET_LEGAL: a list of 1 to 8 writes. -/
def withWrites (h : Header) (l : List LegalWrite) : Header :=
  { h with formOk := h.formOk && 1 ≤ l.length && l.length ≤ 8 }

def execSetLegal (h : Header) (writes : List LegalWrite) (s : State) :
    Host.Outcome State Fault Refusal :=
  request (withWrites h writes) .setLegal (ownSetLegal writes) s

/-- SET_CELL_FACTOR is a SET_LEGAL of the cell's k and z. -/
def cellFactorWrites (channel : Nat) (k z : Int) : List LegalWrite :=
  [⟨(cellNumbered channel).map fun c => .factor c.1 c.2, k⟩,
   ⟨(cellNumbered channel).map fun c => .zero c.1 c.2, z⟩]

def execSetCellFactor (h : Header) (channel : Nat) (k z : Int) (s : State) :
    Host.Outcome State Fault Refusal :=
  request h .setCellFactor (ownSetLegal (cellFactorWrites channel k z)) s

/-! ### Session operations (R159) -/

/-- The fields of an operation lie in their ranges (R160, R162). -/
def operationFieldsOk (p : LegalParams) (d : DeckId) : OpKind → Bool
  | .testZero | .adjustZero | .recordShuntRef => true
  | .testLoad ref _ => 1 ≤ ref ∧ (ref : Int) ≤ p.maxD[d]
  | .adjustSpan ref => p.maxD[d] ≤ (ref : Int) * 10

/-- The rows of R159 after BAD_FIELD, but for readiness. -/
def operationRefusal (k : OpKind) (d : DeckId) (s : State) : Option Status :=
  if isAdjustment k ∧ s.metro.switch = .shut then some .isProtected
  else if !isAdjustment k ∧ 24 ≤ (resultsOf s).length then some .full
  else if isAdjustment k ∧ 65535 < s.metro.cal + 4 then some .counterEnd
  else if logRoom s.metro < reserveFor k (s.deckStatus d) then some .logFull
  else none

/-- The table of R159; an operation that passes starts, and the reply is PENDING. -/
def ownOperation (kind : Option OpKind) (deck : Nat) (s : State) : State × Response :=
  if !s.sessionOpen then refuse s .noSession
  else if s.operation.isSome then refuse s .busy
  else
    match kind, deckNumbered s.legal deck with
    | some k, some d =>
      if !operationFieldsOk s.legal d k then refuse s .badField
      else
        match operationRefusal k d s with
        | some c => refuse s c
        | none =>
          match notReadyCause k s.decks[d] with
          | some c => refuse s .notReady (.notReady c)
          | none => (startOperation k d s, ⟨.pending, .none⟩)
    | _, _ => refuse s .badField

def execTestZero (h : Header) (deck : Nat) (s : State) : Host.Outcome State Fault Refusal :=
  request h .testZero (ownOperation (some .testZero) deck) s

def execTestLoad (h : Header) (deck ref : Nat) (position : Choice Position) (s : State) :
    Host.Outcome State Fault Refusal :=
  request h .testLoad (ownOperation (position.map fun p => .testLoad ref p) deck) s

def execAdjustZero (h : Header) (deck : Nat) (s : State) : Host.Outcome State Fault Refusal :=
  request h .adjustZero (ownOperation (some .adjustZero) deck) s

def execAdjustSpan (h : Header) (deck ref : Nat) (s : State) :
    Host.Outcome State Fault Refusal :=
  request h .adjustSpan (ownOperation (some (.adjustSpan ref)) deck) s

def execRecordShuntRef (h : Header) (deck : Nat) (s : State) :
    Host.Outcome State Fault Refusal :=
  request h .recordShuntRef (ownOperation (some .recordShuntRef) deck) s

/-! ### CERTIFY_DECK (R163) -/

/-- The deck's results that are not superseded. -/
def currentResults (s : State) (d : DeckId) : List TestResult :=
  (resultsOf s).filter fun r => r.deck = d ∧ !r.superseded

/-- The references of PASS CENTRE load tests. -/
def centreLoads (rs : List TestResult) : List Nat :=
  rs.filterMap fun r =>
    match r.kind with
    | .load m .centre => if r.pass then some m else none
    | _ => none

def twoDistinct : List Nat → Bool
  | [] => false
  | a :: l => l.any (· ≠ a)

/-- The first requirement that the results fail. -/
def missingRequirement (rs : List TestResult) : Option Requirement :=
  if rs.any fun r => !r.pass then some .failPresent
  else if !rs.any fun r => r.kind = .zero ∧ r.pass then some .zeroTest
  else if !twoDistinct (centreLoads rs) then some .loadTests
  else none

/-- The parameters of the bridge and of the deck that must lie in their ranges (R186). -/
def certifyParams (d : DeckId) : List ParamId :=
  bridgeParams ++ .maxD d :: cellParams d ++ shuntParams d

/-- The deck is certified in one durable step. -/
def certify (d : DeckId) (s : State) : State :=
  let relied := (currentResults s d).map (·.number)
  let s1 := s.setMetroDeck d fun m => { m with lastVerified := some s.clock.day }
  let s2 := s1.setFront d fun f => { f with budget := s.legal.threshold.toNat }
  changeStatusWithEvent false d .verified .certify
    (s2.logDeliberate (.certify relied) (some d))

def ownCertifyDeck (deck : Nat) (s : State) : State × Response :=
  if !s.sessionOpen then refuse s .noSession
  else if s.operation.isSome then refuse s .busy
  else
    match deckNumbered s.legal deck with
    | none => refuse s .badField
    | some d =>
      if !(certifyParams d).all (inRange s.legal) then refuse s .badField
      else if s.metro.switch = .opened then refuse s .wrongState
      else if logRoom s.metro < 2 then refuse s .logFull
      else
        match missingRequirement (currentResults s d) with
        | some r => refuse s .requirements (.requirement r)
        | none => accept (certify d s)

def execCertifyDeck (h : Header) (deck : Nat) (s : State) : Host.Outcome State Fault Refusal :=
  request h .certifyDeck (ownCertifyDeck deck) s

/-! ### SET_SHUNT_MODE (R164) -/

def shuntModeOf (m : ShuntModeName) (period : Nat) : ShuntMode :=
  match m with
  | .off => .off
  | .oneShot => .oneShot
  | .periodic => .periodic (clamp 1 255 period)

def ownSetShuntMode (deck : Nat) (mode : Choice ShuntModeName) (period : Nat) (s : State) :
    State × Response :=
  match mode, (List.finRange 4).find? (fun d => d.val + 1 = deck) with
  | some m, some d =>
    let x := shuntModeOf m period
    accept (s.setMetroDeck d fun k => { k with shuntMode := x, entryCount := 0 }) (.shuntMode x)
  | _, _ => refuse s .badField

def execSetShuntMode (h : Header) (deck : Nat) (mode : Choice ShuntModeName) (period : Nat)
    (s : State) : Host.Outcome State Fault Refusal :=
  request h .setShuntMode (ownSetShuntMode deck mode period) s

/-! ### READ_LOG, RELEASE_LOG (R169) -/

def readLogReply (start : Nat) (s : State) : Response :=
  let m := s.metro
  accepted (.log ((m.log.filter fun e => start ≤ e.seq).take 6) (m.log.head?.map (·.seq))
    (m.log.getLast?.map (·.seq)) (freeEntries m) (reservedEntries m) m.lost m.rejected)

def execReadLog (h : Header) (start : Nat) (s : State) : Host.Outcome State Fault Refusal :=
  request h .readLog (readOnly (readLogReply start)) s

/-- The counts are reduced by the values carried, or set to 0. -/
def releaseEntries (seq lost rejected : Nat) (m : Metrology) : Metrology :=
  { m with
    log := m.log.filter fun e => seq < e.seq
    lost := m.lost - lost
    rejected := m.rejected - rejected }

def ownReleaseLog (seq lost rejected : Nat) (s : State) : State × Response :=
  if s.metro.nextSeq ≤ seq then refuse s .badField
  else
    let s1 := s.setMetro (releaseEntries seq lost rejected)
    accept s1 (.logReleased (s.metro.log.length - s1.metro.log.length) (freeEntries s1.metro))

def execReleaseLog (h : Header) (seq lost rejected : Nat) (s : State) :
    Host.Outcome State Fault Refusal :=
  request h .releaseLog (ownReleaseLog seq lost rejected) s

/-! ### READ_CLOCK, SET_CLOCK (R189) -/

def readClockReply (s : State) : Response :=
  accepted (.clock s.now s.clock.lost s.clock.restartCause s.clock.restartTime)

def execReadClock (h : Header) (s : State) : Host.Outcome State Fault Refusal :=
  request h .readClock (readOnly readClockReply) s

def ownSetClock (day sec : Nat) (s : State) : State × Response :=
  if 65535 < day ∨ 86399 < sec then refuse s .badField
  else if logRoom s.metro = 0 then refuse s .logFull
  else
    let s1 := s.setClock fun c =>
      { c with
        day := day
        sec := sec
        ms := 0
        replaced := c.replaced || atDayEnd c
        lost := false }
    accept (s1.logDeliberate (.clockSet s.now ⟨day, sec⟩)) (.oldTime s.now)

def execSetClock (h : Header) (day sec : Nat) (s : State) : Host.Outcome State Fault Refusal :=
  request h .setClock (ownSetClock day sec) s

/-! ### Switch and session events (R153, R158) -/

def switchKind : SwitchLevel → LogKind
  | .opened => .switchOpen
  | .shut => .switchClose

/-- A level held for 50 ms is taken when it differs from the switch state; OPEN fails condition 10 of an
order of a trade kind, which sets its run to 0 (R66, R67). -/
def switchTaken (l : SwitchLevel) (s : State) : State :=
  if s.metro.switch = l then s
  else
    noticeConditions
      (((s.setMetro fun m => { m with switch := l }).logProtective (switchKind l)).raise
        (.switchTaken l))

def execSwitchChange (l : SwitchLevel) (s : State) : Host.Outcome State Fault Refusal :=
  runCommand (switchTaken l) s

def execSessionExpiry (s : State) : Host.Outcome State Fault Refusal :=
  runCommand (endSession .expired) s

end Sys2Proof.Machine
end

