-- ==== Sys2Proof/Machine/OrderCommands.lean ====
section
/-!
DEFINITION. Requests to the order controller (chapter 4).
-/

namespace Sys2Proof.Machine

/-! ### STAGE_ORDER (R62) -/

/-- The first row of the tests: the fields agree with the kind. -/
def orderFieldsOk (o : Order) : Bool :=
  (!o.storeTare || o.kind = .secondWeigh) && (o.cls.isNone || o.visit = 0) &&
    (o.visit ≠ 0 || o.kind = .check)

/-- The visit number, or visit 0, is in the queue. -/
def inQueue (u : OrderUnit) (visit : Nat) : Bool :=
  u.active.any (fun a => a.order.visit = visit) || u.staged.any (fun o => o.visit = visit)

/-- The rows of R62 that judge the visit: it exists, suits the kind, and for STORED_TARE has a valid
tare. -/
def visitRefusal (s : State) (o : Order) : Option Status :=
  if o.visit = 0 then none
  else
    match findVisit s.visit o.visit with
    | none => some .notFound
    | some v =>
      if v.held.isSome ∨ !suitsKind o v then some .wrongState
      else if o.kind = .storedTare ∧ (validTare s.visit s.clock.day v.plate).isNone then
        some .noValidTare
      else none

/-- The table of R62: the first test that fails. -/
def stageRefusal (s : State) (o : Order) : Option Status :=
  if !orderFieldsOk o then some .badField
  else if o.cls.any fun c => (classAt s.check c).isNone then some .notFound
  else if 2 ≤ s.order.staged.length then some .full
  else if inQueue s.order o.visit then some .duplicate
  else visitRefusal s o

/-- The order takes the active slot when it is empty, otherwise the end of the staged list (R61); the
place is 0 for active. -/
def enqueue (o : Order) (s : State) : State × Nat :=
  if s.order.active.isNone then (activate o s, 0)
  else
    (s.setOrder fun u => { u with staged := u.staged ++ [o] }, s.order.staged.length + 1)

def ownStageOrder (visit : Nat) (kind : Choice OrderKind) (storeTare auto : Bool)
    (cls : Option Nat) (s : State) : State × Response :=
  match kind with
  | none => refuse s .badField
  | some k =>
    let o : Order := ⟨visit, k, storeTare, auto, cls⟩
    match stageRefusal s o with
    | some c => refuse s c
    | none => accept (enqueue o s).1 (.placed (enqueue o s).2)

def execStageOrder (h : Header) (visit : Nat) (kind : Choice OrderKind) (storeTare auto : Bool)
    (cls : Option Nat) (s : State) : Host.Outcome State Fault Refusal :=
  request h .stageOrder (ownStageOrder visit kind storeTare auto cls) s

/-! ### CANCEL_ORDER (R63) -/

/-- An active order is removed, its capture first aborted. -/
def cancelActive (s : State) : State :=
  leaveActive .cancelled (if s.orderCapture then abortCapture .cancelled s else s)

/-- A staged order is removed and the order behind it moves up. -/
def cancelStaged (o : Order) (s : State) : State :=
  raiseLeft o .cancelled
    (s.setOrder fun u => { u with staged := u.staged.filter fun x => x.visit ≠ o.visit })

def ownCancelOrder (visit : Nat) (s : State) : State × Response :=
  if s.order.active.any fun a => a.order.visit = visit then accept (cancelActive s)
  else
    match s.order.staged.find? (fun o => o.visit = visit) with
    | some o => accept (cancelStaged o s)
    | none => refuse s .notFound

def execCancelOrder (h : Header) (visit : Nat) (s : State) : Host.Outcome State Fault Refusal :=
  request h .cancelOrder (ownCancelOrder visit) s

/-! ### CAPTURE (R68), FINISH_SURVEY (R76) -/

def ownCapture (s : State) : State × Response :=
  if s.orderCapture || s.testCapture then refuse s .busy
  else
    match s.order.active with
    | none => refuse s .notFound
    | some a =>
      match testedOrder s with
      | none => refuse s .wrongState
      | some _ =>
        match firstFailing s a.order with
        | some c => refuse s .notReady (.notReady c)
        | none => accept (startCapture s)

def execCapture (h : Header) (s : State) : Host.Outcome State Fault Refusal :=
  request h .capture ownCapture s

def ownFinishSurvey (s : State) : State × Response :=
  match s.order.active with
  | none => refuse s .notFound
  | some a =>
    if a.state = .capturing then refuse s .busy
    else if a.order.kind = .axleSurvey ∧ a.state = .surveying then
      accept (leaveWithoutPass (finishSurvey s))
    else refuse s .wrongState

def execFinishSurvey (h : Header) (s : State) : Host.Outcome State Fault Refusal :=
  request h .finishSurvey ownFinishSurvey s

/-! ### READ_ORDERS (R81), SET_CAPTURE (R80) -/

def ordersPart (s : State) : OrdersPart where
  active := s.order.active
  notReady := (testedOrder s).bind (firstFailing s)
  condRun := s.order.condRun
  captureCounts := s.order.engine.map fun e => s.inUse.map fun d => e.counts[d]
  staged := s.order.staged
  stops := s.order.stops.length
  laneA := s.order.laneA
  laneB := s.order.laneB

def readOrdersReply (s : State) : Response := accepted (.orders (ordersPart s))

def execReadOrders (h : Header) (s : State) : Host.Outcome State Fault Refusal :=
  request h .readOrders (readOnly readOrdersReply) s

def ownSetCapture (window delay : Nat) (s : State) : State × Response :=
  let c := clamp 25 200 window
  let a := clamp 0 500 delay
  accept (s.setOrder fun u => { u with window := c, delay := a }) (.taken [c, a])

def execSetCapture (h : Header) (window delay : Nat) (s : State) :
    Host.Outcome State Fault Refusal :=
  request h .setCapture (ownSetCapture window delay) s

end Sys2Proof.Machine
end

