-- ==== Sys2Proof/Machine/TakeBack.lean ====
section
/-!
DEFINITION. What a restart makes of the visit table unit's requests whose replies it cut off (R118): the
unit without a request, with every change made since.
-/

namespace Sys2Proof.Machine

/-! ### Sound tables (R101, R111, R112, R114) -/

/-- The weighings, the net and the state of one visit agree. -/
def visitOk (v : Visit) : Bool :=
  match v.state with
  | .opened => v.first.isNone && v.second.isNone && v.net.isNone && v.held.isNone
  | .firstDone =>
    v.second.isNone && v.net.isNone &&
      (match v.first with
        | some f => f.role = firstRole v.kind
        | none => false) &&
      (match v.held with
        | some h => (match h.content.masses with
          | .first _ _ _ => true
          | .final _ _ _ _ _ _ => false)
        | none => true)
  | .closed =>
    (match v.first, v.second, v.net with
      | some f, some x, some n =>
        f.role = firstRole v.kind && x.role = secondRole v.kind &&
          n = netOf v.kind f.mass x.mass && 0 ≤ n
      | _, _, _ => false) &&
    (match v.held with
      | some h => (match h.content.masses with
        | .first _ _ _ => false
        | .final _ _ _ _ _ _ => true)
      | none => true)
  | .void => v.second.isNone && v.net.isNone && v.held.isNone

/-- The plates of live visits. -/
def livePlates (u : VisitUnit) : List Text := (u.visits.filter isLive).map (·.plate)

/-- The two tables are what R101, R102, R111 and R114 let them be. -/
def soundTables (u : VisitUnit) : Bool :=
  u.visits.length ≤ 64 && decide (u.visits.map (·.number)).Nodup &&
    (u.visits.all fun v => 1 ≤ v.number && v.number ≤ 9999) && decide (livePlates u).Nodup &&
    u.visits.all visitOk && u.tares.length ≤ 128 && decide (u.tares.map (·.plate)).Nodup

/-! ### The unit without one request -/

/-- The change finds what it is made of: its visit or its stored tare, or a free number for a new visit. -/
def canMake (c : VisitChange) (u : VisitUnit) : Bool :=
  match c with
  | .opened v => (findVisit u v.number).isNone
  | .amended n _ | .voided n | .surveyed n _ => (findVisit u n).isSome
  | .recorded v => (findVisit u v.number).isSome
  | .tareUsed plate => (findTare u plate).isSome
  | .removed _ | .tareWritten _ _ | .tareDeleted _ | .rulesSet _ _ | .cleared => true

/-- Changes made one after another; none where one of them does not find what it is made of. -/
def makeAll (u : VisitUnit) : List VisitChange → Option VisitUnit
  | [] => some u
  | c :: l => if canMake c u then makeAll (make c u) l else none

/-- The changes made since a request's handling ended. -/
def changesSince (c : Answered) (u : VisitUnit) : List VisitChange := u.made.drop c.upTo

/-- The unit with the request not made and every change since made, where these can be made without it and
leave sound tables. -/
def unitWithout (c : Answered) (u : VisitUnit) : Option VisitUnit :=
  (makeAll c.before (changesSince c u)).filter soundTables

/-- The unit without the request (R118). Model's choice (notes/assumptions/53.md): where a change since
cannot be made without it, as that of a visit that the request opened, both stand (R184). -/
def withoutRequest (c : Answered) (u : VisitUnit) : VisitUnit := (unitWithout c u).getD u

/-! ### The requests whose replies a restart cuts off -/

/-- A request of chapter 6 that changes the visit table unit and whose reply is being sent (R118). Model's
choice (notes/assumptions/53.md): a reply that another port's SET_PORT_RATE has cut short (`replyLost`) is
still being sent while its rest goes out, so a restart then finds its request not made (R118), although R176
lets the effect of such a request stand. -/
def unsentChange (p : PortState) : Option Answered :=
  match p.receiver, p.reply with
  | .answering, some r =>
    if (kindOfCode r.kind).any (·.changesVisits) then p.answered else none
  | _, _ => none

def allPorts : List Port := [.console, .office, .inspection]

/-- The later of two requests: the one that met the unit with more changes made. -/
def laterOf (a b : Option (Port × Answered)) : Option (Port × Answered) :=
  match a, b with
  | some x, some y => if x.2.before.made.length < y.2.before.made.length then some y else some x
  | some x, none => some x
  | none, y => y

/-- The latest request whose reply is being sent. -/
def latestUnsent (s : State) : Option (Port × Answered) :=
  allPorts.foldl (fun a p => laterOf a ((unsentChange (s.portState p)).map fun c => (p, c))) none

/-- The latest of them is found not made (R118). -/
def takeBack (s : State) : State :=
  match latestUnsent s with
  | some (p, c) =>
    (s.setPort p fun x => { x with answered := none }).setVisit (withoutRequest c)
  | none => s

/-- No request is being answered any more, and the changes made are the retained ones. -/
def forgetAnswers (s : State) : State :=
  { s with
    visit := { s.visit with made := [] }
    ports := vmap (fun p => { p with answered := none }) s.ports }

/-- R118 for the requests of the three ports, the latest first. -/
def takeBackAll (s : State) : State := forgetAnswers (takeBack (takeBack (takeBack s)))

end Sys2Proof.Machine
end

