-- ==== Sys2Proof/Machine/Restarting.lean ====
section
/-!
DEFINITION. The clock's day rollover (R188), the reset (R183) and the restart sequence (R185 to R187).
-/

namespace Sys2Proof.Machine

/-! ### Day rollover -/

/-- The day after; 65535 is followed by 0. -/
def nextDay (d : Nat) : Nat := if 65535 ≤ d then 0 else d + 1

/-- R10, R186: the daily regain of a deck in use. -/
def regain (p : LegalParams) (d : DeckId) (f : FrontEnd) : FrontEnd :=
  if deckInUse p d ∧ inRange p .threshold ∧ 0 < f.budget ∧ (f.budget : Int) < p.threshold then
    { f with budget := f.budget + 1 }
  else f

def regainAll (s : State) : State :=
  { s with front := vgen fun d => regain s.legal d s.front[d] }

/-- R155: a VERIFIED deck whose period has run out. -/
def periodOut (s : State) (d : DeckId) : Bool :=
  s.deckStatus d = .verified &&
    match s.metro.decks[d].lastVerified with
    | some v => (v : Int) + s.legal.period ≤ s.clock.day
    | none => false

/-- R155. Model's choice (notes/assumptions/56.md): several decks are taken in deck order. -/
def dueTest (s : State) : State :=
  (List.finRange 4).foldl (fun s d =>
    if periodOut s d then changeStatusWithEvent true d .due .period s else s) s

/-- The clock takes the new day (R188). -/
def rollClock (s : State) : State :=
  s.setClock fun c => { c with day := nextDay c.day, sec := 0, ms := 0 }

/-- The clock passes its day's end: its seconds stand at the day's last, and the event is not due from a
time that SET_CLOCK has replaced (R188, R189). Model's choice (notes/assumptions/59.md): an event that
comes with the seconds elsewhere is without effect. -/
def passesDayEnd (c : Clock) : Bool := atDayEnd c && !c.replaced

/-- The rollover due from a replaced time has come, and nothing has followed from it (R189). -/
def dropRollover (s : State) : State := s.setClock fun c => { c with replaced := false }

/-- The clock keeps time while the ZW-4 is held; the rollover is then not taken (R155, R188). -/
def execDayRollover (s : State) : Host.Outcome State Fault Refusal :=
  .next (if s.power = .running then
      (if passesDayEnd s.clock then dueTest (regainAll (rollClock s)) else dropRollover s).drive
    else if passesDayEnd s.clock then rollClock s else dropRollover s)

/-! ### Reset (R183) -/

/-- Every shunt switch is OFF. -/
def shuntsOff (s : State) : State :=
  { s with
    front := vmap (fun f => { f with cells := vmap (fun c => { c with shunt := false }) f.cells })
      s.front }

/-- A power loss during a reset assertion makes it a loss of power. -/
def holdPower (lost : Bool) : Power → Power
  | .running => .heldReset lost
  | .heldReset before => .heldReset (before || lost)

def execResetAsserted (powerLost : Bool) (s : State) : Host.Outcome State Fault Refusal :=
  .next { shuntsOff s with power := holdPower powerLost s.power }.drive

/-! ### Restart (R187) -/

/-- Power was applied, or only the reset line released (R183). A restart without a held reset is a
pulse of the reset line. -/
def restartCauseOf : Power → RestartCause
  | .heldReset true => .powerOn
  | .heldReset false | .running => .resetLine

/-- The clock found stopped starts from day 0 at 0 s (R188). -/
def restartClock (lost : Bool) (c : Clock) : Clock :=
  if lost then { c with day := 0, sec := 0, ms := 0, replaced := false, lost := true } else c

/-- The legal region as it reads back; none is as its last durable step left it (R185). -/
def readLegal (r : Option LegalRead) (m : Metrology) : Metrology :=
  match r with
  | none => m
  | some x => { m with legal := x.params, cal := x.counter, check := x.check }

/-- The legal region check (R185). -/
def checkPasses (m : Metrology) : Bool := m.check = Config.legalCheck m.legal m.cal

/-- What a failed check does (R185); several decks in deck order (notes/assumptions/56.md). -/
def failCheck (s : State) : State :=
  (List.finRange 4).foldl (fun s d => changeStatus true d .unverified .restoreFail s)
    (s.logProtective .restoreFail)

/-- A restored budget that exceeds the threshold in force is set to it (R18), a threshold outside its
range apart (R186). -/
def restoreBudget (p : LegalParams) (f : FrontEnd) : FrontEnd :=
  if inRange p .threshold ∧ p.threshold < (f.budget : Int) then
    { f with budget := p.threshold.toNat }
  else f

/-- The metrology unit's volatile state starts empty (R171). -/
def restartMetro (m : Metrology) : Metrology :=
  { m with
    session := none
    decks := vmap (fun d => { d with entryCount := 0, run := none, results := vrep 4 none }) m.decks }

/-- Step 1 (R118, R185, R18). -/
def restore (r : Option LegalRead) (s : State) : State :=
  let s1 := (takeBackAll s).setMetro fun m => readLegal r (restartMetro m)
  let s2 := if checkPasses s1.metro then s1 else failCheck s1
  { s2 with front := vmap (restoreBudget s2.legal) s2.front }

/-- Step 2: a set session marker (R158). -/
def closeLostSession (s : State) : State :=
  if s.metro.marker then
    (s.logProtective (.sessionEnd .restart)).setMetro fun m => { m with marker := false }
  else s

/-- Step 3 (R135). -/
def fixPrint (p : PrintState) : PrintState := if p = .queued then .unprinted else p

def fixTicket (t : Ticket) : Ticket :=
  { t with printA := fixPrint t.printA, printB := fixPrint t.printB }

/-- How many print states of a ticket are QUEUED. -/
def queuedStates (t : Ticket) : Nat :=
  (if t.printA = .queued then 1 else 0) + (if t.printB = .queued then 1 else 0)

def queuedCount (u : TicketUnit) : Nat := (u.journal.map queuedStates).sum

def fixJournal (s : State) : State :=
  s.setTicket fun u => { u with journal := u.journal.map fixTicket }

/-- A pair at restart, its beam inputs as they stand (R59). -/
def restartPair (inUse : Bool) (p : Pair) : Pair :=
  { Pair.initial with raw := p.raw, persist := if inUse then some 0 else none }

/-- Step 4: the volatile state of each block (R17, R41, R59, R82, R98, R135, R148). -/
def restartBlocks (s : State) : State :=
  { s with
    front := vmap (fun f => { cells := vrep 4 .start, budget := f.budget, lastValid := none }) s.front
    decks := vrep 4 .start
    axle :=
      { s.axle with
        pairs := vgen fun j => restartPair (pairInUse s.legal j) s.axle.pairs[j]
        map := .start }
    order :=
      { s.order with
        active := none, staged := [], engine := none, condRun := 0, stops := [],
        crossingSince := false, laneA := .stop, laneB := .stop }
    check := { s.check with table := .empty }
    ticket :=
      { s.ticket with lineA := .start s.ticket.interval, lineB := .start s.ticket.interval }
    watch := { s.watch with armed := [], flag1 := none, flag2 := none, matchNumber := 0 } }

/-- Step 5 (R182, R187). -/
def reportRestart (c : Cause) (s : State) : State :=
  { s with ports := vmap (fun p => .afterRestart p.rate c s.now) s.ports }

/-- A clock found stopped starts (R188). Model's choice (notes/assumptions/74.md): it starts before step 1 of
R187, which does not say when, so the entries of steps 1 and 2 are stamped from day 0 at 0 s. -/
def startClock (batteryFailed : Bool) (s : State) : State :=
  s.setClock (restartClock (batteryFailed && restartCauseOf s.power = .powerOn))

/-- The durable steps of a restart up to the one named (R187, steps 1 to 3). -/
def durableSteps (upTo : RestartStep) (r : Option LegalRead) (s : State) : State :=
  match upTo with
  | .restore => restore r s
  | .metrology => closeLostSession (restore r s)
  | .journal => fixJournal (closeLostSession (restore r s))

/-- The RESTART detail of a restart that begins in `s` (R187). -/
def restartDetail (batteryFailed : Bool) (r : Option LegalRead) (s : State) : Cause :=
  let cause := restartCauseOf s.power
  .restarted cause (checkPasses (readLegal r s.metro)) s.metro.marker (queuedCount s.ticket)
    (batteryFailed && cause = .powerOn)

/-- The restart sequence, whole (R187). Model's choice (notes/assumptions/53.md): a change made by a request
of another unit than the visit table unit stands although its reply was still being sent, which R184
allows. -/
def restartWhole (batteryFailed : Bool) (r : Option LegalRead) (s : State) : State :=
  let s1 := restartBlocks (durableSteps .journal r (startClock batteryFailed s))
  let s2 := s1.setClock fun c =>
    { c with restartCause := restartCauseOf s.power, restartTime := s1.now }
  { reportRestart (restartDetail batteryFailed r s) s2 with power := .running }

/-- A restart that a second assertion or a loss of power interrupts (R183): the durable steps it made
stand, and the ZW-4 is held again with each output at its restart value. Model's choice
(notes/assumptions/58.md): an interrupted restart makes no report, and the next one reports what it
finds itself. -/
def restartCutShort (batteryFailed : Bool) (r : Option LegalRead) (c : RestartCut) (s : State) :
    State :=
  { restartBlocks (durableSteps c.done r (startClock batteryFailed s)) with
    power := holdPower c.powerLost s.power }

def execRestart (batteryFailed : Bool) (run : RestartRun) (s : State) :
    Host.Outcome State Fault Refusal :=
  .next (match run.cut with
    | none => restartWhole batteryFailed run.asRead s
    | some c => restartCutShort batteryFailed run.asRead c s).drive

end Sys2Proof.Machine
end

