-- ==== Sys2Proof/Machine/TicketCommands.lean ====
section
/-!
DEFINITION. Requests to the ticket unit and the events of its printer lines (chapter 7).
-/

namespace Sys2Proof.Machine

def findTicket (u : TicketUnit) (n : Nat) : Option Ticket := u.journal.find? (·.number = n)

/-- Ticket numbers run from 1 to 999,999 (R120). -/
def ticketLimit : Nat := 999999

/-! ### READ_TICKET (R125) -/

def readTicketReply (n : Nat) (s : State) : Response :=
  if n = 0 then
    accepted (.journalBounds s.ticket.counter s.ticket.journal.length
      (s.ticket.journal.head?.map (·.number)))
  else if ticketLimit < n then refusal .badField
  else
    match findTicket s.ticket n with
    | some t => accepted (.ticket t)
    | none => refusal .notFound

def execReadTicket (h : Header) (number : Nat) (s : State) : Host.Outcome State Fault Refusal :=
  request h .readTicket (readOnly (readTicketReply number)) s

/-! ### REPRINT (R132) -/

/-- The copy count rises unless it is 255. -/
def countCopy (n : Nat) (u : TicketUnit) : TicketUnit :=
  { u with
    journal := u.journal.map fun t =>
      if t.number = n then { t with copies := satInc 255 t.copies } else t }

def ownReprint (n : Nat) (printer : Choice BridgeEnd) (s : State) : State × Response :=
  match printer with
  | none => refuse s .badField
  | some e =>
    if n = 0 ∨ ticketLimit < n then refuse s .badField
    else
      match findTicket s.ticket n with
      | none => refuse s .notFound
      | some t =>
        if !hasRoom s.ticket e then refuse s .full
        else
          let copy := satInc 255 t.copies
          let job : Job := ⟨.ticket n, true, ticketFields s.check t (some copy) e⟩
          accept (s.setTicket fun u => setLine e (pushJob job) (countCopy n u)) (.copyNumber copy)

def execReprint (h : Header) (number : Nat) (printer : Choice BridgeEnd) (s : State) :
    Host.Outcome State Fault Refusal :=
  request h .reprint (ownReprint number printer) s

/-! ### READ_PRINTERS, SET_PRINTING (R133) -/

def lineReport (l : PrinterLine) : LineState × Nat × List (JobName × Bool) :=
  (l.state, l.retry, l.spool.map fun j => (j.name, j.isCopy))

/-- R133. Model's choice (notes/assumptions/72.md): printer A comes before printer B. -/
def readPrintersReply (s : State) : Response :=
  accepted (.printers [lineReport s.ticket.lineA, lineReport s.ticket.lineB] s.ticket.copyOn
    s.ticket.interval s.ticket.limit)

def execReadPrinters (h : Header) (s : State) : Host.Outcome State Fault Refusal :=
  request h .readPrinters (readOnly readPrintersReply) s

def ownSetPrinting (copy : Choice Bool) (interval limit : Nat) (s : State) : State × Response :=
  match copy with
  | none => refuse s .badField
  | some c =>
    let i := clamp 1 10 interval
    let l := clamp 0 99 limit
    accept (s.setTicket fun u => { u with copyOn := c, interval := i, limit := l })
      (.printing c i l)

def execSetPrinting (h : Header) (copy : Choice Bool) (interval limit : Nat) (s : State) :
    Host.Outcome State Fault Refusal :=
  request h .setPrinting (ownSetPrinting copy interval limit) s

/-! ### Printer lines (R127 to R130) -/

/-- A print message is outstanding. -/
def printOutstanding (l : PrinterLine) : Bool := l.state = .sending ∧ l.answerLeft.isSome

/-- A status query is outstanding. -/
def queryOutstanding (l : PrinterLine) : Bool := l.state = .offline ∧ l.answerLeft.isSome

/-- The answer to a print message; one that comes while none is outstanding is discarded (R127). Model's
choices: a garbled answer is no answer when it arrives, not when the 1 s has run (notes/assumptions/63.md); a
late answer to an earlier print message that arrives while the next is outstanding is taken as the next one's
(notes/assumptions/73.md). -/
def printAnswered (e : BridgeEnd) (a : PrintReply) (s : State) : State :=
  if printOutstanding (lineOf s.ticket e) then
    match a with
    | .accept => printTaken e s
    | .busy | .garbled => printRefused e s
    | .noPaper => printerFails e true s
    | .fault => printerFails e false s
  else s

def execPrintAnswer (printer : BridgeEnd) (a : PrintReply) (s : State) :
    Host.Outcome State Fault Refusal :=
  runCommand (printAnswered printer a) s

/-- The query got no READY: the line stays OFFLINE, and nothing is outstanding. -/
def endQuery (e : BridgeEnd) (s : State) : State :=
  s.setTicket (setLine e fun l => { l with answerLeft := none })

/-- READY: the line returns to READY, and the head job, if any, is sent at once (R130). -/
def lineReady (e : BridgeEnd) (s : State) : State :=
  (s.setTicket (setLine e fun l =>
    sendHead { l with state := .ready, answerLeft := none })).raise (.printerOnline e)

/-- The answer to a status query (R130); a garbled one is no answer when it arrives
(notes/assumptions/63.md). Model's choice (notes/assumptions/73.md): a late answer to an earlier query that
arrives while the next is outstanding is taken as the next one's. -/
def statusAnswered (e : BridgeEnd) (a : QueryReply) (s : State) : State :=
  if queryOutstanding (lineOf s.ticket e) then
    match a with
    | .ready => lineReady e s
    | .busy | .noPaper | .fault | .garbled => endQuery e s
  else s

def execStatusAnswer (printer : BridgeEnd) (a : QueryReply) (s : State) :
    Host.Outcome State Fault Refusal :=
  runCommand (statusAnswered printer a) s

/-- No answer within 1 s (R127): R129 for a print message, R130 for a status query. -/
def answerTimedOut (e : BridgeEnd) (s : State) : State :=
  if printOutstanding (lineOf s.ticket e) then printRefused e s
  else if queryOutstanding (lineOf s.ticket e) then endQuery e s
  else s

def execPrinterAnswerTimeout (printer : BridgeEnd) (s : State) :
    Host.Outcome State Fault Refusal :=
  runCommand (answerTimedOut printer) s

/-- The retry interval has run out: the head job is sent again (R129). -/
def resendHead (l : PrinterLine) : PrinterLine :=
  if l.state = .retryWait then
    { l with state := .sending, waitLeft := 0, answerLeft := some answerTime }
  else l

def execRetryWaitExpired (printer : BridgeEnd) (s : State) : Host.Outcome State Fault Refusal :=
  runCommand (fun s => s.setTicket (setLine printer resendHead)) s

/-- A status query is sent; the next follows one retry interval later (R130). -/
def sendQuery (interval : Nat) (l : PrinterLine) : PrinterLine :=
  if l.state = .offline ∧ l.answerLeft.isNone then
    { l with answerLeft := some answerTime, waitLeft := interval * 1000 }
  else l

def execOfflineQueryDue (printer : BridgeEnd) (s : State) : Host.Outcome State Fault Refusal :=
  runCommand (fun s => s.setTicket fun u => setLine printer (sendQuery u.interval) u) s

end Sys2Proof.Machine
end

