-- ==== Sys2Proof/Machine/VisitCommands.lean ====
section
/-!
DEFINITION. Requests to the visit table unit (chapter 6).
-/

namespace Sys2Proof.Machine

/-! ### OPEN_VISIT (R103) -/

/-- A class code other than 0 names no entry (R103, R106). -/
def classMissing (s : State) (code : Nat) : Bool := code ≠ 0 ∧ (classAt s.check code).isNone

/-- The new visit's record. -/
def newVisit (n : Nat) (plate : Text) (kind : VisitKind) (cls : Nat) (commodity : Byte)
    (grade : Text) (t : Stamp) : Visit where
  number := n
  plate := plate
  kind := kind
  cls := classOf cls
  commodity := commodity
  grade := grade
  state := .opened
  first := none
  second := none
  net := none
  summary := none
  held := none
  w1 := false
  w2 := false
  revision := 0
  openedAt := t

/-- The table has room, or makes it by an eviction; none when it is full (R103, R104). -/
def visitRoom (s : State) : Option (Option Nat) :=
  if s.visit.visits.length < 64 then some none
  else (evictionChoice (capturingVisit s.order) s.visit).map fun v => some v.number

/-- An evicted visit leaves as if removed, and is reported (R104, R108). -/
def evict (n : Option Nat) (s : State) : State :=
  match n with
  | none => s
  | some n => reportGone n (s.setVisit (make (.removed n)))

/-- The visit enters last in opening order with the next number (R102, R103). -/
def ownOpenVisit (plate : Text) (kind : Choice VisitKind) (cls : Nat) (commodity : Byte)
    (grade : Text) (s : State) : State × Response :=
  match kind with
  | none => refuse s .badField
  | some k =>
    if !(plateOk plate && cls ≤ 32 && gradeOk grade) then refuse s .badField
    else if classMissing s cls then refuse s .notFound
    else if plateHeld s.visit 0 plate then refuse s .duplicate
    else
      match visitRoom s with
      | none => refuse s .full
      | some e =>
        let s1 := evict e s
        let v := newVisit (nextVisitNumber s1.visit) plate k cls commodity grade s.now
        accept (s1.setVisit (make (.opened v))) (.visitOpened v.number 0 e)

def execOpenVisit (h : Header) (plate : Text) (kind : Choice VisitKind) (cls : Nat)
    (commodity : Byte) (grade : Text) (s : State) : Host.Outcome State Fault Refusal :=
  request (withTexts h [plate, grade]) .openVisit
    (ownOpenVisit plate kind cls commodity grade) s

/-! ### AMEND_VISIT (R106) -/

/-- At least one field is carried, and each is within its range. -/
def amendmentOk (a : Amendment) : Bool :=
  (a.plate.isSome || a.commodity.isSome || a.grade.isSome || a.cls.isSome) &&
    a.plate.all plateOk && a.grade.all gradeOk && a.cls.all (· ≤ 32)

/-- The visit is that of an active order in CAPTURING (R106). -/
def isCapturing (s : State) (visit : Nat) : Bool :=
  match s.order.active with
  | some a => a.state = .capturing ∧ a.order.visit = visit
  | none => false

def isOpenState (v : Visit) : Bool := v.state = .opened ∨ v.state = .firstDone

/-- The rows of R106 after STALE. -/
def amendRefusal (s : State) (v : Visit) (a : Amendment) : Option Status :=
  if isCapturing s v.number then some .busy
  else if !isOpenState v ∨ (a.cls.isSome ∧ v.state ≠ .opened) then some .wrongState
  else if a.cls.any (classMissing s) then some .notFound
  else if a.plate.any (plateHeld s.visit v.number) then some .duplicate
  else none

def ownAmendVisit (visit : Nat) (revision : BitVec 16) (a : Amendment) (s : State) :
    State × Response :=
  if !amendmentOk a then refuse s .badField
  else
    match findVisit s.visit visit with
    | none => refuse s .notFound
    | some v =>
      if v.revision ≠ revision then refuse s .stale (.revision v.revision)
      else
        match amendRefusal s v a with
        | some c => refuse s c
        | none =>
          accept (reportAmended visit (s.setVisit (make (.amended visit a))))
            (.revision (v.revision + 1))

def execAmendVisit (h : Header) (visit : Nat) (revision : BitVec 16) (plate : Option Text)
    (commodity : Option Byte) (grade : Option Text) (cls : Option Nat) (s : State) :
    Host.Outcome State Fault Refusal :=
  request (withTexts h (plate.toList ++ grade.toList)) .amendVisit
    (ownAmendVisit visit revision ⟨plate, commodity, grade, cls⟩) s

/-! ### VOID_VISIT, REMOVE_VISIT (R107) -/

def ownVoidVisit (visit : Nat) (revision : BitVec 16) (s : State) : State × Response :=
  match findVisit s.visit visit with
  | none => refuse s .notFound
  | some v =>
    if v.revision ≠ revision then refuse s .stale (.revision v.revision)
    else if isCapturing s visit then refuse s .busy
    else if !isOpenState v ∨ v.held.isSome then refuse s .wrongState
    else
      accept
        (reportGone visit (s.setVisit (make (.voided visit))))
        (.revision (v.revision + 1))

def execVoidVisit (h : Header) (visit : Nat) (revision : BitVec 16) (s : State) :
    Host.Outcome State Fault Refusal :=
  request h .voidVisit (ownVoidVisit visit revision) s

def ownRemoveVisit (visit : Nat) (s : State) : State × Response :=
  match findVisit s.visit visit with
  | none => refuse s .notFound
  | some v =>
    if isCapturing s visit then refuse s .busy
    else if isOpenState v ∨ v.held.isSome then refuse s .wrongState
    else accept (reportGone visit (s.setVisit (make (.removed visit))))

def execRemoveVisit (h : Header) (visit : Nat) (s : State) : Host.Outcome State Fault Refusal :=
  request h .removeVisit (ownRemoveVisit visit) s

/-! ### READ_VISIT, LIST_VISITS (R109) -/

def readVisitReply (visit : Nat) (part : Choice VisitPart) (s : State) : Response :=
  match part, findVisit s.visit visit with
  | none, _ => refusal .badField
  | some _, none => refusal .notFound
  | some .record, some v =>
    accepted (.visitRecord { v with summary := none, held := none } v.held.isSome)
  | some .summary, some v => accepted (.visitSummary v.number v.state v.revision v.summary)
  | some .held, some v => accepted (.visitHeld v.number v.state v.revision v.held)

def execReadVisit (h : Header) (visit : Nat) (part : Choice VisitPart) (s : State) :
    Host.Outcome State Fault Refusal :=
  request h .readVisit (readOnly (readVisitReply visit part)) s

/-- The elements that pass a filter with their positions, from a start position onward. -/
def passing {α : Type} (keep : α → Bool) (start : Nat) (l : List α) : List (α × Nat) :=
  l.zipIdx.filter fun x => start ≤ x.2 && keep x.1

/-- Lines of one reply: up to `n`, and the position from which to continue. -/
def page {α : Type} (n : Nat) (l : List (α × Nat)) : List α × Option Nat :=
  ((l.take n).map (·.1), (l.drop n).head?.map (·.2))

def visitLine (v : Visit) : VisitLine :=
  ⟨v.number, v.plate, v.kind, v.state, v.revision, v.held.isSome⟩

def keepVisit (f : VisitFilter) (v : Visit) : Bool :=
  match f with
  | .any => true
  | .only st => v.state = st

def listVisitsReply (filter : Choice VisitFilter) (start : Nat) (s : State) : Response :=
  match filter with
  | none => refusal .badField
  | some f =>
    let p := page 8 (passing (keepVisit f) start s.visit.visits)
    accepted (.visitLines (p.1.map visitLine) p.2)

def execListVisits (h : Header) (filter : Choice VisitFilter) (start : Nat) (s : State) :
    Host.Outcome State Fault Refusal :=
  request h .listVisits (readOnly (listVisitsReply filter start)) s

/-! ### Stored tares (R115, R116) -/

def ownStoreTare (visit : Nat) (s : State) : State × Response :=
  match findVisit s.visit visit with
  | none => refuse s .notFound
  | some v =>
    match capturedTare v with
    | none => refuse s .wrongState
    | some w =>
      if v.state = .void ∨ w.ticket.isNone ∨ w.notForTrade then refuse s .wrongState
      else
        accept (s.setVisit (make (tareWrite s.visit v.plate w.mass w.time.day)))
          (.tareReplaced (tareReplaced s.visit v.plate))

def execStoreTare (h : Header) (visit : Nat) (s : State) : Host.Outcome State Fault Refusal :=
  request h .storeTare (ownStoreTare visit) s

def ownDeleteTare (plate : Text) (s : State) : State × Response :=
  if (findTare s.visit plate).isNone then refuse s .notFound
  else accept (s.setVisit (make (.tareDeleted plate)))

def execDeleteTare (h : Header) (plate : Text) (s : State) : Host.Outcome State Fault Refusal :=
  request (withTexts h [plate]) .deleteTare (ownDeleteTare plate) s

def tareLine (s : State) (e : TareEntry) : TareEntry × TareValidity :=
  (e, tareValidity s.visit s.clock.day e)

/-- R116. Model's choice (notes/assumptions/22.md): the first entry in writing order stands at position 0,
as R109 says of LIST_VISITS. -/
def readTaresReply (sel : TareSelect) (s : State) : Response :=
  match sel with
  | .plate p =>
    match findTare s.visit p with
    | some e => accepted (.tareLine e (tareValidity s.visit s.clock.day e))
    | none => refusal .notFound
  | .start n =>
    let p := page 8 (passing (fun _ => true) n s.visit.tares)
    accepted (.tareLines (p.1.map (tareLine s)) p.2)

/-- The text field a selection carries. -/
def selectTexts : TareSelect → List Text
  | .plate p => [p]
  | .start _ => []

def execReadTares (h : Header) (sel : TareSelect) (s : State) : Host.Outcome State Fault Refusal :=
  request (withTexts h (selectTexts sel)) .readTares (readOnly (readTaresReply sel)) s

def ownSetTareRules (validity uses : Nat) (s : State) : State × Response :=
  let v := clamp 1 365 validity
  let n := clamp 1 255 uses
  accept (s.setVisit (make (.rulesSet v n))) (.taken [v, n])

def execSetTareRules (h : Header) (validity uses : Nat) (s : State) :
    Host.Outcome State Fault Refusal :=
  request h .setTareRules (ownSetTareRules validity uses) s

end Sys2Proof.Machine
end

