-- ==== Sys2Proof/Machine/WatchCommands.lean ====
section
/-!
DEFINITION. Requests to the watch unit (chapter 8).
-/

namespace Sys2Proof.Machine

/-! ### READ_WATCH (R147) -/

def readWatchReply (s : State) : Response :=
  let w := s.watch
  accepted (.watch w.w1 w.w2 w.mode w.flag1 w.flag2 w.matchNumber w.armed)

def execReadWatch (h : Header) (s : State) : Host.Outcome State Fault Refusal :=
  request h .readWatch (readOnly readWatchReply) s

/-! ### SET_WATCH (R136, R137) -/

/-- The greatest value and band, kg. -/
def watchLimit : Nat := 200000

/-- A class filter is ANY or a code 1..32. -/
def filterOk (c : Option Nat) : Bool := c.all fun n => 1 ≤ n ∧ n ≤ 32

/-- The configuration a body describes, its value and band clamped; none when a field names no
choice. -/
def configOf (b : WatchBody) : Option WatchConfig :=
  match b.field, b.test, b.kind, b.action with
  | some f, some t, some k, some a =>
    if filterOk b.cls then
      some ⟨b.enabled, f, t, clamp 0 watchLimit b.value, clamp 0 watchLimit b.band, b.commodity,
        b.cls, k, a⟩
    else none
  | _, _, _, _ => none

def setChannel (c : WatchChannel) (w : WatchConfig) (u : WatchUnit) : WatchUnit :=
  match c with
  | .w1 => { u with w1 := w }
  | .w2 => { u with w2 := w }

def ownSetWatch (target : Choice WatchTarget) (s : State) : State × Response :=
  match target with
  | none => refuse s .badField
  | some (.channel c b) =>
    match configOf b with
    | none => refuse s .badField
    | some w => accept (s.setWatch (setChannel c w)) (.watchTaken w)
  | some (.mode none) => refuse s .badField
  | some (.mode (some m)) => accept (s.setWatch fun u => { u with mode := m, armed := [] })

def execSetWatch (h : Header) (target : Choice WatchTarget) (s : State) :
    Host.Outcome State Fault Refusal :=
  request h .setWatch (ownSetWatch target) s

/-! ### CLEAR_WATCH_FLAGS (R143) -/

def flagOf (u : WatchUnit) : WatchChannel → Option MatchDetail
  | .w1 => u.flag1
  | .w2 => u.flag2

/-- A set flag whose mark equals the mark carried is cleared (R143). Model's choice
(notes/assumptions/66.md): its match mark and its match detail go with it. -/
def clearFlag (u : WatchUnit) (x : WatchChannel × BitVec 16) : WatchUnit :=
  if (flagOf u x.1).any fun d => d.mark = x.2 then
    match x.1 with
    | .w1 => { u with flag1 := none }
    | .w2 => { u with flag2 := none }
  else u

/-- A set flag whose mark differs is listed as inhibited with its current mark. Model's choice
(notes/assumptions/72.md): the flags stand in the order of the request's list. -/
def inhibitedFlags (list : List (WatchChannel × BitVec 16)) (u : WatchUnit) :
    List (WatchChannel × BitVec 16) :=
  list.filterMap fun x =>
    match flagOf u x.1 with
    | some d => if d.mark = x.2 then none else some (x.1, d.mark)
    | none => none

/-- The flags listed, none when a code names no flag. -/
def flagsListed (list : List (Choice WatchChannel × BitVec 16)) :
    Option (List (WatchChannel × BitVec 16)) :=
  list.mapM fun x => x.1.map fun c => (c, x.2)

def ownClearWatchFlags (list : List (Choice WatchChannel × BitVec 16)) (s : State) :
    State × Response :=
  match flagsListed list with
  | none => refuse s .badField
  | some l =>
    if noRepeats (l.map (·.1)) then
      accept (s.setWatch fun u => l.foldl clearFlag u) (.inhibitedFlags (inhibitedFlags l s.watch))
    else refuse s .badField

def execClearWatchFlags (h : Header) (list : List (Choice WatchChannel × BitVec 16)) (s : State) :
    Host.Outcome State Fault Refusal :=
  request h .clearWatchFlags (ownClearWatchFlags list) s

/-! ### RELEASE_HOLD (R145), REJECT_HOLD (R146) -/

def ownReleaseHold (visit : Nat) (s : State) : State × Response :=
  match findVisit s.visit visit with
  | none => refuse s .notFound
  | some v =>
    match v.held with
    | none => refuse s .wrongState
    | some x =>
      let (n, s1) := releaseHeld v x s
      accept ((orderReleased visit n s1).raise (.holdReleased visit n)) (.ticketNumber n)

def execReleaseHold (h : Header) (visit : Nat) (s : State) : Host.Outcome State Fault Refusal :=
  request h .releaseHold (ownReleaseHold visit) s

def ownRejectHold (visit : Nat) (s : State) : State × Response :=
  match findVisit s.visit visit with
  | none => refuse s .notFound
  | some v =>
    if v.held.isNone then refuse s .wrongState
    else
      let s1 := s.setVisit (putVisit (rejectVisit v))
      accept ((orderRejected visit s1).raise (.holdRejected visit))

def execRejectHold (h : Header) (visit : Nat) (s : State) : Host.Outcome State Fault Refusal :=
  request h .rejectHold (ownRejectHold visit) s

end Sys2Proof.Machine
end

