-- ==== Sys2Proof/Machine/Dispatch.lean ====
section
/-!
DEFINITION. One arm per command: each calls the command's own meaning.
-/

namespace Sys2Proof.Machine

/-- The effect of a command on everything but the queue. -/
def exec (i : Instr) (s : State) : Host.Outcome State Fault Refusal :=
  match i with
  | .readEvents h => Sys2Proof.Machine.execReadEvents h s
  | .clearEvents h list => Sys2Proof.Machine.execClearEvents h list s
  | .setEventMask h mask => Sys2Proof.Machine.execSetEventMask h mask s
  | .readFault h port => Sys2Proof.Machine.execReadFault h port s
  | .clearFault h => Sys2Proof.Machine.execClearFault h s
  | .resetPort h => Sys2Proof.Machine.execResetPort h s
  | .readPort h port => Sys2Proof.Machine.execReadPort h port s
  | .setPortRate h port code => Sys2Proof.Machine.execSetPortRate h port code s
  | .unknownRequest h code => Sys2Proof.Machine.execUnknownRequest h code s
  | .readCells h deck => Sys2Proof.Machine.execReadCells h deck s
  | .readDecks h deck => Sys2Proof.Machine.execReadDecks h deck s
  | .clearDeckHistory h deck list => Sys2Proof.Machine.execClearDeckHistory h deck list s
  | .zero h deck => Sys2Proof.Machine.execZero h deck s
  | .readAxles h => Sys2Proof.Machine.execReadAxles h s
  | .setBeamFilter h ms => Sys2Proof.Machine.execSetBeamFilter h ms s
  | .stageOrder h visit kind storeTare auto cls => Sys2Proof.Machine.execStageOrder h visit kind storeTare auto cls s
  | .cancelOrder h visit => Sys2Proof.Machine.execCancelOrder h visit s
  | .capture h => Sys2Proof.Machine.execCapture h s
  | .finishSurvey h => Sys2Proof.Machine.execFinishSurvey h s
  | .readOrders h => Sys2Proof.Machine.execReadOrders h s
  | .setCapture h window delay => Sys2Proof.Machine.execSetCapture h window delay s
  | .readClass h code => Sys2Proof.Machine.execReadClass h code s
  | .setClass h code body => Sys2Proof.Machine.execSetClass h code body s
  | .deleteClass h code => Sys2Proof.Machine.execDeleteClass h code s
  | .readGroups h => Sys2Proof.Machine.execReadGroups h s
  | .setAxleCheck h axleTol consTol => Sys2Proof.Machine.execSetAxleCheck h axleTol consTol s
  | .openVisit h plate kind cls commodity grade => Sys2Proof.Machine.execOpenVisit h plate kind cls commodity grade s
  | .amendVisit h visit revision plate commodity grade cls => Sys2Proof.Machine.execAmendVisit h visit revision plate commodity grade cls s
  | .voidVisit h visit revision => Sys2Proof.Machine.execVoidVisit h visit revision s
  | .removeVisit h visit => Sys2Proof.Machine.execRemoveVisit h visit s
  | .readVisit h visit part => Sys2Proof.Machine.execReadVisit h visit part s
  | .listVisits h filter start => Sys2Proof.Machine.execListVisits h filter start s
  | .storeTare h visit => Sys2Proof.Machine.execStoreTare h visit s
  | .deleteTare h plate => Sys2Proof.Machine.execDeleteTare h plate s
  | .readTares h sel => Sys2Proof.Machine.execReadTares h sel s
  | .setTareRules h validity uses => Sys2Proof.Machine.execSetTareRules h validity uses s
  | .readTicket h number => Sys2Proof.Machine.execReadTicket h number s
  | .reprint h number printer => Sys2Proof.Machine.execReprint h number printer s
  | .readPrinters h => Sys2Proof.Machine.execReadPrinters h s
  | .setPrinting h copy interval limit => Sys2Proof.Machine.execSetPrinting h copy interval limit s
  | .readWatch h => Sys2Proof.Machine.execReadWatch h s
  | .setWatch h target => Sys2Proof.Machine.execSetWatch h target s
  | .clearWatchFlags h list => Sys2Proof.Machine.execClearWatchFlags h list s
  | .releaseHold h visit => Sys2Proof.Machine.execReleaseHold h visit s
  | .rejectHold h visit => Sys2Proof.Machine.execRejectHold h visit s
  | .readMetrology h deck => Sys2Proof.Machine.execReadMetrology h deck s
  | .readSession h => Sys2Proof.Machine.execReadSession h s
  | .openSession h => Sys2Proof.Machine.execOpenSession h s
  | .closeSession h => Sys2Proof.Machine.execCloseSession h s
  | .setLegal h writes => Sys2Proof.Machine.execSetLegal h writes s
  | .setCellFactor h channel k z => Sys2Proof.Machine.execSetCellFactor h channel k z s
  | .testZero h deck => Sys2Proof.Machine.execTestZero h deck s
  | .testLoad h deck ref position => Sys2Proof.Machine.execTestLoad h deck ref position s
  | .adjustZero h deck => Sys2Proof.Machine.execAdjustZero h deck s
  | .adjustSpan h deck ref => Sys2Proof.Machine.execAdjustSpan h deck ref s
  | .recordShuntRef h deck => Sys2Proof.Machine.execRecordShuntRef h deck s
  | .certifyDeck h deck => Sys2Proof.Machine.execCertifyDeck h deck s
  | .setShuntMode h deck mode period => Sys2Proof.Machine.execSetShuntMode h deck mode period s
  | .readLog h start => Sys2Proof.Machine.execReadLog h start s
  | .releaseLog h seq lost rejected => Sys2Proof.Machine.execReleaseLog h seq lost rejected s
  | .readClock h => Sys2Proof.Machine.execReadClock h s
  | .setClock h day sec => Sys2Proof.Machine.execSetClock h day sec s
  | .frameDiscarded port cause => Sys2Proof.Machine.execFrameDiscarded port cause s
  | .byteGapTimeout port => Sys2Proof.Machine.execByteGapTimeout port s
  | .replySent port => Sys2Proof.Machine.execReplySent port s
  | .lineBreak port => Sys2Proof.Machine.execLineBreak port s
  | .deckSample deck conv => Sys2Proof.Machine.execDeckSample deck conv s
  | .zeroDeadlineExpired deck conv => Sys2Proof.Machine.execZeroDeadlineExpired deck conv s
  | .zeroTrackingMove deck conv => Sys2Proof.Machine.execZeroTrackingMove deck conv s
  | .autoCaptureStart conv => Sys2Proof.Machine.execAutoCaptureStart conv s
  | .captureWindowEnd deck conv => Sys2Proof.Machine.execCaptureWindowEnd deck conv s
  | .beamRawChange boundary raw => Sys2Proof.Machine.execBeamRawChange boundary raw s
  | .filterTimeExpired boundary => Sys2Proof.Machine.execFilterTimeExpired boundary s
  | .stuckBeam boundary beam => Sys2Proof.Machine.execStuckBeam boundary beam s
  | .printAnswer printer answer => Sys2Proof.Machine.execPrintAnswer printer answer s
  | .printerAnswerTimeout printer => Sys2Proof.Machine.execPrinterAnswerTimeout printer s
  | .retryWaitExpired printer => Sys2Proof.Machine.execRetryWaitExpired printer s
  | .offlineQueryDue printer => Sys2Proof.Machine.execOfflineQueryDue printer s
  | .statusAnswer printer answer => Sys2Proof.Machine.execStatusAnswer printer answer s
  | .switchChange level => Sys2Proof.Machine.execSwitchChange level s
  | .sessionExpiry => Sys2Proof.Machine.execSessionExpiry s
  | .testCaptureEnd deck conv => Sys2Proof.Machine.execTestCaptureEnd deck conv s
  | .adjustZeroEnd deck conv => Sys2Proof.Machine.execAdjustZeroEnd deck conv s
  | .adjustSpanEnd deck conv => Sys2Proof.Machine.execAdjustSpanEnd deck conv s
  | .shuntPhaseEnd deck conv => Sys2Proof.Machine.execShuntPhaseEnd deck conv s
  | .dayRollover => Sys2Proof.Machine.execDayRollover s
  | .resetAsserted powerLost => Sys2Proof.Machine.execResetAsserted powerLost s
  | .restart batteryFailed run => Sys2Proof.Machine.execRestart batteryFailed run s
  | .frameSyncReceived port => Sys2Proof.Machine.execFrameSyncReceived port s

end Sys2Proof.Machine
end

