-- ==== Sys2Proof/Machine/Ticking.lean ====
section
/-!
DEFINITION. One millisecond of time, which is what a step does when no command waits
(notes/assumptions/3.md): the clock runs, the times that have run out give their commands.
-/

namespace Sys2Proof.Machine

/-- The clock one millisecond on; true when it passes 86399 s (R188), which the rollover then
carries out. No rollover of a replaced time waits any more: the queue is empty (R189). -/
def tickClock (c : Clock) : Clock × Bool :=
  let d := { c with replaced := false }
  if c.ms + 1 < 1000 then ({ d with ms := c.ms + 1 }, false)
  else if c.sec < 86399 then ({ d with ms := 0, sec := c.sec + 1 }, false)
  else ({ d with ms := 0 }, true)

/-- The blocked time's limit, ms (R46). -/
def blockedLimit : Nat := 120000

/-- A pair in use one millisecond on: its persistence time and its blocked times. -/
def tickPair (p : Pair) : Pair :=
  { p with
    persist := p.persist.map (· + 1)
    blockedU := if (p.decoder.any fun st => beamBlocked st .u) then satInc blockedLimit p.blockedU
      else p.blockedU
    blockedD := if (p.decoder.any fun st => beamBlocked st .d) then satInc blockedLimit p.blockedD
      else p.blockedD }

/-- The commands that a pair's times give: `p` before the millisecond. -/
def pairDue (filter : Nat) (j : Boundary) (p : Pair) : List Instr :=
  (if p.persist.any fun t => filter ≤ t + 1 then [.filterTimeExpired j] else []) ++
  (if (p.decoder.any fun st => beamBlocked st .u) ∧ blockedLimit ≤ p.blockedU ∧ !p.stuckU then
    [.stuckBeam j .u] else []) ++
  (if (p.decoder.any fun st => beamBlocked st .d) ∧ blockedLimit ≤ p.blockedD ∧ !p.stuckD then
    [.stuckBeam j .d] else [])

/-- A line waits in RETRY_WAIT or OFFLINE (R129, R130). -/
def isWaiting (l : PrinterLine) : Bool := l.state = .retryWait ∨ l.state = .offline

def tickLine (l : PrinterLine) : PrinterLine :=
  { l with
    answerLeft := l.answerLeft.map (· - 1)
    waitLeft := if isWaiting l then l.waitLeft - 1 else l.waitLeft }

/-- The commands that a printer line's times give: `l` before the millisecond. -/
def lineDue (e : BridgeEnd) (l : PrinterLine) : List Instr :=
  (if l.answerLeft = some 1 then [.printerAnswerTimeout e] else []) ++
  (if l.waitLeft = 1 ∧ l.state = .retryWait then [.retryWaitExpired e] else []) ++
  (if l.waitLeft = 1 ∧ l.state = .offline then [.offlineQueryDue e] else [])

/-- The activity time of an open session (R158). -/
def tickSession (r : Session) : Session :=
  if r.isOpen then { r with activity := r.activity - 1 } else r

def sessionDue (m : Metrology) : List Instr :=
  if m.session.any fun r => r.isOpen && r.activity = 1 then [.sessionExpiry] else []

/-- The commands whose time has run with this millisecond. Model's choice (notes/assumptions/49.md):
times that run out in one millisecond are taken in the order of the list, the pairs' persistence times
in boundary order (R52). -/
def dueCommands (s : State) : List Instr :=
  (pairsInUse s.legal).flatMap (fun j => pairDue s.axle.filter j s.axle.pairs[j]) ++
    lineDue .a s.ticket.lineA ++ lineDue .b s.ticket.lineB ++ sessionDue s.metro

/-- The times one millisecond on. -/
def runTimes (s : State) : State :=
  let s1 := s.setAxle fun a =>
    { a with
      pairs := vgen fun j => if pairInUse s.legal j then tickPair a.pairs[j] else a.pairs[j] }
  let s2 := s1.setTicket fun u => { u with lineA := tickLine u.lineA, lineB := tickLine u.lineB }
  s2.setMetro fun m => { m with session := m.session.map tickSession }

/-- One millisecond. While the reset is held only the clock runs (R183, R188). -/
def tick (s : State) : State :=
  let c := tickClock s.clock
  let running : Bool := s.power = .running
  let s1 := if running then runTimes s else s
  let due := (if running then dueCommands s else []) ++ (if c.2 then [.dayRollover] else [])
  { s1 with clock := c.1, pending := s.pending ++ due }

end Sys2Proof.Machine
end

