-- ==== Sys2Proof/Safety.lean ====
section
/-!
DEFINITION. The terms that claims are stated in: when a request is taken and what taking and answering
it touches; samples that leave a deck at rest, and the W a sample gives; the ends of a capture window and of a
pass, and the print jobs they queue; the pins; and the invariants of the retained and volatile tables.
-/

namespace Sys2Proof.Machine

/-! ### Requests -/

/-- The request of a command of section 10.3, with its header; UNKNOWN_REQUEST and the events are
none. -/
def requestOf : Instr → Option (Header × ReqKind)
  | .readEvents h => some (h, .readEvents)
  | .clearEvents h _ => some (h, .clearEvents)
  | .setEventMask h _ => some (h, .setEventMask)
  | .readFault h _ => some (h, .readFault)
  | .clearFault h => some (h, .clearFault)
  | .resetPort h => some (h, .resetPort)
  | .readPort h _ => some (h, .readPort)
  | .setPortRate h _ _ => some (h, .setPortRate)
  | .unknownRequest _ _ => none
  | .readCells h _ => some (h, .readCells)
  | .readDecks h _ => some (h, .readDecks)
  | .clearDeckHistory h _ _ => some (h, .clearDeckHistory)
  | .zero h _ => some (h, .zero)
  | .readAxles h => some (h, .readAxles)
  | .setBeamFilter h _ => some (h, .setBeamFilter)
  | .stageOrder h _ _ _ _ _ => some (h, .stageOrder)
  | .cancelOrder h _ => some (h, .cancelOrder)
  | .capture h => some (h, .capture)
  | .finishSurvey h => some (h, .finishSurvey)
  | .readOrders h => some (h, .readOrders)
  | .setCapture h _ _ => some (h, .setCapture)
  | .readClass h _ => some (h, .readClass)
  | .setClass h _ _ => some (h, .setClass)
  | .deleteClass h _ => some (h, .deleteClass)
  | .readGroups h => some (h, .readGroups)
  | .setAxleCheck h _ _ => some (h, .setAxleCheck)
  | .openVisit h _ _ _ _ _ => some (h, .openVisit)
  | .amendVisit h _ _ _ _ _ _ => some (h, .amendVisit)
  | .voidVisit h _ _ => some (h, .voidVisit)
  | .removeVisit h _ => some (h, .removeVisit)
  | .readVisit h _ _ => some (h, .readVisit)
  | .listVisits h _ _ => some (h, .listVisits)
  | .storeTare h _ => some (h, .storeTare)
  | .deleteTare h _ => some (h, .deleteTare)
  | .readTares h _ => some (h, .readTares)
  | .setTareRules h _ _ => some (h, .setTareRules)
  | .readTicket h _ => some (h, .readTicket)
  | .reprint h _ _ => some (h, .reprint)
  | .readPrinters h => some (h, .readPrinters)
  | .setPrinting h _ _ _ => some (h, .setPrinting)
  | .readWatch h => some (h, .readWatch)
  | .setWatch h _ => some (h, .setWatch)
  | .clearWatchFlags h _ => some (h, .clearWatchFlags)
  | .releaseHold h _ => some (h, .releaseHold)
  | .rejectHold h _ => some (h, .rejectHold)
  | .readMetrology h _ => some (h, .readMetrology)
  | .readSession h => some (h, .readSession)
  | .openSession h => some (h, .openSession)
  | .closeSession h => some (h, .closeSession)
  | .setLegal h _ => some (h, .setLegal)
  | .setCellFactor h _ _ _ => some (h, .setCellFactor)
  | .testZero h _ => some (h, .testZero)
  | .testLoad h _ _ _ => some (h, .testLoad)
  | .adjustZero h _ => some (h, .adjustZero)
  | .adjustSpan h _ _ => some (h, .adjustSpan)
  | .recordShuntRef h _ => some (h, .recordShuntRef)
  | .certifyDeck h _ => some (h, .certifyDeck)
  | .setShuntMode h _ _ _ => some (h, .setShuntMode)
  | .readLog h _ => some (h, .readLog)
  | .releaseLog h _ _ _ => some (h, .releaseLog)
  | .readClock h => some (h, .readClock)
  | .setClock h _ _ => some (h, .setClock)
  | .frameDiscarded _ _ => none
  | .byteGapTimeout _ => none
  | .replySent _ => none
  | .lineBreak _ => none
  | .deckSample _ _ => none
  | .zeroDeadlineExpired _ _ => none
  | .zeroTrackingMove _ _ => none
  | .autoCaptureStart _ => none
  | .captureWindowEnd _ _ => none
  | .beamRawChange _ _ => none
  | .filterTimeExpired _ => none
  | .stuckBeam _ _ => none
  | .printAnswer _ _ => none
  | .printerAnswerTimeout _ => none
  | .retryWaitExpired _ => none
  | .offlineQueryDue _ => none
  | .statusAnswer _ _ => none
  | .switchChange _ => none
  | .sessionExpiry => none
  | .testCaptureEnd _ _ => none
  | .adjustZeroEnd _ _ => none
  | .adjustSpanEnd _ _ => none
  | .shuntPhaseEnd _ _ => none
  | .dayRollover => none
  | .resetAsserted _ => none
  | .restart _ _ => none
  | .frameSyncReceived _ => none

/-- A port takes a frame: the machine runs and the receiver is not ANSWERING, nor reading out a frame
that began while it was (R173, R174). -/
abbrev TakesFrame (p : Port) (s : State) : Prop :=
  s.power = .running ∧ (s.portState p).receiver ≠ .answering ∧ (s.portState p).overrun = false

/-- A request of a kind that every port may send reaches its owner from any port (R173 to R175). -/
abbrev Arrives (h : Header) (s : State) : Prop :=
  TakesFrame h.port s ∧ h.formOk = true

/-- A request that its port takes and the port unit passes to its owner (R173 to R175). -/
abbrev Passes (h : Header) (k : ReqKind) (s : State) : Prop :=
  TakesFrame h.port s ∧ k.permitted h.port = true ∧ h.formOk = true

/-- The state in which the owner of a taken request acts: the receiver is ANSWERING (R173), and a
request of the inspection port has restarted an open session's activity time (R158). The port notes the
visit table unit as the request meets it (R118). -/
def State.received (h : Header) (s : State) : State :=
  touchSession h.port (s.setPort h.port fun p =>
    { p with receiver := .answering, answered := some ⟨s.visit, s.visit.made.length⟩ })

/-- The reply is put on its way, and the pins follow (R176, R78, R179). -/
def State.sent (h : Header) (code : Byte) (st : Status) (r : Result) (s : State) : State :=
  (s.setPort h.port (startReply ⟨h.tag, code, st, r⟩ s.visit)).drive

/-- A refusal is sent, and enters the port's first-fault record (R176, R180). -/
def State.refusedWith (h : Header) (code : Byte) (st : Status) (r : Result) (s : State) : State :=
  (recordRefusal h code st (s.setPort h.port (startReply ⟨h.tag, code, st, r⟩ s.visit))).drive

/-! ### Samples that bring no step about -/

/-- A valid, unshunted sample with raw mass `g` leaves deck `d` settled as it stands: within its band and its
limits (R23 to R26), with no zero to be found, waited for or moved (R36 to R39). -/
structure LeavesAtRest (d : DeckId) (conv : Conversion) (g : Int) (s : State) : Prop where
  running : s.power = .running
  inUse : d.val < deckCount s.legal
  record : recordOf s.legal d s.front[d] conv = .valid g
  unheld : s.decks[d].hold = false
  settled : isSettled s.decks[d].mode = true
  zeroTried : s.decks[d].powerUpSpent = true
  noZeroPending : s.decks[d].pendingZero = none
  noMoveDue : s.decks[d].trackRun < 99
  within : ∃ ref, s.decks[d].reference = some ref ∧
    ((s.legal.window * g - ref).natAbs : Int) ≤
      s.legal.window * (s.legal.stabBand * s.legal.interval * 1000)
  notOver : g - s.decks[d].zeroOffset ≤ (s.legal.maxD[d] + 9 * s.legal.interval) * 1000
  notUnder : -(20 * s.legal.interval * 1000) ≤ g - s.decks[d].zeroOffset

/-- The W that a sample of deck `d` gives: none for an invalid or a shunted one, and none under a shunt hold
(R19, R30). -/
def sampleW (d : DeckId) (conv : Conversion) (s : State) : Option Int :=
  match recordOf s.legal d s.front[d] conv with
  | .valid g => if s.decks[d].hold then none else some (g - s.decks[d].zeroOffset)
  | .invalid | .shunted => none

/-- A category's cell of an event set with one event more, raised in `s` with the cause `x` (R177). -/
def withEvent (x : Cause) (s : State) (e : EventCell) : EventCell :=
  ⟨min 255 (e.count + 1), some (x, ⟨s.clock.day, s.clock.sec⟩)⟩

/-! ### The end of a capture window (R70) -/

/-- A valid, unshunted sample of deck `d` with raw mass `g` is the last that the capture `e` of the active
order `a` lacks, under a VALID map, with no session operation and no measurement about. -/
structure EndsWindow (d : DeckId) (conv : Conversion) (g : Int) (e : OrderCapture) (a : ActiveOrder)
    (s : State) : Prop where
  running : s.power = .running
  inUse : d.val < deckCount s.legal
  record : recordOf s.legal d s.front[d] conv = .valid g
  unheld : s.decks[d].hold = false
  engine : s.order.engine = some e
  last : e.counts[d] + 1 = e.window
  others : ∀ b : DeckId, b ≠ d → b.val < deckCount s.legal → e.window ≤ e.counts[b]
  active : s.order.active = some a
  capturing : a.state = .capturing
  noOperation : s.operation = none
  noRun : s.metro.decks[d].run = none
  mapValid : s.axle.map.valid = true

/-- The order is given back the state its capture started from. On a sample of deck 1 with a delay of at
most 1, an order with its auto flag may be captured anew (R67, notes/assumptions/16.md). -/
def GivenBack (d : DeckId) (e : OrderCapture) (a : ActiveOrder) (s t : State) : Prop :=
  (t.order.engine = none ∧ t.order.active = some { a with state := e.fromState }) ∨
    (d = 0 ∧ a.order.auto = true ∧ s.order.delay ≤ 1 ∧
      t.order.engine = some ⟨s.order.window, s.axle.map.direction, e.fromState, vrep 4 0, vrep 4 0⟩ ∧
      t.order.active = some { a with state := .capturing })

/-- The captured gross in g of deck `b` when that sample ends the window (R70). -/
def endGross (d : DeckId) (g : Int) (e : OrderCapture) (s : State) (b : DeckId) : Int :=
  roundDiv (if b = d then e.sums[b] + (g - s.decks[d].zeroOffset) else e.sums[b]) e.window

/-- V in g (R70). -/
def endMass (d : DeckId) (g : Int) (e : OrderCapture) (s : State) : Int :=
  (((List.finRange 4).filter fun b => b.val < deckCount s.legal).map (endGross d g e s)).sum

/-- The result lies between the limits of stage 6 and is not refused for verification (R72, R73). -/
abbrev ResultStands (v : Int) (s : State) : Prop :=
  v ≤ (s.legal.capacity + 9 * s.legal.interval) * 1000 ∧ -(20 * s.legal.interval * 1000) ≤ v ∧
    s.metro.switch = .shut ∧
    ∀ b : DeckId, b.val < deckCount s.legal → s.deckStatus b ≠ .unverified

/-- Some deck in use has the status (R73). -/
def someDeck (s : State) (v : VStatus) : Bool :=
  decide (∃ b : DeckId, b.val < deckCount s.legal ∧ s.deckStatus b = v)

/-- The stop of that window end, with I for a whole-vehicle kind (R72, R74). -/
def endStop (d : DeckId) (g : Int) (e : OrderCapture) (whole : Option Int) (s : State) : Stop where
  decks := vgen fun b =>
    if b.val < deckCount s.legal then
      some (roundDiv (endGross d g e s b) (s.legal.interval * 1000) * s.legal.interval,
        axleRange s.axle.map b)
    else none
  whole := whole

/-- The group result table after a stop of the order: a fifth stop is not handed on (R74). -/
def tableAfter (o : Order) (st : Stop) (s : State) : GroupTable :=
  if s.order.stops.length < 4 then
    handleStop ⟨s.check.axleTol, s.check.consTol, s.legal.interval⟩ (orderClass s o) s.order.stops st
      s.check.table
  else s.check.table

/-- The stop list after it. -/
def stopsAfter (st : Stop) (s : State) : List Stop :=
  if s.order.stops.length < 4 then s.order.stops ++ [st] else s.order.stops

/-! ### Print jobs (R126, R128) -/

/-- A line with a job more at the end of its spool; a READY line sends it at once. -/
def lineWith (j : Job) (l : PrinterLine) : PrinterLine :=
  if l.state = .ready then
    { l with spool := l.spool ++ [j], state := .sending, answerLeft := some 1000 }
  else { l with spool := l.spool ++ [j] }

/-- The spool of a printer holds its 8 jobs. -/
def spoolFull (s : State) (e : BridgeEnd) : Bool := 8 ≤ (lineOf s.ticket e).spool.length

/-- The PRINT events of `t` are those of `s` and the causes given, in their order. -/
def PrintReports (causes : List Cause) (s t : State) : Prop :=
  ∀ q : Port, (t.portState q).events[(4 : Fin 9)] =
    match causes.getLast? with
    | none => (s.portState q).events[(4 : Fin 9)]
    | some c => ⟨min 255 ((s.portState q).events[(4 : Fin 9)].count + causes.length),
        some (c, ⟨s.clock.day, s.clock.sec⟩)⟩

/-- A slip is queued on one printer, or discarded with SPOOL_FULL; the other line stands. -/
def SlipQueued (k : SlipKind) (e : BridgeEnd) (content : List PrintField) (s t : State) : Prop :=
  lineOf t.ticket (otherEnd e) = lineOf s.ticket (otherEnd e) ∧
    lineOf t.ticket e = (if spoolFull s e then lineOf s.ticket e
      else lineWith ⟨.slip k, false, content⟩ (lineOf s.ticket e)) ∧
    PrintReports (if spoolFull s e then [.spoolFull e none] else []) s t

/-- An issued ticket is queued on the printer at its exit end and, with the copy setting ON, on the
other: QUEUED with a job of its printed content, or UNPRINTED with SPOOL_FULL; NONE on a printer it is
not queued on. -/
def TicketQueued (k : Ticket) (s t : State) : Prop :=
  let due := fun e : BridgeEnd => decide (e = k.content.exit) || s.ticket.copyOn
  (∀ e : BridgeEnd,
    printStateOf k e =
      (if due e then (if spoolFull s e then .unprinted else .queued) else .none) ∧
    lineOf t.ticket e =
      (if due e && !spoolFull s e then
        lineWith ⟨.ticket k.number, false, ticketFields t.check k none e⟩ (lineOf s.ticket e)
      else lineOf s.ticket e)) ∧
  PrintReports
    (([k.content.exit, otherEnd k.content.exit].filter fun e => due e && spoolFull s e).map
      fun e => .spoolFull e (some k.number)) s t

/-! ### The end of a pass (R53, R65, R88) -/

/-- What the end of a pass does to the active order when no order is staged and no capture is in flight:
WAITING stays with its run at 0; a survey hands on its summary and leaves with DONE; COMPLETE leaves with
DONE, HELD with HELD. The stop list and the group result table are emptied. -/
def PassEnded (s t : State) : Prop :=
  t.order.stops = [] ∧ t.order.crossingSince = false ∧
    t.check = { s.check with table := .empty } ∧
    (s.order.active = none → t.order.active = none ∧ t.visit = s.visit) ∧
    ∀ a, s.order.active = some a →
      let left := fun r : OrderResult => t.order.active = none ∧
        ∀ q, (t.portState q).events[(2 : Fin 9)].latest =
          some (.orderLeft a.order.visit a.order.kind r, ⟨s.clock.day, s.clock.sec⟩)
      (a.state = .waiting → t.order.active = some a ∧ t.order.condRun = 0 ∧ t.visit = s.visit) ∧
      (a.state = .complete → s.order.staged = [] → left .done ∧ t.visit = s.visit) ∧
      (a.state = .held → s.order.staged = [] → left .held ∧ t.visit = s.visit) ∧
      (a.state = .surveying → s.order.staged = [] → left .done ∧
        ∀ m, findVisit t.visit m = if m = a.order.visit then
          (findVisit s.visit m).map fun x =>
            { x with summary := some (summaryOf s.check.table), revision := x.revision + 1 }
          else findVisit s.visit m)

/-! ### Pins -/

/-- Every output pin stands as the state says (R1, R78, R179, R183). -/
abbrev PinsFollow (s : State) : Prop := s.drive = s

/-! ### The axle map (R48) -/

/-- Indices rise by one from the front record's. -/
def indicesFrom (n : Nat) : List Axle → Bool
  | [] => true
  | a :: l => a.index = n && indicesFrom (n + 1) l

/-- Along the list from front to back the decks never move toward the exit end. -/
def decksInOrder (d : Direction) : List Axle → Bool
  | a :: b :: l =>
    (match d with
      | .forward => b.deck ≤ a.deck
      | .reverse => a.deck ≤ b.deck) && decksInOrder d (b :: l)
  | _ => true

/-- The content of the map, VALID or frozen. -/
def mapOk (n : Nat) (m : AxleMap) : Bool :=
  m.list.length ≤ 16 && indicesFrom (m.departed + 1) m.list &&
    m.departed + m.list.length ≤ 255 && (m.list.all fun a => a.deck.val < n) &&
    (match m.direction with
      | some d => decksInOrder d m.list && !m.list.isEmpty
      | none => m.list.isEmpty && m.departed = 0)

/-- R48, with what an open session asks of the map (R56). -/
def MapOk (s : State) : Prop :=
  mapOk (deckCount s.legal) s.axle.map = true ∧
    (s.sessionOpen = true → s.axle.map.valid = false ∧ s.axle.map.list = [])

/-! ### Tickets (R120, R124) -/

/-- Each number is the one after the number before it. -/
def numbersInOrder : List Ticket → Bool
  | a :: b :: l => b.number = nextTicket a.number && numbersInOrder (b :: l)
  | _ => true

/-- The journal holds the last tickets issued, at most 512, in unbroken number order, and the counter
is the number of the last. -/
def JournalOk (s : State) : Prop :=
  s.ticket.journal.length ≤ 512 ∧ numbersInOrder s.ticket.journal = true ∧
    s.ticket.counter ≤ 999999 ∧
    (match s.ticket.journal.getLast? with
      | some t => t.number = s.ticket.counter
      | none => s.ticket.counter = 0)

/-! ### Visits (R101, R111, R112) -/

/-- The visit table: at most 64 visits, numbers distinct and from 1 to 9999, live plates distinct, each
visit sound. -/
def tableOk (u : VisitUnit) : Prop :=
  u.visits.length ≤ 64 ∧ (u.visits.map (·.number)).Nodup ∧
    (∀ v ∈ u.visits, 1 ≤ v.number ∧ v.number ≤ 9999) ∧
    (livePlates u).Nodup ∧ (u.visits.all visitOk) = true

/-- A change names a visit; one of all visits names each (R118). -/
def namesVisit (n : Nat) : VisitChange → Bool
  | .opened v | .recorded v => v.number = n
  | .amended m _ | .voided m | .removed m | .surveyed m _ => m = n
  | .cleared => true
  | .tareWritten _ _ | .tareUsed _ | .tareDeleted _ | .rulesSet _ _ => false

/-- A change names the plate of a stored tare. -/
def namesTare (plate : Text) : VisitChange → Bool
  | .tareWritten e replaced => e.plate = plate || replaced = some plate
  | .tareUsed p | .tareDeleted p => p = plate
  | .cleared => true
  | .opened _ | .amended _ _ | .voided _ | .removed _ | .recorded _ | .surveyed _ _
  | .rulesSet _ _ => false

/-- The visit table is sound, and so is each that a restart may find again (R118). -/
def VisitsOk (s : State) : Prop :=
  tableOk s.visit ∧ ∀ p c, (s.portState p).answered = some c → tableOk c.before

/-! ### The metrology log (R168) -/

/-- At most 256 entries in rising sequence order, each below the next sequence number, which does not
pass its limit. -/
def LogOk (s : State) : Prop :=
  s.metro.log.length ≤ 256 ∧ (s.metro.log.map (·.seq)).Pairwise (· < ·) ∧
    (∀ e ∈ s.metro.log, e.seq < s.metro.nextSeq) ∧ s.metro.nextSeq ≤ 4294967295

/-! ### The calibration counter (R150) -/

/-- The counter does not exceed 65535, nor will it by the adjustment in flight, which has found room for its
four changes (R159); a measurement of RECORD_SHUNT_REF is that of the operation in flight (R167). -/
def CounterOk (s : State) : Prop :=
  s.metro.cal ≤ 65535 ∧
    (∀ o, s.operation = some o → isAdjustment o.kind = true → s.metro.cal + 4 ≤ 65535) ∧
    ∀ (d : DeckId) (r : ShuntRun), s.metro.decks[d].run = some r → r.forReference = true →
      ∃ n, s.operation = some ⟨.recordShuntRef, d, n, none⟩

/-! ### The order queue and the capture engine (R61, R69) -/

/-- The visit numbers in the queue, 0 for the order without a visit. -/
def queueNumbers (u : OrderUnit) : List Nat :=
  (u.active.toList.map fun a => a.order.visit) ++ u.staged.map fun o => o.visit

/-- The queue and the engine agree: a capture in flight is that of an order in CAPTURING which started
from WAITING or SURVEYING, and none is in flight while a session is open. -/
def OrdersOk (s : State) : Prop :=
  s.order.staged.length ≤ 2 ∧ (queueNumbers s.order).Nodup ∧
    (s.order.active = none → s.order.staged = []) ∧
    (match s.order.engine with
      | some e => s.sessionOpen = false ∧ (s.order.active.any fun a => a.state = .capturing) = true ∧
          (e.fromState = .waiting ∨ e.fromState = .surveying)
      | none => (s.order.active.any fun a => a.state = .capturing) = false) ∧
    s.order.stops.length ≤ 4

/-! ### Budgets and status (R9) -/

/-- A deck whose budget is 0 is SUSPECT or UNVERIFIED. -/
def BudgetsOk (s : State) : Prop :=
  ∀ d : DeckId, s.front[d].budget = 0 → s.deckStatus d = .suspect ∨ s.deckStatus d = .unverified

/-! ### A safe run -/

/-- What the rules of the spec ask of every state a run reaches. -/
structure Safe (s : State) : Prop where
  pins : PinsFollow s
  map : MapOk s
  journal : JournalOk s
  visits : VisitsOk s
  log : LogOk s
  counter : CounterOk s
  orders : OrdersOk s
  budgets : BudgetsOk s

end Sys2Proof.Machine
end

