-- ==== Sys2Proof/WellFormed.lean ====
section
/-!
DEFINITION. Well-formed commands: those that the lines, the converters and the clock can send. `exec`
answers for every command; an ill-formed one stands for nothing that can arrive.
-/

namespace Sys2Proof

/-- A list of fields in a request: a body holds at most 248 bytes (R172), and a field at least one. -/
def listFits (n : Nat) : Bool := n ≤ 248

/-- Texts of a request fit in a body together. -/
def textsFit (ts : List Text) : Bool := listFits (ts.map List.length).sum

/-- A raw count is a signed 24-bit number (R3). -/
def rawOk (r : Int) : Bool := -8388608 ≤ r ∧ r ≤ 8388607

/-- Every raw count of a conversion (R3). -/
def conversionOk (c : Conversion) : Bool := c.raw.toList.all rawOk

/-- The name and the groups of a class entry fit in a body together. -/
def bodyFits (b : ClassBody) : Bool := listFits (b.name.length + b.groups.length)

/-- The calibration counter does not exceed 65535 (R150). -/
def legalReadOk (r : Option LegalRead) : Bool := r.all fun x => x.counter ≤ 65535

/-- The checks on each command's operands. -/
def wellFormed : Instr → Bool
  | .readEvents _ => true
  | .clearEvents _ list => listFits list.length
  | .setEventMask _ _ => true
  | .readFault _ _ => true
  | .clearFault _ => true
  | .resetPort _ => true
  | .readPort _ _ => true
  | .setPortRate _ _ _ => true
  | .unknownRequest h code => (Machine.kindOfCode code).isNone || !h.formOk
  | .readCells _ _ => true
  | .readDecks _ _ => true
  | .clearDeckHistory _ _ list => listFits list.length
  | .zero _ _ => true
  | .readAxles _ => true
  | .setBeamFilter _ _ => true
  | .stageOrder _ _ _ _ _ _ => true
  | .cancelOrder _ _ => true
  | .capture _ => true
  | .finishSurvey _ => true
  | .readOrders _ => true
  | .setCapture _ _ _ => true
  | .readClass _ _ => true
  | .setClass _ _ body => bodyFits body
  | .deleteClass _ _ => true
  | .readGroups _ => true
  | .setAxleCheck _ _ _ => true
  | .openVisit _ plate _ _ _ grade => textsFit [plate, grade]
  | .amendVisit _ _ _ plate _ grade _ => textsFit (plate.toList ++ grade.toList)
  | .voidVisit _ _ _ => true
  | .removeVisit _ _ => true
  | .readVisit _ _ _ => true
  | .listVisits _ _ _ => true
  | .storeTare _ _ => true
  | .deleteTare _ plate => textsFit [plate]
  | .readTares _ (.plate p) => textsFit [p]
  | .readTares _ (.start _) => true
  | .setTareRules _ _ _ => true
  | .readTicket _ _ => true
  | .reprint _ _ _ => true
  | .readPrinters _ => true
  | .setPrinting _ _ _ _ => true
  | .readWatch _ => true
  | .setWatch _ _ => true
  | .clearWatchFlags _ list => listFits list.length
  | .releaseHold _ _ => true
  | .rejectHold _ _ => true
  | .readMetrology _ _ => true
  | .readSession _ => true
  | .openSession _ => true
  | .closeSession _ => true
  | .setLegal _ writes => listFits writes.length
  | .setCellFactor _ _ _ _ => true
  | .testZero _ _ => true
  | .testLoad _ _ _ _ => true
  | .adjustZero _ _ => true
  | .adjustSpan _ _ _ => true
  | .recordShuntRef _ _ => true
  | .certifyDeck _ _ => true
  | .setShuntMode _ _ _ _ => true
  | .readLog _ _ => true
  | .releaseLog _ _ _ _ => true
  | .readClock _ => true
  | .setClock _ _ _ => true
  | .frameDiscarded _ _ => true
  | .byteGapTimeout _ => true
  | .replySent _ => true
  | .lineBreak _ => true
  | .deckSample _ conv => conversionOk conv
  | .zeroDeadlineExpired _ conv => conversionOk conv
  | .zeroTrackingMove _ conv => conversionOk conv
  | .autoCaptureStart conv => conversionOk conv
  | .captureWindowEnd _ conv => conversionOk conv
  | .beamRawChange _ _ => true
  | .filterTimeExpired _ => true
  | .stuckBeam _ _ => true
  | .printAnswer _ _ => true
  | .printerAnswerTimeout _ => true
  | .retryWaitExpired _ => true
  | .offlineQueryDue _ => true
  | .statusAnswer _ _ => true
  | .switchChange _ => true
  | .sessionExpiry => true
  | .testCaptureEnd _ conv => conversionOk conv
  | .adjustZeroEnd _ conv => conversionOk conv
  | .adjustSpanEnd _ conv => conversionOk conv
  | .shuntPhaseEnd _ conv => conversionOk conv
  | .dayRollover => true
  | .resetAsserted _ => true
  | .restart _ run => legalReadOk run.asRead
  | .frameSyncReceived _ => true

end Sys2Proof
end

