-- ==== Sys2Proof/Certificates/Slice0/Obligations.lean ====
section
/-!
DEFINITION. The statements put to the provers. A statement on a request gives its whole next state: the
state in which its owner acts (`State.received`), the owner's change to it, and the reply with the pins
(`State.sent`), or the refusal (`State.refusedWith`).
-/

open Sys2Proof Sys2Proof.Machine

/-! ### Steps, reset, requests at large -/

/-- A step carries out the command at the front of the queue on the state with the queue's rest. -/
def Obligations.StepRunsFrontCommand : Prop :=
  ∀ (c : Instr) (rest : List Instr) (s : State), s.pending = c :: rest →
    step s = exec c (s.withPending rest)

/-- The machine right after reset: factory settings, empty tables, decks in SETTLING with a history of
SETTLING at mark 1, the map INVALID, every pair not yet known, RESTART counted in each port's set.
That this state is the one right after the first restart, with RESTART at 1 and the attention lines
asserted, is the model's choice (notes/assumptions/12.md). -/
def Obligations.ResetHoldsTheSpecValues : Prop :=
  let s := State.reset
  (∀ d : DeckId, s.front[d].budget = 32 ∧ s.deckMode d = .settling ∧ s.decks[d].zeroOffset = 0 ∧
      s.decks[d].zeroSet = false ∧ s.decks[d].window = [] ∧
      historyMembers s.decks[d] = [(.settling, 1)] ∧ s.deckStatus d = .unverified ∧
      s.metro.decks[d].lastVerified = none ∧ s.metro.decks[d].shuntMode = .off ∧
      s.metro.decks[d].entryCount = 0 ∧ s.metro.decks[d].run = none ∧
      (∀ i : CellId, s.metro.decks[d].results[i] = none) ∧
      (∀ i : CellId, s.front[d].cells[i].tally = 0 ∧ s.front[d].cells[i].shunt = false ∧
        s.front[d].cells[i].latest = none)) ∧
    s.axle.map = ⟨false, none, [], 0⟩ ∧ s.axle.filter = 8 ∧
    (∀ j : Boundary, s.axle.pairs[j].decoder = none ∧ s.axle.pairs[j].start = .unknown ∧
      s.axle.pairs[j].errors = 0 ∧ s.axle.pairs[j].stuckU = false ∧
      s.axle.pairs[j].stuckD = false) ∧
    s.order.active = none ∧ s.order.staged = [] ∧ s.order.engine = none ∧ s.order.condRun = 0 ∧
    s.order.stops = [] ∧ s.order.crossingSince = false ∧ s.order.laneA = .stop ∧
    s.order.laneB = .stop ∧ s.order.window = 50 ∧ s.order.delay = 100 ∧
    (∀ c, classAt s.check c = none) ∧ s.check.axleTol = 0 ∧ s.check.consTol = 20 ∧
    s.check.table = ⟨none, [], [], none, .notTested, .notTested, false, 0⟩ ∧
    s.visit = ⟨[], 0, [], 90, 30, []⟩ ∧ s.ticket.counter = 0 ∧ s.ticket.journal = [] ∧
    s.ticket.copyOn = false ∧ s.ticket.interval = 2 ∧ s.ticket.limit = 10 ∧
    (∀ e, (lineOf s.ticket e).state = .offline ∧ (lineOf s.ticket e).spool = [] ∧
      (lineOf s.ticket e).retry = 0) ∧
    s.watch.mode = .independent ∧ s.watch.armed = [] ∧ s.watch.flag1 = none ∧
    s.watch.flag2 = none ∧ s.watch.matchNumber = 0 ∧ s.watch.w1.enabled = false ∧
    s.watch.w2.enabled = false ∧ s.metro.legal = factoryLegal ∧ s.metro.cal = 0 ∧
    s.metro.rejected = 0 ∧ s.metro.switch = .shut ∧ s.metro.marker = false ∧
    s.metro.session = none ∧ s.metro.log = [] ∧ s.metro.nextSeq = 1 ∧ s.metro.lost = 0 ∧
    (∀ p, (s.portState p).rate = 1 ∧ (s.portState p).receiver = .hunt ∧
      (s.portState p).discarded = 0 ∧ (s.portState p).mask = vrep 9 false ∧
      (s.portState p).firstFault = none ∧ (s.portState p).attention = true ∧
      ∀ c : Fin 9, (s.portState p).events[c].count = if c = 8 then 1 else 0)

/-- What the rules ask of every reached state holds after reset. -/
def Obligations.ResetIsSafe : Prop :=
  Safe State.reset

/-- Every request that a port takes gets one reply, with its tag and kind code, and the port is
ANSWERING; the reply goes out as tag, kind code and the status byte of its table. -/
def Obligations.EveryRequestTakenIsAnswered : Prop :=
  (∀ (i : Instr) (h : Header) (k : ReqKind) (s : State), requestOf i = some (h, k) →
    TakesFrame h.port s → ∃ t st r, exec i s = .next t ∧
      (t.portState h.port).receiver = .answering ∧
      (t.portState h.port).reply = some ⟨h.tag, k.code, st, r⟩ ∧
      (⟨h.tag, k.code, st, r⟩ : Reply).head = [h.tag, k.code, st.code]) ∧
  ([Status.accepted, .pending, .unknownRequest, .notPermitted, .badField, .busy, .notFound, .stale,
    .full, .duplicate, .wrongState, .notReady, .isProtected, .noSession, .logFull, .openVisits,
    .classInUse, .noValidTare, .vehicleOnBridge, .requirements, .outOfRange,
    .counterEnd].map Status.code =
      [0x00#8, 0x01#8, 0x10#8, 0x11#8, 0x12#8, 0x13#8, 0x14#8, 0x15#8, 0x16#8, 0x17#8, 0x18#8,
        0x19#8, 0x1A#8, 0x1B#8, 0x1C#8, 0x1D#8, 0x1E#8, 0x1F#8, 0x20#8, 0x21#8, 0x22#8, 0x23#8])

/-- A request that its owner refuses changes nothing but the port's receiver and reply, its
first-fault record with the FIRST_FAULT event, and the activity time of an open session. -/
def Obligations.RefusedRequestChangesNoBlock : Prop :=
  ∀ (i : Instr) (h : Header) (k : ReqKind) (s t : State) (st : Status) (r : Result),
    requestOf i = some (h, k) → Passes h k s → exec i s = .next t →
    (t.portState h.port).reply = some ⟨h.tag, k.code, st, r⟩ → isRefusal st = true →
    t = (s.received h).refusedWith h k.code st r

/-- The port unit's own tests: a request not permitted on its port is refused NOT_PERMITTED, and the
metrology unit counts that of a legal change or adjustment; a permitted one whose body has not its
form is refused BAD_FIELD.
A request that arrives while its port is ANSWERING is discarded and counted; while the reset is
held it is lost.
A good frame whose kind code is not in the table is refused UNKNOWN_REQUEST.
That a frame reaches the model whole, and that one is lost while the reset is held, is the model's
choice (notes/assumptions/7.md, notes/assumptions/10.md). -/
def Obligations.RequestTaking : Prop :=
  (∀ (i : Instr) (h : Header) (k : ReqKind) (s : State), requestOf i = some (h, k) →
     TakesFrame h.port s →
     (k.permitted h.port = false →
       exec i s = .next (((s.received h).setMetro fun m =>
         if k = .setLegal ∨ k = .setCellFactor ∨ k = .adjustZero ∨ k = .adjustSpan ∨
             k = .recordShuntRef then
           { m with rejected := satInc 65535 m.rejected }
         else m).refusedWith h k.code .notPermitted .none)) ∧
     (k.permitted h.port = true → h.formOk = false →
       exec i s = .next ((s.received h).refusedWith h k.code .badField .none))) ∧
  (∀ (i : Instr) (h : Header) (k : ReqKind) (s : State), requestOf i = some (h, k) →
     (s.power ≠ .running → exec i s = .next s) ∧
     (s.power = .running → (s.portState h.port).receiver = .answering →
       exec i s = .next (s.setPort h.port fun p =>
         { p with
           discarded := satInc 65535 p.discarded
           overrun := false }).drive)) ∧
  (∀ (h : Header) (code : Byte) (s : State), TakesFrame h.port s → kindOfCode code = none →
     exec (.unknownRequest h code) s =
       .next ((s.received h).refusedWith h code .unknownRequest .none))

/-! ### Reading requests -/

/-- READ_EVENTS, READ_FAULT and READ_PORT return the port's own state and change none.
READ_METROLOGY, READ_SESSION, READ_LOG and READ_CLOCK return their records and change none.
READ_PORT's rate is the one the line runs at, and not a retained one that still waits for a reply's
end: that is the model's reading (notes/assumptions/11.md).
That the activity time is given in seconds rounded up, and that an ended session's stays as it was at
the end, is the model's choice (notes/assumptions/28.md), as is that READ_METROLOGY may name decks 1 to 4
while N lies outside its range (notes/assumptions/64.md). -/
def Obligations.PortAndMetrologyReads : Prop :=
  ((∀ (h : Header) (s : State), Arrives h s →
     exec (.readEvents h) s = .next ((s.received h).sent h 0x01#8 .accepted
       (.events (s.portState h.port).events (s.portState h.port).mask))) ∧
   (∀ (h : Header) (n : Nat) (p : Port) (s : State), Arrives h s →
     (n = 0 ∧ p = h.port ∨ n = (portNumber p).val + 1) →
     exec (.readFault h n) s = .next ((s.received h).sent h 0x04#8 .accepted
       (.fault (s.portState p).firstFault))) ∧
   (∀ (h : Header) (n : Nat) (p : Port) (s : State), Arrives h s →
     (n = 0 ∧ p = h.port ∨ n = (portNumber p).val + 1) →
     exec (.readPort h n) s = .next ((s.received h).sent h 0x07#8 .accepted
       (.port p (s.portState p).lineRate ((s.received h).portState p).receiver
         (s.portState p).discarded (s.portState p).mask
         (decide (∃ c : Fin 9, 0 < (s.portState p).events[c].count ∧ (s.portState p).mask[c] = false))
         (s.portState p).firstFault.isSome))) ∧
   (∀ (h : Header) (n : Nat) (s : State), 3 < n →
     (Arrives h s →
       exec (.readFault h n) s = .next ((s.received h).refusedWith h 0x04#8 .badField .none)) ∧
     (Arrives h s →
       exec (.readPort h n) s = .next ((s.received h).refusedWith h 0x07#8 .badField .none)))) ∧
  ((∀ (h : Header) (s : State), Arrives h s →
     exec (.readMetrology h 0) s = .next ((s.received h).sent h 0x50#8 .accepted
       (.metroBridge s.legal.decks s.legal.interval s.legal.capacity s.legal.window
         s.legal.stabBand s.legal.emptyBand s.legal.period s.legal.threshold s.metro.cal
         s.metro.switch s.sessionOpen))) ∧
   (∀ (h : Header) (d : DeckId) (s : State), Arrives h s → d.val < deckCount s.legal →
     exec (.readMetrology h (d.val + 1)) s = .next ((s.received h).sent h 0x50#8 .accepted
       (.metroDeck
         { maxD := s.legal.maxD[d]
           status := s.deckStatus d
           lastVerified := s.metro.decks[d].lastVerified
           shuntMode := s.metro.decks[d].shuntMode
           entryCount := s.metro.decks[d].entryCount
           checkHeld := s.metro.decks[d].run.any fun r => !r.forReference
           cells := (List.finRange 4).map fun i => (s.legal.zero[d][i], s.legal.factor[d][i],
             s.legal.shuntD[d][i], s.legal.shuntTol[d][i], s.metro.decks[d].results[i]) }))) ∧
   (∀ (h : Header) (n : Nat) (s : State), Arrives h s → deckCount s.legal < n →
     exec (.readMetrology h n) s = .next ((s.received h).refusedWith h 0x50#8 .badField .none)) ∧
   (∀ (h : Header) (s : State), Arrives h s →
     exec (.readSession h) s = .next ((s.received h).sent h 0x51#8 .accepted
       (.session ((s.received h).metro.session.map fun r =>
         (r.isOpen, r.openedAt, (r.activity + 999) / 1000, r.op, r.results))))) ∧
   (∀ (h : Header) (n : Nat) (s : State), Passes h .readLog s →
     exec (.readLog h n) s = .next ((s.received h).sent h 0x5D#8 .accepted
       (.log ((s.metro.log.filter fun e => n ≤ e.seq).take 6) (s.metro.log.head?.map fun e => e.seq)
         (s.metro.log.getLast?.map fun e => e.seq)
         (if s.metro.nextSeq < 4294967295 then
           256 - s.metro.log.length - reservedEntries s.metro else 0)
         (reservedEntries s.metro) s.metro.lost s.metro.rejected))) ∧
   (∀ (h : Header) (s : State), Arrives h s →
     exec (.readClock h) s = .next ((s.received h).sent h 0x60#8 .accepted
       (.clock ⟨s.clock.day, s.clock.sec⟩ s.clock.lost s.clock.restartCause s.clock.restartTime))))

/-- From any port, READ_DECKS returns the state of the deck monitors named, in deck order; gross and zero
offset in kg to the nearest, the last settled state in SETTLING alone, the history with its entry marks.
READ_AXLES returns the map with its per-deck counts, the filter time, and one part for each pair
in use: boundary, decoder state, start beam, error count and stuck marks.
That READ_DECKS gives the present state, with what has changed since a deck's latest sample, is the model's
choice (notes/assumptions/62.md), as is the order of the history's members and of the pairs' parts
(notes/assumptions/72.md). -/
def Obligations.BridgeReadsReturnState : Prop :=
  (∀ (h : Header) (n : Nat) (s : State), Arrives h s →
     let part := fun d : DeckId =>
       (⟨d.val + 1, s.decks[d].mode,
         if s.decks[d].mode = .settling then some s.decks[d].lastSettled else none,
         s.decks[d].gross.map (roundDiv · 1000), s.decks[d].zeroSet,
         roundDiv s.decks[d].zeroOffset 1000, s.decks[d].zeroLimit, s.decks[d].motionCount,
         s.decks[d].hold, s.decks[d].pendingZero.isSome,
         [DeckMode.settling, .empty, .steady, .motion, .noise, .overload, .underload,
           .noSignal].filterMap fun m =>
             (s.decks[d].history[modeNumber m]).map fun e => (m, e)⟩ : DeckPart)
     (n = 0 → exec (.readDecks h n) s = .next ((s.received h).sent h 0x11#8 .accepted
       (.decks (((List.finRange 4).filter fun d => d.val < deckCount s.legal).map part)))) ∧
     (∀ d : DeckId, n = d.val + 1 → d.val < deckCount s.legal →
       exec (.readDecks h n) s = .next ((s.received h).sent h 0x11#8 .accepted (.decks [part d]))) ∧
     (deckCount s.legal < n →
       exec (.readDecks h n) s = .next ((s.received h).refusedWith h 0x11#8 .badField .none))) ∧
  (∀ (h : Header) (s : State), Arrives h s →
     exec (.readAxles h) s = .next ((s.received h).sent h 0x18#8 .accepted
       (.axles s.axle.map
         (((List.finRange 4).filter fun d => d.val < deckCount s.legal).map fun d =>
           (s.axle.map.list.filter fun a => a.deck = d).length)
         s.axle.filter
         (((List.finRange 5).filter fun j => j.val ≤ deckCount s.legal).map fun j =>
           ⟨j.val, s.axle.pairs[j].decoder, s.axle.pairs[j].start, s.axle.pairs[j].errors,
             s.axle.pairs[j].stuckU, s.axle.pairs[j].stuckD⟩))))

/-- READ_ORDERS, from any port, returns the active order, its not-ready cause when it waits, the condition
run, the counts of a capture in flight, the staged orders, the number of stops and both lane signals. -/
def Obligations.ReadOrdersReturnsQueue : Prop :=
  ∀ (h : Header) (s : State), Arrives h s →
    exec (.readOrders h) s = .next ((s.received h).sent h 0x24#8 .accepted
      (.orders
        { active := s.order.active
          notReady := match s.order.active with
            | some a =>
              if a.state = .waiting ∨ a.state = .surveying then firstFailing s a.order else none
            | none => none
          condRun := s.order.condRun
          captureCounts := s.order.engine.map fun e =>
            ((List.finRange 4).filter fun d => d.val < deckCount s.legal).map fun d => e.counts[d]
          staged := s.order.staged
          stops := s.order.stops.length
          laneA := s.order.laneA
          laneB := s.order.laneB }))

/-- READ_CELLS returns one part per deck named, in deck order: budget, threshold, validity, and per
channel its number, latest raw sample and condition, shunt, tally and whether z or k lies outside its
range. That the validity is absent before a deck's first sample is the model's choice
(notes/assumptions/29.md).
READ_CLASS returns an entry with its permitted total, or one line per occupied place for code 0;
an empty place is NOT_FOUND. That a code above 32 is BAD_FIELD is the model's reading
(notes/assumptions/20.md). READ_GROUPS returns the group result table.
READ_TARES, READ_PRINTERS and READ_WATCH return their tables and change none; a plate without an entry is
NOT_FOUND.
Where a page of stored tares continues, and that an entry with no uses left which is also too old is
USED_UP, is the model's choice (notes/assumptions/22.md, notes/assumptions/52.md), as is that READ_PRINTERS
gives printer A first (notes/assumptions/72.md). -/
def Obligations.CheckAndTableReads : Prop :=
  (∀ (h : Header) (n : Nat) (s : State), Arrives h s →
     let part := fun d : DeckId =>
       (⟨s.front[d].budget, s.legal.threshold, s.front[d].lastValid,
         (List.finRange 4).map fun i : CellId =>
           (4 * d.val + i.val + 1, s.front[d].cells[i].latest, s.front[d].cells[i].shunt,
             s.front[d].cells[i].tally,
             decide (¬(-8388607 ≤ s.legal.zero[d][i] ∧ s.legal.zero[d][i] ≤ 8388607 ∧
               100 ≤ s.legal.factor[d][i] ∧ s.legal.factor[d][i] ≤ 100000)))⟩ : CellsPart)
     (n = 0 → exec (.readCells h n) s = .next ((s.received h).sent h 0x10#8 .accepted
       (.cells (((List.finRange 4).filter fun d => d.val < deckCount s.legal).map part)))) ∧
     (∀ d : DeckId, n = d.val + 1 → d.val < deckCount s.legal →
       exec (.readCells h n) s = .next ((s.received h).sent h 0x10#8 .accepted (.cells [part d]))) ∧
     (deckCount s.legal < n →
       exec (.readCells h n) s = .next ((s.received h).refusedWith h 0x10#8 .badField .none))) ∧
  ((∀ (h : Header) (s : State), Arrives h s →
     (exec (.readClass h 0) s = .next ((s.received h).sent h 0x28#8 .accepted
       (.classLines ((List.finRange 32).filterMap fun i =>
         (s.check.classes[i]).map fun e => (i.val + 1, e.name, e.axleCount))))) ∧
     (∀ i : Fin 32, exec (.readClass h (i.val + 1)) s =
       .next (match s.check.classes[i] with
         | some e => (s.received h).sent h 0x28#8 .accepted
             (.classEntry e ((e.groups.map fun g => g.permitted).sum))
         | none => (s.received h).refusedWith h 0x28#8 .notFound .none)) ∧
     (∀ n, 32 < n → exec (.readClass h n) s =
       .next ((s.received h).refusedWith h 0x28#8 .badField .none))) ∧
   (∀ (h : Header) (s : State), Arrives h s → ∃ masses sums,
     exec (.readGroups h) s = .next ((s.received h).sent h 0x2B#8 .accepted
       (.groups (summaryOf s.check.table) s.check.table s.check.axleTol s.check.consTol masses sums)) ∧
     (s.check.table.cls = none → masses = [] ∧ sums = []) ∧
     (∀ c e, s.check.table.cls = some (c, e) →
       masses = e.groups.map (fun g => g.permitted) ∧
       sums = s.check.table.combined.map fun c => permittedSum e.groups c.first c.last))) ∧
  ((∀ (h : Header) (s : State), Arrives h s →
     let line := fun e : TareEntry => (e, if e.uses = 0 then TareValidity.usedUp
       else if e.day + s.visit.validity < s.clock.day then .expired else .valid)
     (∀ (p : Text) (e : TareEntry), textOk p = true → findTare s.visit p = some e →
       exec (.readTares h (.plate p)) s = .next ((s.received h).sent h 0x3A#8 .accepted
         (.tareLine e (line e).2))) ∧
     (∀ p : Text, textOk p = true → (∀ e ∈ s.visit.tares, e.plate ≠ p) →
       exec (.readTares h (.plate p)) s =
         .next ((s.received h).refusedWith h 0x3A#8 .notFound .none)) ∧
     (∀ n : Nat, exec (.readTares h (.start n)) s =
       .next ((s.received h).sent h 0x3A#8 .accepted
         (.tareLines (((s.visit.tares.drop n).take 8).map line)
           (if n + 8 < s.visit.tares.length then some (n + 8) else none))))) ∧
   (∀ (h : Header) (s : State), Arrives h s →
     exec (.readPrinters h) s = .next ((s.received h).sent h 0x42#8 .accepted
       (.printers ([s.ticket.lineA, s.ticket.lineB].map fun l =>
           (l.state, l.retry, l.spool.map fun j => (j.name, j.isCopy)))
         s.ticket.copyOn s.ticket.interval s.ticket.limit))) ∧
   (∀ (h : Header) (s : State), Arrives h s →
     exec (.readWatch h) s = .next ((s.received h).sent h 0x48#8 .accepted
       (.watch s.watch.w1 s.watch.w2 s.watch.mode s.watch.flag1 s.watch.flag2 s.watch.matchNumber
         s.watch.armed))))

/-- From any port, READ_VISIT gives the part named with the visit's number, state and revision, and
LIST_VISITS the first 8 lines, in opening order, of the visits that pass its filter from a start position
onward, with the position of the next such visit, or none.
That a page continues at the next visit that passes is the model's choice (notes/assumptions/22.md). -/
def Obligations.VisitReadsReturnParts : Prop :=
  (∀ (h : Header) (n : Nat) (v : Visit) (s : State), Arrives h s →
     findVisit s.visit n = some v →
     exec (.readVisit h n (some .record)) s = .next ((s.received h).sent h 0x34#8 .accepted
       (.visitRecord { v with summary := none, held := none } v.held.isSome)) ∧
     exec (.readVisit h n (some .summary)) s = .next ((s.received h).sent h 0x34#8 .accepted
       (.visitSummary v.number v.state v.revision v.summary)) ∧
     exec (.readVisit h n (some .held)) s = .next ((s.received h).sent h 0x34#8 .accepted
       (.visitHeld v.number v.state v.revision v.held))) ∧
  (∀ (h : Header) (n : Nat) (part : VisitPart) (s : State), Arrives h s →
     findVisit s.visit n = none →
     exec (.readVisit h n (some part)) s =
       .next ((s.received h).refusedWith h 0x34#8 .notFound .none)) ∧
  (∀ (h : Header) (f : VisitFilter) (start : Nat) (s : State), Arrives h s →
     let passes := fun v : Visit => match f with
       | .any => true
       | .only st => decide (v.state = st)
     let rest := (s.visit.visits.drop start).filter passes
     ∃ next, exec (.listVisits h (some f) start) s =
       .next ((s.received h).sent h 0x35#8 .accepted (.visitLines ((rest.take 8).map fun v =>
         ⟨v.number, v.plate, v.kind, v.state, v.revision, v.held.isSome⟩) next)) ∧
     (next = none ↔ rest.length ≤ 8) ∧
     (∀ i, next = some i → start ≤ i ∧ (∃ v, s.visit.visits[i]? = some v ∧ passes v = true) ∧
       (((s.visit.visits.take i).drop start).filter passes).length = 8))

/-- READ_TICKET, from any port, returns the whole record of a journaled ticket, or for number 0 the
journal bounds; a number up to 999,999 that is not in the journal is NOT_FOUND and a greater one
BAD_FIELD. -/
def Obligations.ReadTicketReturnsRecords : Prop :=
  ∀ (h : Header) (n : Nat) (s : State), Arrives h s →
    (n = 0 → exec (.readTicket h n) s = .next ((s.received h).sent h 0x40#8 .accepted
      (.journalBounds s.ticket.counter s.ticket.journal.length
        (s.ticket.journal.head?.map fun t => t.number)))) ∧
    (∀ t ∈ s.ticket.journal, (s.ticket.journal.map fun t => t.number).Nodup → t.number = n →
      1 ≤ n → n ≤ 999999 →
      exec (.readTicket h n) s = .next ((s.received h).sent h 0x40#8 .accepted (.ticket t))) ∧
    (1 ≤ n → n ≤ 999999 → (∀ t ∈ s.ticket.journal, t.number ≠ n) →
      exec (.readTicket h n) s = .next ((s.received h).refusedWith h 0x40#8 .notFound .none)) ∧
    (999999 < n →
      exec (.readTicket h n) s = .next ((s.received h).refusedWith h 0x40#8 .badField .none))

/-! ### Requests to the port unit, events of the service lines -/

/-- CLEAR_EVENTS clears the listed categories whose counts are those carried, and lists the others as
inhibited with their current counts; a number outside 1 to 9 or a category named twice is BAD_FIELD.
SET_EVENT_MASK replaces the mask of its own port, and the attention line follows at once;
CLEAR_FAULT empties the port's first-fault record.
CLEAR_DECK_HISTORY removes each listed state whose mark is the one carried, keeps one entered again
and lists it as inhibited, and passes over one not in the set; a deck not in use, a code that names no
state or a state named twice is BAD_FIELD.
The BAD_FIELD of a code that names no state is the model's choice (notes/assumptions/21.md), as is that the
inhibited lists stand in the order of the request's list (notes/assumptions/72.md). -/
def Obligations.SetsAreClearedAsRead : Prop :=
  ((∀ (h : Header) (list : List (Nat × Nat)) (s : State), Passes h .clearEvents s →
      let old := (s.portState h.port).events
      ((∀ x ∈ list, 1 ≤ x.1 ∧ x.1 ≤ 9) ∧ (list.map fun x => x.1).Nodup →
        ∃ new inhibited, exec (.clearEvents h list) s =
            .next (((s.received h).setPort h.port fun p => { p with events := new }).sent h 0x02#8
              .accepted (.inhibitedEvents inhibited)) ∧
          (∀ c : Fin 9, ((c.val + 1, old[c].count) ∈ list → new[c] = ⟨0, none⟩) ∧
            ((c.val + 1, old[c].count) ∉ list → new[c] = old[c])) ∧
          (∀ x, x ∈ inhibited ↔ ∃ (c : Fin 9) (n : Nat), (c.val + 1, n) ∈ list ∧
            n ≠ old[c].count ∧ x = (c.val + 1, old[c].count))) ∧
      (¬((∀ x ∈ list, 1 ≤ x.1 ∧ x.1 ≤ 9) ∧ (list.map fun x => x.1).Nodup) →
        exec (.clearEvents h list) s = .next ((s.received h).refusedWith h 0x02#8 .badField .none))) ∧
   ((∀ (h : Header) (mask : Vector Bool 9) (s : State), Passes h .setEventMask s →
      ∃ t, exec (.setEventMask h mask) s = .next t ∧
        t = ((s.received h).setPort h.port fun p => { p with mask := mask }).sent h 0x03#8
          .accepted .none ∧
        ((t.portState h.port).attention = true ↔
          ∃ c : Fin 9, 0 < (s.portState h.port).events[c].count ∧ mask[c] = false)) ∧
    (∀ (h : Header) (s : State), Passes h .clearFault s →
      exec (.clearFault h) s = .next (((s.received h).setPort h.port fun p =>
        { p with firstFault := none }).sent h 0x05#8 .accepted .none)))) ∧
  (∀ (h : Header) (n : Nat) (list : List (Choice DeckMode × BitVec 32)) (s : State),
     Passes h .clearDeckHistory s →
     (∀ (d : DeckId) (l : List (DeckMode × BitVec 32)), n = d.val + 1 →
       d.val < deckCount s.legal → list = l.map (fun x => (some x.1, x.2)) →
       (l.map fun x => x.1).Nodup →
       ∃ new inhibited, exec (.clearDeckHistory h n list) s =
           .next (((s.received h).setDeck d fun k => { k with history := new }).sent h 0x12#8
             .accepted (.inhibitedStates inhibited)) ∧
         (∀ m : DeckMode,
           new[modeNumber m] = match s.decks[d].history[modeNumber m] with
             | some e => if (m, e) ∈ l then none else some e
             | none => none) ∧
         (∀ x, x ∈ inhibited ↔ ∃ e, (x.1, e) ∈ l ∧ e ≠ x.2 ∧
           s.decks[d].history[modeNumber x.1] = some x.2)) ∧
     ((n = 0 ∨ deckCount s.legal < n ∨ (∃ x ∈ list, x.1 = none) ∨
         ¬(list.map fun x => x.1).Nodup) →
       exec (.clearDeckHistory h n list) s =
         .next ((s.received h).refusedWith h 0x12#8 .badField .none)))

/-- A port reset clears the port's receiver, counts, events, mask and first fault, keeps its rates and
raises PORT_RESET; RESET_PORT waits for the end of its reply. On the inspection port it ends an open
session, whose event is counted.
The last byte of a reply has been sent: the receiver returns to HUNT, and what waited for it takes
place, a rate change or a port reset.
The receiver: a sync byte starts a frame in HUNT; a discarded frame is counted and returns the
receiver to HUNT, unless the port is ANSWERING; a byte gap discards a frame being read.
How a discarded frame meets each receiver state, and that a reply's end outside ANSWERING and a byte gap
with no frame being read are without effect, is the model's choice (notes/assumptions/4.md,
notes/assumptions/7.md, notes/assumptions/8.md); that a break drops what waited for a reply's end is
its choice too (notes/assumptions/11.md). -/
def Obligations.PortLineEvents : Prop :=
  (∀ (h : Header) (s : State), Passes h .resetPort s →
    exec (.resetPort h) s = .next (((s.received h).setPort h.port fun p =>
      { p with resetDeferred := true }).sent h 0x06#8 .accepted .none)) ∧
  (∀ (p : Port) (s : State), s.power = .running → p ≠ .inspection ∨ s.sessionOpen = false →
    exec (.lineBreak p) s = .next (((s.setPort p fun x =>
      { PortState.start x.rate with lineRate := x.lineRate }).raise (.portReset p .break_)).drive)) ∧
  (∀ s : State, s.power = .running → s.sessionOpen = true → MapOk s →
    ∃ t, exec (.lineBreak .inspection) s = .next t ∧ t.sessionOpen = false ∧
      t.metro.marker = false ∧ (t.portState .inspection).receiver = .hunt ∧
      (t.portState .inspection).discarded = 0 ∧ (t.portState .inspection).mask = vrep 9 false ∧
      (t.portState .inspection).firstFault = none ∧
      ∀ c : Fin 9, (t.portState .inspection).events[c].count =
        if c = 6 ∨ c = 7 ∨ (c = 1 ∧ t.axle.map.valid = true) then 1 else 0) ∧
  (∀ (p : Port) (s : State), s.power = .running →
     ((s.portState p).receiver ≠ .answering → exec (.replySent p) s = .next s.drive) ∧
     ((s.portState p).receiver = .answering → (s.portState p).resetDeferred = false →
       exec (.replySent p) s = .next (s.setPort p fun x =>
         { x with
           receiver := .hunt
           reply := none
           replyLost := false
           answered := none
           lineRate := if x.rateDeferred then x.rate else x.lineRate
           rateDeferred := false
           overrun := if x.rateDeferred then false else x.overrun
           discarded := if x.rateDeferred && x.overrun then min 65535 (x.discarded + 1)
             else x.discarded }).drive) ∧
     ((s.portState p).receiver = .answering → (s.portState p).resetDeferred = true →
       (s.portState p).rateDeferred = false → p ≠ .inspection ∨ s.sessionOpen = false →
       exec (.replySent p) s = .next (((s.setPort p fun x =>
         { PortState.start x.rate with lineRate := x.lineRate }).raise
           (.portReset p .request)).drive)) ∧
     (p = .inspection → (s.portState p).receiver = .answering →
       (s.portState p).resetDeferred = true → s.sessionOpen = true → MapOk s →
       ∃ t, exec (.replySent p) s = .next t ∧ t.sessionOpen = false ∧ t.metro.marker = false ∧
         (s.metro.log.length < 256 → s.metro.nextSeq < 4294967295 →
           t.metro.log = s.metro.log ++ [⟨s.metro.nextSeq, ⟨s.clock.day, s.clock.sec⟩,
             .sessionEnd .portReset, s.metro.cal, none⟩]) ∧
         (t.portState p).receiver = .hunt ∧ (t.portState p).reply = none ∧
         (t.portState p).resetDeferred = false ∧ (t.portState p).discarded = 0 ∧
         (t.portState p).mask = vrep 9 false ∧ (t.portState p).firstFault = none ∧
         ∀ c : Fin 9, (t.portState p).events[c].count =
           if c = 6 ∨ c = 7 ∨ (c = 1 ∧ t.axle.map.valid = true) then 1 else 0)) ∧
  (∀ (p : Port) (s : State), s.power = .running →
     let discard := fun x : PortState =>
       { x with
         discarded := min 65535 (x.discarded + 1)
         overrun := false
         receiver := if x.receiver = .answering then .answering else .hunt }
     ((s.portState p).receiver = .hunt →
       exec (.frameSyncReceived p) s = .next (s.setPort p fun x =>
         { x with receiver := .receiving }).drive) ∧
     ((s.portState p).receiver = .receiving → exec (.frameSyncReceived p) s = .next s.drive) ∧
     ((s.portState p).receiver = .answering →
       exec (.frameSyncReceived p) s = .next (s.setPort p fun x =>
         { x with overrun := true }).drive) ∧
     (∀ cause : DiscardCause, cause ≠ .duringAnswer ∨ (s.portState p).receiver = .answering ∨
         (s.portState p).overrun = true →
       exec (.frameDiscarded p cause) s = .next (s.setPort p discard).drive) ∧
     ((s.portState p).receiver = .receiving ∨ (s.portState p).overrun = true →
       exec (.byteGapTimeout p) s = .next (s.setPort p discard).drive) ∧
     ((s.portState p).receiver ≠ .receiving → (s.portState p).overrun = false →
       exec (.byteGapTimeout p) s = .next s.drive))

/-! ### Requests to the decks and the beams -/

/-- ZERO is refused BUSY while any capture is in flight; otherwise each deck named that has no pending
ZERO takes one with a deadline of 300 samples, and one that has keeps it.
SET_BEAM_FILTER takes effect at once: a value above 50 is clamped; a persistence time that has
reached the new value is taken, and one that has not runs on.
Which due transition is taken first is the model's choice (notes/assumptions/35.md). -/
def Obligations.ZeroAndBeamFilterRequests : Prop :=
  (∀ (h : Header) (n : Nat) (s : State), Passes h .zero s →
     (n ≤ deckCount s.legal → s.orderCapture = false → s.testCapture = false →
       exec (.zero h n) s = .next (State.sent h 0x13#8 .pending .none
         { s.received h with
           decks := vgen fun d =>
             if d.val < deckCount s.legal ∧ (n = 0 ∨ n = d.val + 1) then
               { s.decks[d] with
                 pendingZero := match s.decks[d].pendingZero with
                   | some left => some left
                   | none => some 300 }
             else s.decks[d] })) ∧
     (n ≤ deckCount s.legal → s.orderCapture = true ∨ s.testCapture = true →
       exec (.zero h n) s = .next ((s.received h).refusedWith h 0x13#8 .busy .none)) ∧
     (deckCount s.legal < n →
       exec (.zero h n) s = .next ((s.received h).refusedWith h 0x13#8 .badField .none))) ∧
  (∀ (h : Header) (ms : Nat) (s : State), Passes h .setBeamFilter s →
     ((∀ (j : Boundary) (x : Nat), s.axle.pairs[j].persist = some x → x < min 50 ms) →
       exec (.setBeamFilter h ms) s = .next (((s.received h).setAxle fun a =>
         { a with filter := min 50 ms }).sent h 0x19#8 .accepted (.taken [min 50 ms]))) ∧
     ∃ t : State, exec (.setBeamFilter h ms) s = .next (t.sent h 0x19#8 .accepted (.taken [min 50 ms])) ∧
       t.axle.filter = min 50 ms ∧
       ∀ j : Boundary, j.val ≤ deckCount s.legal →
         match s.axle.pairs[j].persist with
         | some x =>
           if min 50 ms ≤ x then
             t.axle.pairs[j].decoder = some s.axle.pairs[j].raw ∧ t.axle.pairs[j].persist = none
           else t.axle.pairs[j] = s.axle.pairs[j]
         | none => t.axle.pairs[j] = s.axle.pairs[j])

/-! ### Requests to the order controller -/

/-- STAGE_ORDER: the tests in their order with the refusal of the first that fails; a request that
passes takes the active slot when it is empty, otherwise the end of the staged list.
That the condition run of an order which becomes active is 0 is the model's choice
(notes/assumptions/30.md). -/
def Obligations.StageOrderTests : Prop :=
  ∀ (h : Header) (n : Nat) (k : OrderKind) (storeTare auto : Bool) (cls : Option Nat) (s : State),
    Passes h .stageOrder s →
    let visit := findVisit s.visit n
    let suits := fun v : Visit =>
      match k with
      | .firstWeigh => v.state = .opened
      | .secondWeigh => v.state = .firstDone ∧ (storeTare = true → v.kind = .receival)
      | .storedTare => v.state = .opened ∧ v.kind = .receival
      | .axleSurvey => v.state = .opened ∨ v.state = .firstDone
      | .check => v.state ≠ .void
    let tareValid := fun v : Visit =>
      ∃ e, findTare s.visit v.plate = some e ∧ 1 ≤ e.uses ∧
        s.clock.day - e.day ≤ s.visit.validity
    let fields := (storeTare = true → k = .secondWeigh) ∧ (cls.isSome → n = 0) ∧ (n = 0 → k = .check)
    let named := ∀ c, cls = some c → (classAt s.check c).isSome
    let refused := fun c : Status =>
      exec (.stageOrder h n (some k) storeTare auto cls) s =
        .next ((s.received h).refusedWith h 0x20#8 c .none)
    (¬fields → refused .badField) ∧
    (fields → ¬named → refused .notFound) ∧
    (fields → named → 2 ≤ s.order.staged.length → refused .full) ∧
    (fields → named → s.order.staged.length < 2 →
      (n ∈ queueNumbers s.order → refused .duplicate) ∧
      (n ∉ queueNumbers s.order →
        (n ≠ 0 → visit = none → refused .notFound) ∧
        (∀ v, n ≠ 0 → visit = some v →
          (v.held ≠ none ∨ ¬suits v → refused .wrongState) ∧
          (v.held = none → suits v → k = .storedTare → ¬tareValid v → refused .noValidTare)) ∧
        ((n = 0 ∨ ∃ v, visit = some v ∧ v.held = none ∧ suits v ∧
            (k = .storedTare → tareValid v)) →
          exec (.stageOrder h n (some k) storeTare auto cls) s =
            .next (match s.order.active with
              | none => ((s.received h).setOrder fun u =>
                  { u with
                    active := some ⟨⟨n, k, storeTare, auto, cls⟩, .waiting, 0, none⟩
                    condRun := 0 }).sent h 0x20#8 .accepted (.placed 0)
              | some _ => ((s.received h).setOrder fun u =>
                  { u with staged := u.staged ++ [⟨n, k, storeTare, auto, cls⟩] }).sent h 0x20#8
                    .accepted (.placed (s.order.staged.length + 1))))))

/-- CANCEL_ORDER: an order leaves with CANCELLED; a capture in flight is first aborted; removing the
active order starts promotion; an order not in the queue is NOT_FOUND.
Promotion: the staged orders are examined from the first on; those that fail leave with STALE and
the first that passes becomes active in WAITING.
That the condition run is 0 once the active order has left, and of an order that becomes active, is the
model's choice (notes/assumptions/30.md). -/
def Obligations.OrdersLeaveAndPromote : Prop :=
  (∀ (h : Header) (n : Nat) (s : State), Passes h .cancelOrder s →
     (∀ a, s.order.active = some a → a.order.visit = n → s.order.engine = none →
       exec (.cancelOrder h n) s = .next ((promote (((s.received h).setOrder fun u =>
         { u with active := none, condRun := 0 }).raise
           (.orderLeft n a.order.kind .cancelled))).sent h 0x21#8 .accepted .none)) ∧
     (∀ a e, s.order.active = some a → a.order.visit = n → s.order.engine = some e →
       exec (.cancelOrder h n) s = .next ((promote ((((s.received h).setOrder fun u =>
         { u with active := none, engine := none, condRun := 0 }).raise
           (.orderAborted n a.order.kind .cancelled)).raise
             (.orderLeft n a.order.kind .cancelled))).sent h 0x21#8 .accepted .none)) ∧
     (∀ o, (∀ a, s.order.active = some a → a.order.visit ≠ n) →
       s.order.staged.find? (fun x => x.visit = n) = some o →
       exec (.cancelOrder h n) s = .next ((((s.received h).setOrder fun u =>
         { u with staged := u.staged.filter fun x => x.visit ≠ n }).raise
           (.orderLeft n o.kind .cancelled)).sent h 0x21#8 .accepted .none)) ∧
     (n ∉ queueNumbers s.order → exec (.cancelOrder h n) s =
       .next ((s.received h).refusedWith h 0x21#8 .notFound .none))) ∧
  ((∀ (s : State) (stale rest : List Order) (o : Order), s.order.staged = stale ++ o :: rest →
     (∀ x ∈ stale, x.visit ≠ 0 ∧ ¬∃ v, findVisit s.visit x.visit = some v ∧ v.held = none ∧
       suitsKind x v = true) →
     (o.visit = 0 ∨ ∃ v, findVisit s.visit o.visit = some v ∧ v.held = none ∧
       suitsKind o v = true) →
     promote s = ((stale.map fun x => Cause.orderLeft x.visit x.kind .stale).foldl State.raise
       s).setOrder fun u =>
         { u with active := some ⟨o, .waiting, 0, none⟩, staged := rest, condRun := 0 }) ∧
   (∀ s : State, (∀ x ∈ s.order.staged, x.visit ≠ 0 ∧ ¬∃ v, findVisit s.visit x.visit = some v ∧
       v.held = none ∧ suitsKind x v = true) →
     promote s = ((s.order.staged.map fun x => Cause.orderLeft x.visit x.kind .stale).foldl
       State.raise s).setOrder fun u => { u with staged := [] }))

/-- The capture conditions: all hold exactly when each of the ten holds that applies to the order's
kind, and otherwise the first that fails is the cause.
That condition 8 asks both of an AXLE_SURVEY, every deck at rest without a hold and each deck with axles
STEADY, is the model's reading (notes/assumptions/31.md); that the deck states are the present ones is
its choice (notes/assumptions/68.md). -/
def Obligations.CaptureConditionsInOrder : Prop :=
  ∀ (s : State) (o : Order),
    let used := fun d : DeckId => d.val < deckCount s.legal
    let axles := fun d : DeckId => (s.axle.map.list.filter fun a => a.deck = d).length
    let whole := o.kind ≠ .axleSurvey
    let holds : NotReady → Prop := fun c =>
      match c with
      | .session => s.sessionOpen = false
      | .mapInvalid => s.axle.map.valid = true
      | .notAllOn => whole → s.axle.map.list ≠ [] ∧ s.axle.map.departed = 0 ∧
          ∀ j : Boundary, j.val = 0 ∨ j.val = deckCount s.legal →
            s.axle.pairs[j].decoder = some .clear
      | .axleCount => whole → ∀ c e, orderClass s o = some (c, e) →
          e.axleCount = s.axle.map.list.length
      | .deckFault => ∀ d, used d → s.decks[d].mode ≠ .noSignal ∧ s.decks[d].mode ≠ .overload ∧
          s.decks[d].mode ≠ .underload
      | .zeroNotSet => ∀ d, used d → s.decks[d].zeroSet = true
      | .noise => ∀ d, used d → s.decks[d].mode ≠ .noise
      | .motion => ∀ d, used d → (s.decks[d].mode = .empty ∨ s.decks[d].mode = .steady) ∧
          s.decks[d].hold = false ∧ (o.kind = .axleSurvey → axles d ≠ 0 → s.decks[d].mode = .steady)
      | .loadWithoutAxle => ∀ d, used d → axles d = 0 → s.decks[d].mode = .empty
      | .unverified => o.kind ≠ .check → s.metro.switch = .shut ∧
          ∀ d, used d → s.metro.decks[d].status ≠ .unverified
      | .notEmpty | .notLoaded => True
    let order := [NotReady.session, .mapInvalid, .notAllOn, .axleCount, .deckFault, .zeroNotSet,
      .noise, .motion, .loadWithoutAxle, .unverified]
    (firstFailing s o = none ↔ ∀ c ∈ order, holds c) ∧
    (∀ c, firstFailing s o = some c ↔
      ∃ before after, order = before ++ c :: after ∧ (∀ x ∈ before, holds x) ∧ ¬holds c)

/-- CAPTURE: its tests in their order; a request that passes starts the capture, with a sum and a count
of 0 for every deck, the window C in force, the pass direction and the state the order comes from.
FINISH_SURVEY: its tests in their order; a survey that is SURVEYING in a pass becomes COMPLETE, its
summary becomes the visit's as one change, and an axle report goes to the exit-end printer of its last
stop, or is discarded with SPOOL_FULL when its spool is full.
That the conditions read the present deck states is the model's choice (notes/assumptions/68.md), and the
note of the visit's change is its own (notes/assumptions/53.md). -/
def Obligations.CaptureAndFinishSurvey : Prop :=
  (∀ (h : Header) (s : State), Passes h .capture s →
     (s.orderCapture = true ∨ s.testCapture = true →
       exec (.capture h) s = .next ((s.received h).refusedWith h 0x22#8 .busy .none)) ∧
     (s.orderCapture = false → s.testCapture = false →
       (s.order.active = none →
         exec (.capture h) s = .next ((s.received h).refusedWith h 0x22#8 .notFound .none)) ∧
       (∀ a, s.order.active = some a →
         (a.state ≠ .waiting → a.state ≠ .surveying →
           exec (.capture h) s = .next ((s.received h).refusedWith h 0x22#8 .wrongState .none)) ∧
         (a.state = .waiting ∨ a.state = .surveying →
           (∀ c, firstFailing s a.order = some c → exec (.capture h) s =
             .next ((s.received h).refusedWith h 0x22#8 .notReady (.notReady c))) ∧
           (firstFailing s a.order = none →
             exec (.capture h) s = .next (((s.received h).setOrder fun u =>
               { u with
                 engine := some ⟨s.order.window, s.axle.map.direction, a.state, vrep 4 0, vrep 4 0⟩
                 active := some { a with state := .capturing } }).sent h 0x22#8 .accepted
                   .none)))))) ∧
  (∀ (h : Header) (s : State), Passes h .finishSurvey s →
     (s.order.active = none →
       exec (.finishSurvey h) s = .next ((s.received h).refusedWith h 0x23#8 .notFound .none)) ∧
     (∀ a, s.order.active = some a →
       (a.state = .capturing →
         exec (.finishSurvey h) s = .next ((s.received h).refusedWith h 0x23#8 .busy .none)) ∧
       (a.state ≠ .capturing → ¬(a.order.kind = .axleSurvey ∧ a.state = .surveying) →
         exec (.finishSurvey h) s =
           .next ((s.received h).refusedWith h 0x23#8 .wrongState .none)) ∧
       (∀ dir marks, a.order.kind = .axleSurvey → a.state = .surveying →
         a.lastStop = some (dir, marks) → s.axle.map.direction ≠ none →
         let e : BridgeEnd := if dir = some .forward then .b else .a
         (lineOf s.ticket e).spool.length < 8 →
         ∃ content, exec (.finishSurvey h) s =
           .next (((((s.received h).setVisit fun u =>
             { u with
               visits := u.visits.map fun v =>
                 if v.number = a.order.visit then
                   { v with
                     summary := some (summaryOf s.check.table)
                     revision := v.revision + 1 }
                 else v
               made := u.made ++ [.surveyed a.order.visit (summaryOf s.check.table)] }).setTicket (setLine e fun l =>
                   if l.state = .ready then
                     { l with
                       spool := l.spool ++ [⟨.slip .axleReport, false, content⟩]
                       state := .sending
                       answerLeft := some 1000 }
                   else { l with spool := l.spool ++ [⟨.slip .axleReport, false, content⟩] })).setOrder
             fun u => { u with active := some { a with state := .complete } }).raise
               (.orderComplete a.order.visit .axleSurvey none) |>.sent h 0x23#8 .accepted .none)) ∧
       (∀ dir marks, a.order.kind = .axleSurvey → a.state = .surveying →
         a.lastStop = some (dir, marks) → s.axle.map.direction ≠ none →
         let e : BridgeEnd := if dir = some .forward then .b else .a
         8 ≤ (lineOf s.ticket e).spool.length →
         exec (.finishSurvey h) s =
           .next (((((s.received h).setVisit fun u =>
             { u with
               visits := u.visits.map fun v =>
                 if v.number = a.order.visit then
                   { v with
                     summary := some (summaryOf s.check.table)
                     revision := v.revision + 1 }
                 else v
               made := u.made ++ [.surveyed a.order.visit (summaryOf s.check.table)] }).raise (.spoolFull e none)).setOrder
             fun u => { u with active := some { a with state := .complete } }).raise
               (.orderComplete a.order.visit .axleSurvey none) |>.sent h 0x23#8 .accepted .none))))

/-! ### Settings -/

/-- SET_CAPTURE, SET_AXLE_CHECK, SET_TARE_RULES and SET_PRINTING clamp each quantity to its nearest
limit and answer with the values taken; SET_SHUNT_MODE clamps P, sets the entry count to 0 and refuses
a deck outside 1 to 4 or an unknown mode.
SET_PORT_RATE: a rate code above 3 is clamped to 3. The rate of the requesting port waits for the
end of the reply; that of another port applies at once, and what that port receives or answers is
lost.
What is lost of a frame or a reply is kept as the model chose (notes/assumptions/11.md); that a change
from another port overtakes one that still waits is its choice too (notes/assumptions/67.md).
The note of the change is the model's own (notes/assumptions/53.md). -/
def Obligations.SettingsAreClamped : Prop :=
  ((∀ (h : Header) (c a : Nat) (s : State), Passes h .setCapture s →
     let w := max 25 (min 200 c)
     let x := min 500 a
     exec (.setCapture h c a) s = .next (((s.received h).setOrder fun u =>
       { u with window := w, delay := x }).sent h 0x25#8 .accepted (.taken [w, x]))) ∧
   (∀ (h : Header) (a c : Nat) (s : State), Passes h .setAxleCheck s →
     let x := min 10 a
     let y := max 5 (min 50 c)
     exec (.setAxleCheck h a c) s = .next (((s.received h).setCheck fun k =>
       { k with axleTol := x, consTol := y }).sent h 0x2C#8 .accepted (.taken [x, y]))) ∧
   (∀ (h : Header) (v n : Nat) (s : State), Passes h .setTareRules s →
     let x := max 1 (min 365 v)
     let y := max 1 (min 255 n)
     exec (.setTareRules h v n) s = .next (((s.received h).setVisit fun u =>
       { u with
         validity := x
         initialUses := y
         made := u.made ++ [.rulesSet x y] }).sent h 0x3B#8 .accepted (.taken [x, y]))) ∧
   (∀ (h : Header) (copy : Bool) (i l : Nat) (s : State), Passes h .setPrinting s →
     let x := max 1 (min 10 i)
     let y := min 99 l
     exec (.setPrinting h (some copy) i l) s = .next (((s.received h).setTicket fun u =>
       { u with copyOn := copy, interval := x, limit := y }).sent h 0x43#8 .accepted
         (.printing copy x y))) ∧
   (∀ (h : Header) (d : DeckId) (m : ShuntModeName) (p : Nat) (s : State),
     Passes h .setShuntMode s →
     let x : ShuntMode := match m with
       | .off => .off
       | .oneShot => .oneShot
       | .periodic => .periodic (max 1 (min 255 p))
     exec (.setShuntMode h (d.val + 1) (some m) p) s = .next (((s.received h).setMetroDeck d fun k =>
       { k with shuntMode := x, entryCount := 0 }).sent h 0x5C#8 .accepted (.shuntMode x))) ∧
   (∀ (h : Header) (n p : Nat) (m : Choice ShuntModeName) (s : State), Passes h .setShuntMode s →
     n = 0 ∨ 4 < n ∨ m = none →
     exec (.setShuntMode h n m p) s =
       .next ((s.received h).refusedWith h 0x5C#8 .badField .none))) ∧
  (∀ (h : Header) (n code : Nat) (s : State), Passes h .setPortRate s →
     let r := min 3 code
     (∀ p : Port, n = (portNumber p).val + 1 → p = h.port →
       exec (.setPortRate h n code) s = .next (((s.received h).setPort p fun x =>
         { x with rate := r, rateDeferred := true }).sent h 0x08#8 .accepted (.taken [r]))) ∧
     (∀ p : Port, n = (portNumber p).val + 1 → p ≠ h.port →
       exec (.setPortRate h n code) s = .next (((s.received h).setPort p fun x =>
         { x with
           rate := r
           lineRate := r
           rateDeferred := false
           receiver := if x.receiver = .receiving then .hunt else x.receiver
           overrun := false
           discarded := if x.receiver = .receiving ∨ x.overrun = true then
             min 65535 (x.discarded + 1) else x.discarded
           replyLost := x.replyLost || decide (x.receiver = .answering) }).sent h 0x08#8
             .accepted (.taken [r]))) ∧
     ((n = 0 ∨ 3 < n) → exec (.setPortRate h n code) s =
       .next ((s.received h).refusedWith h 0x08#8 .badField .none)))

/-- SET_WATCH replaces one channel whole with value and band clamped, or the mode, which empties the
armed-visit list; a field that names no choice, or a class filter above 32, is BAD_FIELD.
CLEAR_WATCH_FLAGS clears each flag named whose mark is the one carried, lists one set again as
inhibited with its current mark, and passes over a clear flag; a flag named twice is BAD_FIELD.
That a mode of no name is BAD_FIELD is the model's choice (notes/assumptions/21.md), as is that a cleared
flag loses its mark and detail (notes/assumptions/66.md) and that the inhibited list stands in the order of the
request's list (notes/assumptions/72.md). -/
def Obligations.WatchRequests : Prop :=
  ((∀ (h : Header) (c : WatchChannel) (b : WatchBody) (f : WatchField) (t : WatchTest)
       (k : KindFilter) (a : WatchAction) (s : State), Passes h .setWatch s →
     b.field = some f → b.test = some t → b.kind = some k → b.action = some a →
     (∀ n, b.cls = some n → 1 ≤ n ∧ n ≤ 32) →
     let w : WatchConfig := ⟨b.enabled, f, t, min 200000 b.value, min 200000 b.band, b.commodity,
       b.cls, k, a⟩
     exec (.setWatch h (some (.channel c b))) s = .next (((s.received h).setWatch fun u =>
       match c with
       | .w1 => { u with w1 := w }
       | .w2 => { u with w2 := w }).sent h 0x49#8 .accepted (.watchTaken w))) ∧
   (∀ (h : Header) (m : WatchMode) (s : State), Passes h .setWatch s →
     exec (.setWatch h (some (.mode (some m)))) s = .next (((s.received h).setWatch fun u =>
       { u with mode := m, armed := [] }).sent h 0x49#8 .accepted .none)) ∧
   (∀ (h : Header) (c : WatchChannel) (b : WatchBody) (s : State), Passes h .setWatch s →
     b.field = none ∨ b.test = none ∨ b.kind = none ∨ b.action = none ∨
       (∃ n, b.cls = some n ∧ 32 < n) →
     exec (.setWatch h (some (.channel c b))) s =
       .next ((s.received h).refusedWith h 0x49#8 .badField .none)) ∧
   (∀ (h : Header) (s : State), Passes h .setWatch s →
     exec (.setWatch h (some (.mode none))) s =
       .next ((s.received h).refusedWith h 0x49#8 .badField .none))) ∧
  (∀ (h : Header) (l : List (WatchChannel × BitVec 16)) (s : State), Passes h .clearWatchFlags s →
     let after := fun (c : WatchChannel) (f : Option MatchDetail) =>
       match f with
       | some d => if (c, d.mark) ∈ l then none else some d
       | none => none
     ((l.map fun x => x.1).Nodup →
       ∃ inhibited, exec (.clearWatchFlags h (l.map fun x => (some x.1, x.2))) s =
           .next (((s.received h).setWatch fun u =>
             { u with
               flag1 := after .w1 u.flag1
               flag2 := after .w2 u.flag2 }).sent h 0x4A#8 .accepted (.inhibitedFlags inhibited)) ∧
         ∀ x, x ∈ inhibited ↔ ∃ d m, flagOf s.watch x.1 = some d ∧ (x.1, m) ∈ l ∧ m ≠ d.mark ∧
           x.2 = d.mark) ∧
     (¬(l.map fun x => x.1).Nodup →
       exec (.clearWatchFlags h (l.map fun x => (some x.1, x.2))) s =
         .next ((s.received h).refusedWith h 0x4A#8 .badField .none)))

/-- The evaluation of a ticket about to issue. A channel reads one value of it, absent when the ticket
cannot supply it, and matches when it is enabled, its filters let the ticket pass and its test passes.
INDEPENDENT: each channel that matches sets its flag with the next match number, marks the ticket, and
holds it when its action is HOLD. SEQUENTIAL: W1 arms the visit, dropping the oldest of 8; W2 fires on an
armed visit alone, and takes it off the list.
That W1 takes the lower number when both match, and each event's place, is the model's choice
(notes/assumptions/55.md, notes/assumptions/37.md), as is that a full list which a ticket both arms and fires
on stays without its oldest entry (notes/assumptions/70.md). -/
def Obligations.WatchEvaluatesTickets : Prop :=
  (∀ (c : TicketContent) (entry : Option Int),
    let apart := fun t : Int => entry.map fun e => ((t - e).natAbs : Int)
    (∀ m time, c.masses = .first m .gross time → fieldValue c entry .net = none ∧
      fieldValue c entry .gross = some m ∧ fieldValue c entry .tare = none ∧
      fieldValue c entry .tareDeviation = none) ∧
    (∀ m time, c.masses = .first m .tare time → fieldValue c entry .net = none ∧
      fieldValue c entry .gross = none ∧ fieldValue c entry .tare = some m ∧
      fieldValue c entry .tareDeviation = apart m) ∧
    (∀ g t n src gt tt, c.masses = .final g t n src gt tt → fieldValue c entry .net = some n ∧
      fieldValue c entry .gross = some g ∧ fieldValue c entry .tare = some t ∧
      fieldValue c entry .tareDeviation = if src = .captured then apart t else none) ∧
    fieldValue c entry .groupExcess =
      (if c.summary.cls = none then none else some c.summary.largestExcess) ∧
    (c.summary.gross = .notTested → fieldValue c entry .grossExcess = none) ∧
    (c.summary.gross = .within → fieldValue c entry .grossExcess = some 0) ∧
    (∀ x, c.summary.gross = .over x → fieldValue c entry .grossExcess = some x)) ∧
  (∀ (w : WatchConfig) (c : TicketContent) (entry : Option Int) (v : Int),
    channelMatch w c entry = some v ↔ w.enabled = true ∧
      (∀ k, w.commodity = some k → k = c.commodity) ∧ (∀ k, w.cls = some k → c.cls = some k) ∧
      (∀ k, w.kind = .only k → k = c.kind) ∧ fieldValue c entry w.field = some v ∧
      (match w.test with
        | .above => (w.value : Int) < v
        | .below => v < (w.value : Int)
        | .outside => (w.band : Int) < ((v - w.value).natAbs : Int))) ∧
  (∀ (c : TicketContent) (entry : Option Int) (u : WatchUnit), u.mode = .independent →
    let m1 := channelMatch u.w1 c entry
    let m2 := channelMatch u.w2 c entry
    let next := if m1.isSome then u.matchNumber + 1 else u.matchNumber
    evaluate c entry u =
      { unit := { u with
          flag1 := match m1 with
            | some v => some ⟨u.matchNumber + 1, c.visit, c.kind, v, u.w1.action⟩
            | none => u.flag1
          flag2 := match m2 with
            | some v => some ⟨next + 1, c.visit, c.kind, v, u.w2.action⟩
            | none => u.flag2
          matchNumber := if m2.isSome then next + 1 else next }
        mark1 := m1.isSome
        mark2 := m2.isSome
        hold1 := decide (m1.isSome = true ∧ u.w1.action = .hold)
        hold2 := decide (m2.isSome = true ∧ u.w2.action = .hold)
        notes :=
          (m1.toList.map fun v => Cause.watchMatch .w1 c.visit c.kind v u.w1.action) ++
          (m2.toList.map fun v => Cause.watchMatch .w2 c.visit c.kind v u.w2.action) }) ∧
  (∀ (c : TicketContent) (entry : Option Int) (u : WatchUnit), u.mode = .sequential →
    let arms := (channelMatch u.w1 c entry).isSome = true ∧ c.visit ∉ u.armed
    let kept := if 8 ≤ u.armed.length then u.armed.drop 1 else u.armed
    let armed := if arms then kept ++ [c.visit] else u.armed
    let notes := if arms then
      ((if 8 ≤ u.armed.length then u.armed.take 1 else []).map fun v => Cause.watchDropped v) ++
        [.watchArmed c.visit] else []
    let out := evaluate c entry u
    out.mark1 = false ∧ out.hold1 = false ∧ out.unit.flag1 = u.flag1 ∧
    (channelMatch u.w2 c entry = none ∨ c.visit ∉ armed →
      out = ⟨{ u with armed := armed }, false, false, false, false, notes⟩) ∧
    (∀ v, channelMatch u.w2 c entry = some v → c.visit ∈ armed →
      out = ⟨{ u with
          armed := armed.filter fun m => m ≠ c.visit
          flag2 := some ⟨u.matchNumber + 1, c.visit, c.kind, v, u.w2.action⟩
          matchNumber := u.matchNumber + 1 },
        false, true, false, decide (u.w2.action = .hold),
        notes ++ [.watchMatch .w2 c.visit c.kind v u.w2.action]⟩))

/-! ### Classes, visits, stored tares, copies, holds -/

/-- SET_CLASS writes a class entry that satisfies R83 whole, unless a visit OPEN or FIRST_DONE names
the occupied place; DELETE_CLASS empties a place under the same condition.
The bodies taken are exactly those that R83 allows: name, counts and limits in their ranges, each group
with as many axles as its kind, starting after the group before it, the groups covering the axles
exactly; and the entry holds what the body carries. -/
def Obligations.ClassEntriesAndWrites : Prop :=
  (∀ (i : Fin 32) (s : State),
     let inUse := ∃ v ∈ s.visit.visits, (v.state = .opened ∨ v.state = .firstDone) ∧
       v.cls = some (i.val + 1)
     let put := fun (e : Option ClassEntry) (k : AxleCheck) =>
       { k with classes := k.classes.set i e }
     (∀ (h : Header) (b : ClassBody) (e : ClassEntry),
       Passes (withTexts h [b.name]) .setClass s → classEntryOf b = some e →
       ((s.check.classes[i] = none ∨ ¬inUse) → exec (.setClass h (i.val + 1) b) s =
         .next (((s.received h).setCheck (put (some e))).sent h 0x29#8 .accepted
           (.classWritten s.check.classes[i].isSome))) ∧
       (s.check.classes[i] ≠ none → inUse → exec (.setClass h (i.val + 1) b) s =
         .next ((s.received h).refusedWith h 0x29#8 .classInUse .none))) ∧
     (∀ (h : Header) (n : Nat) (b : ClassBody), Passes (withTexts h [b.name]) .setClass s →
       n = 0 ∨ 32 < n ∨ classEntryOf b = none →
       exec (.setClass h n b) s = .next ((s.received h).refusedWith h 0x29#8 .badField .none)) ∧
     (∀ h : Header, Passes h .deleteClass s →
       (s.check.classes[i] = none → exec (.deleteClass h (i.val + 1)) s =
         .next ((s.received h).refusedWith h 0x2A#8 .notFound .none)) ∧
       (s.check.classes[i] ≠ none → inUse → exec (.deleteClass h (i.val + 1)) s =
         .next ((s.received h).refusedWith h 0x2A#8 .classInUse .none)) ∧
       (s.check.classes[i] ≠ none → ¬inUse → exec (.deleteClass h (i.val + 1)) s =
         .next (((s.received h).setCheck (put none)).sent h 0x2A#8 .accepted .none)))) ∧
  (∀ (b : ClassBody) (e : ClassEntry), classEntryOf b = some e →
     e.name = b.name ∧ e.axleCount = b.axleCount ∧ e.grossLimit = b.grossLimit ∧
     e.groups.map (fun g => (g.firstAxle, g.axles, some g.kind, g.permitted)) =
       b.groups.map (fun g => (g.firstAxle, g.axles, g.kind, g.permitted))) ∧
  (∀ b : ClassBody, (classEntryOf b).isSome = true ↔
     1 ≤ b.name.length ∧ b.name.length ≤ 16 ∧ (∀ c ∈ b.name, 0x20 ≤ c.toNat ∧ c.toNat ≤ 0x7E) ∧
     2 ≤ b.axleCount ∧ b.axleCount ≤ 12 ∧ 1 ≤ b.groups.length ∧ b.groups.length ≤ 6 ∧
     1000 ≤ b.grossLimit ∧ b.grossLimit ≤ 160000 ∧
     (∀ g ∈ b.groups, 500 ≤ g.permitted ∧ g.permitted ≤ 60000 ∧
       ((g.kind = some .single ∧ g.axles = 1) ∨ (g.kind = some .tandem ∧ g.axles = 2) ∨
         (g.kind = some .triaxle ∧ g.axles = 3) ∨ (g.kind = some .quad ∧ g.axles = 4))) ∧
     (∀ g, b.groups.head? = some g → g.firstAxle = 1) ∧
     (∀ (k : Nat) (f g : GroupBody), b.groups[k]? = some f → b.groups[k + 1]? = some g →
       g.firstAxle = f.firstAxle + f.axles) ∧
     (∀ g, b.groups.getLast? = some g → g.firstAxle + g.axles - 1 = b.axleCount))

/-- OPEN_VISIT: the new visit takes the first number after the counter that no visit holds and enters
last, OPEN, with revision 0; its tests refuse in their order. A full table first evicts its evictable
visit with the oldest opened time, the earliest opened among equals, as if it had been removed; an active
order that waits for that visit leaves with STALE. A full table with no evictable visit is refused.
That the condition run is 0 once the active order has left is the model's choice
(notes/assumptions/30.md).
The note of the change is the model's own (notes/assumptions/53.md). -/
def Obligations.OpenVisitEntersVisit : Prop :=
  ∀ (h : Header) (plate : Text) (k : VisitKind) (cls : Nat) (commodity : Byte) (grade : Text)
      (s : State), Passes (withTexts h [plate, grade]) .openVisit s →
    let refused := fun c : Status => exec (.openVisit h plate (some k) cls commodity grade) s =
      .next ((s.received h).refusedWith h 0x30#8 c .none)
    let fields := 1 ≤ plate.length ∧ plate.length ≤ 12 ∧ cls ≤ 32 ∧ grade.length ≤ 8
    let named := cls = 0 ∨ (classAt s.check cls).isSome
    let held := ∃ v ∈ s.visit.visits, v.plate = plate ∧
      (v.state = .opened ∨ v.state = .firstDone ∨ v.held.isSome)
    let evictable := fun v : Visit => (v.state = .closed ∨ v.state = .void) ∧ v.held = none ∧
      v.number ≠ capturingVisit s.order
    let fresh := fun n : Nat => (⟨n, plate, k, if cls = 0 then none else some cls, commodity, grade,
      .opened, none, none, none, none, none, false, false, 0, ⟨s.clock.day, s.clock.sec⟩⟩ : Visit)
    let enter := fun (l : List Visit) (gone : List VisitChange) (n : Nat) (u : VisitUnit) =>
      { u with
        counter := n
        visits := l ++ [fresh n]
        made := s.visit.made ++ gone ++ [.opened (fresh n)] }
    let firstFree := fun (l : List Visit) (n : Nat) =>
      1 ≤ n ∧ n ≤ 9999 ∧ (∀ v ∈ l, v.number ≠ n) ∧
        (s.visit.counter ≤ 9999 → ∀ m, 1 ≤ m → m ≤ 9999 → (∀ v ∈ l, v.number ≠ m) →
          (n + 9999 - (s.visit.counter + 1)) % 9999 ≤ (m + 9999 - (s.visit.counter + 1)) % 9999)
    (¬fields → refused .badField) ∧
    (fields → ¬named → refused .notFound) ∧
    (fields → named → (∀ v ∈ s.visit.visits, 1 ≤ v.number) → held → refused .duplicate) ∧
    (fields → named → ¬held → s.visit.visits.length < 64 →
      ∃ n, firstFree s.visit.visits n ∧
        exec (.openVisit h plate (some k) cls commodity grade) s =
          .next (((s.received h).setVisit (enter s.visit.visits [] n)).sent h 0x30#8 .accepted
            (.visitOpened n 0 none))) ∧
    (fields → named → ¬held → s.visit.visits.length = 64 →
      (s.visit.visits.map fun v => v.number).Nodup →
      ∀ (before after : List Visit) (o : Visit), s.visit.visits = before ++ o :: after →
        evictable o →
        (∀ v ∈ before, evictable v → o.openedAt.day < v.openedAt.day ∨
          (o.openedAt.day = v.openedAt.day ∧ o.openedAt.sec < v.openedAt.sec)) →
        (∀ v ∈ after, evictable v → o.openedAt.day < v.openedAt.day ∨
          (o.openedAt.day = v.openedAt.day ∧ o.openedAt.sec ≤ v.openedAt.sec)) →
        ∃ n, firstFree (before ++ after) n ∧
          let entered := fun x : State =>
            ((x.setVisit (enter (before ++ after) [.removed o.number] n)).setWatch fun w =>
              { w with armed := w.armed.filter fun m => m ≠ o.number }).sent h 0x30#8 .accepted
                (.visitOpened n 0 (some o.number))
          ((∀ a, s.order.active = some a → ¬(a.order.visit = o.number ∧ a.order.visit ≠ 0 ∧
              (a.state = .waiting ∨ a.state = .surveying))) →
            exec (.openVisit h plate (some k) cls commodity grade) s =
              .next (entered (s.received h))) ∧
          (∀ a, s.order.active = some a → a.order.visit = o.number → a.order.visit ≠ 0 →
            a.state = .waiting ∨ a.state = .surveying →
            exec (.openVisit h plate (some k) cls commodity grade) s =
              .next (entered (promote ((((s.received h).setVisit fun u =>
                { u with
                  visits := before ++ after
                  made := u.made ++ [.removed o.number] }).setOrder fun u => { u with active := none, condRun := 0 }).raise
                    (.orderLeft o.number a.order.kind .stale)))))) ∧
    (fields → named → ¬held → 64 ≤ s.visit.visits.length →
      (∀ v ∈ s.visit.visits, ¬evictable v) → refused .full)

/-- VOID_VISIT and REMOVE_VISIT: the state becomes VOID and the revision rises by 1; the visit leaves the
table; the armed-visit list loses it. Each is BUSY for a visit whose capture is in flight, and an active
order that waits for the visit leaves with STALE.
That the condition run is 0 once the active order has left is the model's choice
(notes/assumptions/30.md).
The note of the change is the model's own (notes/assumptions/53.md). -/
def Obligations.VisitChanges : Prop :=
  ∀ (n : Nat) (v : Visit) (s : State), findVisit s.visit n = some v →
    let voided := fun x : State => x.setVisit fun u =>
      { u with
        visits := u.visits.map fun x =>
          if x.number = n then { x with state := .void, revision := x.revision + 1 } else x
        made := u.made ++ [.voided n] }
    let removed := fun x : State => x.setVisit fun u =>
      { u with
        visits := u.visits.filter fun x => x.number ≠ n
        made := u.made ++ [.removed n] }
    let disarmed := fun x : State => x.setWatch fun w =>
      { w with armed := w.armed.filter fun x => x ≠ n }
    let dropped := fun (a : ActiveOrder) (x : State) =>
      promote ((x.setOrder fun u => { u with active := none, condRun := 0 }).raise
        (.orderLeft n a.order.kind .stale))
    let capturing := ∃ a, s.order.active = some a ∧ a.order.visit = n ∧ a.state = .capturing
    let waits := fun a : ActiveOrder => s.order.active = some a ∧ a.order.visit = n ∧ n ≠ 0 ∧
      (a.state = .waiting ∨ a.state = .surveying)
    (∀ h : Header, Passes h .voidVisit s →
      let open_ := (v.state = .opened ∨ v.state = .firstDone) ∧ v.held = none
      (∀ rev : BitVec 16, rev ≠ v.revision → exec (.voidVisit h n rev) s =
        .next ((s.received h).refusedWith h 0x32#8 .stale (.revision v.revision))) ∧
      (capturing → exec (.voidVisit h n v.revision) s =
        .next ((s.received h).refusedWith h 0x32#8 .busy .none)) ∧
      (¬capturing → ¬open_ → exec (.voidVisit h n v.revision) s =
        .next ((s.received h).refusedWith h 0x32#8 .wrongState .none)) ∧
      (¬capturing → open_ → (∀ a, ¬waits a) → exec (.voidVisit h n v.revision) s =
        .next ((disarmed (voided (s.received h))).sent h 0x32#8 .accepted
          (.revision (v.revision + 1)))) ∧
      (open_ → ∀ a, waits a → exec (.voidVisit h n v.revision) s =
        .next ((disarmed (dropped a (voided (s.received h)))).sent h 0x32#8 .accepted
          (.revision (v.revision + 1))))) ∧
    (∀ h : Header, Passes h .removeVisit s →
      let done := (v.state = .closed ∨ v.state = .void) ∧ v.held = none
      (capturing → exec (.removeVisit h n) s =
        .next ((s.received h).refusedWith h 0x33#8 .busy .none)) ∧
      (¬capturing → ¬done → exec (.removeVisit h n) s =
        .next ((s.received h).refusedWith h 0x33#8 .wrongState .none)) ∧
      (¬capturing → done → (∀ a, ¬waits a) → exec (.removeVisit h n) s =
        .next ((disarmed (removed (s.received h))).sent h 0x33#8 .accepted .none)) ∧
      (done → ∀ a, waits a → exec (.removeVisit h n) s =
        .next ((disarmed (dropped a (removed (s.received h)))).sent h 0x33#8 .accepted .none)))

/-- AMEND_VISIT: its tests in their order; a request that passes changes the fields it carries, leaves the
others, and raises the revision by 1. An active order that waits for the visit and no longer passes its
examination leaves with STALE.
That an amendment which makes a capture condition fail sets the condition run to 0 at once is the model's
choice (notes/assumptions/30.md).
The note of the change is the model's own (notes/assumptions/53.md). -/
def Obligations.AmendVisitChangesFields : Prop :=
  ∀ (h : Header) (n : Nat) (rev : BitVec 16) (plate : Option Text) (commodity : Option Byte)
      (grade : Option Text) (cls : Option Nat) (s : State),
    Passes (withTexts h (plate.toList ++ grade.toList)) .amendVisit s →
    let refused := fun (c : Status) (r : Result) =>
      exec (.amendVisit h n rev plate commodity grade cls) s =
        .next ((s.received h).refusedWith h 0x31#8 c r)
    let fields := (plate.isSome ∨ commodity.isSome ∨ grade.isSome ∨ cls.isSome) ∧
      (∀ p, plate = some p → 1 ≤ p.length ∧ p.length ≤ 12) ∧ (∀ t, grade = some t → t.length ≤ 8) ∧
      ∀ c, cls = some c → c ≤ 32
    (¬fields → refused .badField .none) ∧
    (fields → findVisit s.visit n = none → refused .notFound .none) ∧
    (∀ v, fields → findVisit s.visit n = some v →
      let capturing := ∃ a, s.order.active = some a ∧ a.order.visit = n ∧ a.state = .capturing
      let open_ := (v.state = .opened ∨ v.state = .firstDone) ∧ (cls.isSome → v.state = .opened)
      let named := ∀ c, cls = some c → c = 0 ∨ (classAt s.check c).isSome
      let taken := ∃ p, plate = some p ∧ ∃ x ∈ s.visit.visits, x.number ≠ n ∧ x.plate = p ∧
        (x.state = .opened ∨ x.state = .firstDone ∨ x.held.isSome)
      let waits := fun a : ActiveOrder => s.order.active = some a ∧ a.order.visit = n ∧ n ≠ 0 ∧
        (a.state = .waiting ∨ a.state = .surveying)
      let amended := (s.received h).setVisit fun u =>
        { u with
          visits := u.visits.map fun x =>
            if x.number = n then
              { x with
                plate := plate.getD x.plate
                commodity := commodity.getD x.commodity
                grade := grade.getD x.grade
                cls := match cls with
                  | some c => if c = 0 then none else some c
                  | none => x.cls
                revision := x.revision + 1 }
            else x
          made := u.made ++ [.amended n ⟨plate, commodity, grade, cls⟩] }
      let answered := fun x : State => exec (.amendVisit h n rev plate commodity grade cls) s =
        .next ((noticeConditions x).sent h 0x31#8 .accepted (.revision (v.revision + 1)))
      (rev ≠ v.revision → refused .stale (.revision v.revision)) ∧
      (rev = v.revision → capturing → refused .busy .none) ∧
      (rev = v.revision → ¬capturing → ¬open_ → refused .wrongState .none) ∧
      (rev = v.revision → ¬capturing → open_ → ¬named → refused .notFound .none) ∧
      (rev = v.revision → ¬capturing → open_ → named → taken → refused .duplicate .none) ∧
      (rev = v.revision → ¬capturing → open_ → named → ¬taken →
        ((∀ a, ¬waits a) → answered amended) ∧
        (∀ a, waits a → v.held = none → suitsKind a.order v = true → answered amended) ∧
        (∀ a, waits a → v.held ≠ none ∨ suitsKind a.order v = false →
          answered (promote ((amended.setOrder fun u =>
            { u with active := none, condRun := 0 }).raise
              (.orderLeft n a.order.kind .stale))))))

/-- STORE_TARE writes the visit's captured tare with the initial uses at the end of the writing order,
in place of the plate's entry or, in a full table, of the oldest; DELETE_TARE removes a plate's
entry.
The note of the change is the model's own (notes/assumptions/53.md). -/
def Obligations.StoredTareWrites : Prop :=
  (∀ (h : Header) (n : Nat) (v : Visit) (w : Weighing) (s : State), Passes h .storeTare s →
    findVisit s.visit n = some v → capturedTare v = some w → v.state ≠ .void →
    w.ticket ≠ none → w.notForTrade = false →
    let e : TareEntry := ⟨v.plate, w.mass, w.time.day, s.visit.initialUses⟩
    let write := fun (l : List TareEntry) (replaced : Option Text) =>
      exec (.storeTare h n) s = .next (((s.received h).setVisit fun u =>
        { u with
          tares := l
          made := u.made ++ [.tareWritten e replaced] }).sent h 0x38#8 .accepted
            (.tareReplaced replaced))
    ((∃ x ∈ s.visit.tares, x.plate = v.plate) →
      write ((s.visit.tares.filter fun x => x.plate ≠ v.plate) ++ [e]) none) ∧
    ((∀ x ∈ s.visit.tares, x.plate ≠ v.plate) → s.visit.tares.length < 128 →
      write (s.visit.tares ++ [e]) none) ∧
    ((∀ x ∈ s.visit.tares, x.plate ≠ v.plate) → 128 ≤ s.visit.tares.length →
      (s.visit.tares.map fun x => x.plate).Nodup →
      ∃ before o after, s.visit.tares = before ++ o :: after ∧ (∀ x ∈ before, o.day < x.day) ∧
        (∀ x ∈ after, o.day ≤ x.day) ∧ write (before ++ after ++ [e]) (some o.plate))) ∧
  (∀ (h : Header) (n : Nat) (s : State), Passes h .storeTare s → findVisit s.visit n = none →
    exec (.storeTare h n) s = .next ((s.received h).refusedWith h 0x38#8 .notFound .none)) ∧
  (∀ (h : Header) (plate : Text) (s : State), Passes (withTexts h [plate]) .deleteTare s →
    ((∃ x ∈ s.visit.tares, x.plate = plate) →
      exec (.deleteTare h plate) s = .next (((s.received h).setVisit fun u =>
        { u with
          tares := u.tares.filter fun x => x.plate ≠ plate
          made := u.made ++ [.tareDeleted plate] }).sent h 0x39#8 .accepted .none)) ∧
    ((∀ x ∈ s.visit.tares, x.plate ≠ plate) →
      exec (.deleteTare h plate) s =
        .next ((s.received h).refusedWith h 0x39#8 .notFound .none)))

/-- REPRINT: its tests in their order; a request that passes raises the ticket's copy count, which
stops at 255, and appends a copy job with the copy number to the named spool. That a job's lines are kept
as fields is the model's choice (notes/assumptions/42.md), as is that verdicts are printed by the
axle summary's class (notes/assumptions/69.md). -/
def Obligations.ReprintQueuesCopy : Prop :=
  ∀ (h : Header) (n : Nat) (e : BridgeEnd) (s : State), Passes h .reprint s →
    (n = 0 ∨ 999999 < n →
      exec (.reprint h n (some e)) s =
        .next ((s.received h).refusedWith h 0x41#8 .badField .none)) ∧
    (1 ≤ n → n ≤ 999999 → (∀ t ∈ s.ticket.journal, t.number ≠ n) →
      exec (.reprint h n (some e)) s =
        .next ((s.received h).refusedWith h 0x41#8 .notFound .none)) ∧
    (∀ t, 1 ≤ n → n ≤ 999999 → findTicket s.ticket n = some t →
      (8 ≤ (lineOf s.ticket e).spool.length → exec (.reprint h n (some e)) s =
        .next ((s.received h).refusedWith h 0x41#8 .full .none)) ∧
      ((lineOf s.ticket e).spool.length < 8 →
        let copy := min 255 (t.copies + 1)
        let job : Job := ⟨.ticket n, true, ticketFields s.check t (some copy) e⟩
        exec (.reprint h n (some e)) s = .next (((s.received h).setTicket fun u =>
          setLine e (fun l =>
            if l.state = .ready then
              { l with spool := l.spool ++ [job], state := .sending, answerLeft := some 1000 }
            else { l with spool := l.spool ++ [job] })
            { u with
              journal := u.journal.map fun x =>
                if x.number = n then { x with copies := min 255 (x.copies + 1) } else x }).sent h
            0x41#8 .accepted (.copyNumber copy))))

/-- RELEASE_HOLD issues the held ticket: the next number, the frozen content with the RELEASED mark, the
time of the release; the visit takes the number and the held summary and its hold is emptied; with the
store-tare flag the captured tare of a RECEIVAL is written as a stored tare of the visit's plate
(notes/assumptions/39.md), never one that carries NOT_FOR_TRADE; an active HELD order for it becomes
COMPLETE. It is queued for printing as every issued ticket, the printer at the exit end before the other
(notes/assumptions/37.md, the model's choice where both are full), its lines kept as fields
(notes/assumptions/42.md), its verdicts by the axle summary's class (notes/assumptions/69.md).
REJECT_HOLD withdraws the held weighing as one change: the visit returns to the state before its
weighing step, no number is taken, and the tare table, flags and armed list stay. An active HELD order
for it returns to WAITING, its run at 0, in a pass of a VALID map; it leaves with REJECTED, and promotion
follows, when the map is INVALID, and also on a VALID map without a pass, which is the model's reading
(notes/assumptions/40.md), as is that the order promoted then starts with a condition run of 0
(notes/assumptions/30.md). -/
def Obligations.HoldsEnd : Prop :=
  (∀ (h : Header) (n : Nat) (v : Visit) (x : HeldTicket) (s : State), Passes h .releaseHold s →
     VisitsOk s → findVisit s.visit n = some v → v.held = some x →
     let number := if s.ticket.counter < 999999 then s.ticket.counter + 1 else 1
     ∃ (t : State) (ticket : Ticket),
       exec (.releaseHold h n) s = .next (t.sent h 0x4B#8 .accepted (.ticketNumber number)) ∧
       t.ticket.counter = number ∧ ticket.number = number ∧
       ticket.content =
         { x.content with marks := { x.content.marks with released := true } } ∧
       ticket.issued = ⟨s.clock.day, s.clock.sec⟩ ∧ ticket.copies = 0 ∧
       t.ticket.journal = (s.ticket.journal ++ [ticket]).drop
         (if 512 ≤ s.ticket.journal.length then 1 else 0) ∧
       findVisit t.visit n = some
         { v with
           first := v.first.map fun w => if w.ticket = none then { w with ticket := some number } else w
           second := v.second.map fun w =>
             if w.ticket = none then { w with ticket := some number } else w
           summary := some x.content.summary
           held := none
           revision := v.revision + 1 } ∧
       (∀ m, m ≠ n → findVisit t.visit m = findVisit s.visit m) ∧
       (x.content.storeTare = false → t.visit.tares = s.visit.tares) ∧
       (∀ w, x.content.storeTare = true → v.state = .closed → v.kind = .receival →
         v.second = some w → w.source = .captured →
         let e : TareEntry := ⟨v.plate, w.mass, w.time.day, s.visit.initialUses⟩
         (w.notForTrade = true → t.visit.tares = s.visit.tares) ∧
         (w.notForTrade = false →
           ((∃ z ∈ s.visit.tares, z.plate = v.plate) →
             t.visit.tares = (s.visit.tares.filter fun z => z.plate ≠ v.plate) ++ [e]) ∧
           ((∀ z ∈ s.visit.tares, z.plate ≠ v.plate) → s.visit.tares.length < 128 →
             t.visit.tares = s.visit.tares ++ [e]) ∧
           ((∀ z ∈ s.visit.tares, z.plate ≠ v.plate) → 128 ≤ s.visit.tares.length →
             (s.visit.tares.map fun z => z.plate).Nodup →
             ∃ before o after, s.visit.tares = before ++ o :: after ∧
               (∀ z ∈ before, o.day < z.day) ∧ (∀ z ∈ after, o.day ≤ z.day) ∧
               t.visit.tares = before ++ after ++ [e]))) ∧
       (∀ q, (t.portState q).events[(5 : Fin 9)] =
         withEvent (.holdReleased n number) s (s.portState q).events[(5 : Fin 9)]) ∧
       t.order.active = (s.order.active.map fun a =>
         if a.state = .held ∧ a.order.visit = n then { a with state := .complete } else a) ∧
       t.order.staged = s.order.staged ∧ t.check = s.check ∧ t.watch = s.watch ∧
       t.metro = (s.received h).metro ∧ t.decks = s.decks ∧ t.front = s.front ∧
       t.axle = s.axle ∧ t.clock = s.clock ∧ TicketQueued ticket s t) ∧
  (∀ (h : Header) (n : Nat) (v : Visit) (x : HeldTicket) (s : State), Passes h .rejectHold s →
     VisitsOk s → findVisit s.visit n = some v → v.held = some x →
     ∃ t : State, exec (.rejectHold h n) s = .next (t.sent h 0x4C#8 .accepted .none) ∧
       (∃ v', findVisit t.visit n = some v' ∧ v'.held = none ∧ v'.net = none ∧ v'.second = none ∧
         v'.revision = v.revision + 1 ∧ v'.plate = v.plate ∧ v'.kind = v.kind ∧
         v'.summary = v.summary ∧ v'.w1 = v.w1 ∧ v'.w2 = v.w2 ∧
         (match x.content.masses with
           | .final _ _ _ .captured _ _ => v'.state = .firstDone ∧ v'.first = v.first
           | .final _ _ _ .stored _ _ => v'.state = .opened ∧ v'.first = none
           | .first _ _ _ => v'.state = .opened ∧ v'.first = none)) ∧
       (∀ m, m ≠ n → findVisit t.visit m = findVisit s.visit m) ∧
       t.visit.tares = s.visit.tares ∧ t.ticket = s.ticket ∧ t.watch = s.watch ∧
       t.check = s.check ∧ t.metro = (s.received h).metro ∧ t.decks = s.decks ∧
       (s.axle.map.valid = true → s.axle.map.direction ≠ none →
         t.order.active = (s.order.active.map fun a =>
           if a.state = .held ∧ a.order.visit = n then { a with state := .waiting } else a) ∧
         t.order.staged = s.order.staged) ∧
       (∀ q, (t.portState q).events[(5 : Fin 9)] =
         withEvent (.holdRejected n) s (s.portState q).events[(5 : Fin 9)]) ∧
       ((∀ a, s.order.active = some a → a.state = .held → a.order.visit ≠ n) →
         t.order = s.order) ∧
       (∀ a, s.order.active = some a → a.state = .held → a.order.visit = n →
         let rejected := ∀ q, (t.portState q).events[(2 : Fin 9)] =
           withEvent (.orderLeft n a.order.kind .rejected) s (s.portState q).events[(2 : Fin 9)]
         (s.axle.map.valid = true → s.axle.map.direction ≠ none → t.order.condRun = 0) ∧
         (s.axle.map.valid = false ∨ s.axle.map.direction = none →
           (s.order.staged = [] → t.order.active = none ∧ t.order.staged = [] ∧ rejected) ∧
           (∀ o rest, s.order.staged = o :: rest → passesExamination t o = true →
             t.order.active = some ⟨o, .waiting, 0, none⟩ ∧ t.order.staged = rest ∧
             t.order.condRun = 0 ∧ rejected))))

/-! ### Sessions and legal changes -/

/-- OPEN_SESSION: its tests in their order; the session opens with an activity time of 600 s, no
operation and no results, its marker set, its entry logged, every shunt check abandoned, the map
INVALID and frozen, both lane signals at STOP.
A session ends by CLOSE_SESSION or by expiry: its operation is dropped, the marker is cleared, a
SESSION_END entry with the cause is appended or counted as lost, and the result table is kept.
The room for entries near the end of the sequence numbers is the model's choice
(notes/assumptions/2.md). -/
def Obligations.SessionsOpenAndEnd : Prop :=
  (∀ (h : Header) (s : State), Passes h .openSession s →
     let refused := fun c : Status =>
       exec (.openSession h) s = .next ((s.received h).refusedWith h 0x52#8 c .none)
     (s.sessionOpen = true ∨ s.orderCapture = true → refused .busy) ∧
     (s.sessionOpen = false → s.orderCapture = false → s.axle.map.list ≠ [] →
       refused .vehicleOnBridge) ∧
     (s.sessionOpen = false → s.orderCapture = false → s.axle.map.list = [] →
       logRoom s.metro = 0 → refused .logFull) ∧
     (s.sessionOpen = false → s.orderCapture = false → s.axle.map.list = [] →
       0 < logRoom s.metro →
       ∃ t : State, exec (.openSession h) s =
           .next (t.sent h 0x52#8 .accepted (.logSeq s.metro.nextSeq)) ∧
         t.metro.session = some ⟨true, ⟨s.clock.day, s.clock.sec⟩, 600000, none, []⟩ ∧
         t.metro.marker = true ∧
         t.metro.log = s.metro.log ++
           [⟨s.metro.nextSeq, ⟨s.clock.day, s.clock.sec⟩, .sessionOpen, s.metro.cal, none⟩] ∧
         t.metro.nextSeq = s.metro.nextSeq + 1 ∧ t.metro.legal = s.metro.legal ∧
         t.metro.cal = s.metro.cal ∧ t.metro.switch = s.metro.switch ∧
         (∀ d : DeckId, t.metro.decks[d].run = none ∧ t.deckStatus d = s.deckStatus d) ∧
         t.axle = { s.axle with map := { s.axle.map with valid := false } } ∧
         t.order.active = s.order.active ∧ t.order.staged = s.order.staged ∧
         t.check = s.check ∧ t.visit = s.visit ∧ t.ticket = s.ticket ∧ t.watch = s.watch ∧
         (t.sent h 0x52#8 .accepted (.logSeq s.metro.nextSeq)).order.laneA = .stop ∧
         (t.sent h 0x52#8 .accepted (.logSeq s.metro.nextSeq)).order.laneB = .stop)) ∧
  (let ended := fun (c : SessionEndCause) (s : State) (r : Session) (t : State) =>
     t.sessionOpen = false ∧ t.metro.marker = false ∧
     (∃ x, t.metro.session = some x ∧ x.isOpen = false ∧ x.op = none ∧ x.results = r.results ∧
       x.openedAt = r.openedAt) ∧
     (s.metro.log.length < 256 ∧ s.metro.nextSeq < 4294967295 →
       t.metro.log = s.metro.log ++
         [⟨s.metro.nextSeq, ⟨s.clock.day, s.clock.sec⟩, .sessionEnd c, s.metro.cal, none⟩] ∧
       t.metro.lost = s.metro.lost) ∧
     (256 ≤ s.metro.log.length ∨ 4294967295 ≤ s.metro.nextSeq →
       t.metro.log = s.metro.log ∧ t.metro.lost = min 65535 (s.metro.lost + 1)) ∧
     t.metro.legal = s.metro.legal ∧ t.metro.cal = s.metro.cal ∧
     t.metro.switch = s.metro.switch ∧ (∀ d : DeckId, t.deckStatus d = s.deckStatus d) ∧
     t.visit.tares = s.visit.tares ∧ t.ticket.counter = s.ticket.counter ∧
     t.ticket.journal = s.ticket.journal ∧ t.watch = s.watch
   (∀ (h : Header) (s : State), Passes h .closeSession s →
     (s.sessionOpen = false → exec (.closeSession h) s =
       .next ((s.received h).refusedWith h 0x53#8 .noSession .none)) ∧
     (∀ r, s.metro.session = some r → r.isOpen = true → MapOk s →
       ∃ t : State, exec (.closeSession h) s = .next (t.sent h 0x53#8 .accepted .none) ∧
         ended .closed s r t)) ∧
   (∀ s : State, s.power = .running →
     (s.sessionOpen = false → exec .sessionExpiry s = .next s.drive) ∧
     (∀ r, s.metro.session = some r → r.isOpen = true → MapOk s →
       ∃ t, exec .sessionExpiry s = .next t ∧ ended .expired s r t)))

/-- SET_LEGAL of one parameter: its tests in their order; an accepted change takes the value, raises
the calibration counter by 1 and appends its PARAM_CHANGE entry, then one STATUS_CHANGE for each deck
it makes UNVERIFIED; a value equal to the one in force changes nothing at all, the counter within its
range (R150; StepKeepsLog states that every step keeps it so).
What the change does to the other blocks: a change of N starts the decks that come into or leave use
afresh, S and the bands start the windows afresh, e, Max_d, z and k forget the zero, the threshold caps
the budgets.
That these take effect with the write itself is the model's reading (notes/assumptions/24.md), as is that a
deck which leaves use stands as at a restart (notes/assumptions/33.md). Its choices: a pair which comes into
use waits for its first state also with a filter time of 0 (notes/assumptions/43.md), the STATUS_CHANGE
entries of several decks stand in deck order (notes/assumptions/56.md), and the room for entries near the
end of the sequence numbers (notes/assumptions/2.md). -/
def Obligations.LegalWriteOfOneParameter : Prop :=
  ∀ (h : Header) (i : ParamId) (v : Int) (s : State),
    Passes (withWrites h [⟨some i, v⟩]) .setLegal s →
    let refused := fun c : Status => exec (.setLegal h [⟨some i, v⟩]) s =
      .next ((s.received h).refusedWith h 0x54#8 c .none)
    let lowered := (List.finRange 4).filter fun d =>
      (decksAffected i).contains d && s.deckStatus d != .unverified
    let needed := 1 + lowered.length + (if i = .interval then 1 else 0)
    let n := deckCount s.legal
    (s.sessionOpen = false → refused .noSession) ∧
    (s.sessionOpen = true → s.metro.switch = .shut → refused .isProtected) ∧
    (s.sessionOpen = true → s.metro.switch = .opened → s.operation.isSome → refused .busy) ∧
    (s.sessionOpen = true → s.metro.switch = .opened → s.operation = none →
      (legalRange i v = false ∨ resultingSetOk s.legal (setLegalValue s.legal i v) = false →
        refused .badField) ∧
      (legalRange i v = true → resultingSetOk s.legal (setLegalValue s.legal i v) = true →
        (v = legalValue s.legal i → s.metro.cal ≤ 65535 → exec (.setLegal h [⟨some i, v⟩]) s =
          .next ((s.received h).sent h 0x54#8 .accepted (.changes [] [i] s.metro.cal))) ∧
        (v ≠ legalValue s.legal i →
          (asksVisits i = true → (∃ x ∈ s.visit.visits, isLive x = true) → refused .openVisits) ∧
          ((asksVisits i = true → ∀ x ∈ s.visit.visits, isLive x = false) →
            (65535 ≤ s.metro.cal → refused .counterEnd) ∧
            (s.metro.cal < 65535 → logRoom s.metro < needed → refused .logFull) ∧
            (s.metro.cal < 65535 → needed ≤ logRoom s.metro →
              ∃ t : State, exec (.setLegal h [⟨some i, v⟩]) s = .next (t.sent h 0x54#8 .accepted
                  (.changes [(i, v, s.metro.cal + 1)] [] (s.metro.cal + 1))) ∧
                t.metro.legal = setLegalValue s.legal i v ∧ t.metro.cal = s.metro.cal + 1 ∧
                t.metro.check = Config.legalCheck (setLegalValue s.legal i v) (s.metro.cal + 1) ∧
                (∀ d : DeckId, t.deckStatus d =
                  if d ∈ decksAffected i then .unverified else s.deckStatus d) ∧
                (i ≠ .interval →
                  t.metro.log = s.metro.log ++
                  [⟨s.metro.nextSeq, ⟨s.clock.day, s.clock.sec⟩,
                    .paramChange i (legalValue s.legal i) v, s.metro.cal + 1, paramDeck i⟩] ++
                  lowered.zipIdx.map fun x =>
                    ⟨s.metro.nextSeq + 1 + x.2, ⟨s.clock.day, s.clock.sec⟩,
                      .statusChange (s.deckStatus x.1) .unverified .legalChange, s.metro.cal + 1,
                      some x.1⟩) ∧
                (i = .interval → t.visit.visits = [] ∧ t.visit.tares = [] ∧ t.watch.armed = []) ∧
                (i ≠ .interval → t.visit = s.visit) ∧ t.visit.counter = s.visit.counter ∧
                t.ticket = s.ticket ∧
                (i = .decks →
                  (∀ d : DeckId, (d.val < n ↔ (d.val : Int) < v) →
                    t.decks[d] = s.decks[d] ∧ t.front[d] = s.front[d]) ∧
                  (∀ d : DeckId, ¬(d.val < n ↔ (d.val : Int) < v) →
                    t.deckMode d = .settling ∧ t.decks[d].window = [] ∧ t.decks[d].zeroOffset = 0 ∧
                    t.decks[d].zeroSet = false ∧ t.decks[d].pendingZero = none ∧
                    t.decks[d].motionCount = 0 ∧ historyMembers t.decks[d] = [(.settling, 1)] ∧
                    t.front[d].budget = s.front[d].budget ∧ ∀ c : CellId,
                      t.front[d].cells[c].latest = none ∧ t.front[d].cells[c].shunt = false ∧
                      t.front[d].cells[c].tally = s.front[d].cells[c].tally) ∧
                  (∀ j : Boundary, (j.val ≤ n ↔ (j.val : Int) ≤ v) →
                    t.axle.pairs[j] = s.axle.pairs[j]) ∧
                  (∀ j : Boundary, n < j.val → (j.val : Int) ≤ v → t.axle.pairs[j] =
                    { s.axle.pairs[j] with
                      decoder := none, start := .unknown, stuckU := false, stuckD := false
                      blockedU := 0, blockedD := 0, persist := some 0 }) ∧
                  (∀ j : Boundary, j.val ≤ n → v < (j.val : Int) →
                    t.axle.pairs[j] = { s.axle.pairs[j] with persist := none })) ∧
                (i ≠ .decks → t.axle = s.axle) ∧
                (i = .window ∨ i = .stabBand ∨ i = .emptyBand → ∀ d : DeckId, d.val < n →
                  t.decks[d].window = [] ∧ t.decks[d].reference = none ∧
                  t.decks[d].settledRun = 0 ∧ t.decks[d].overRun = 0 ∧ t.decks[d].underRun = 0 ∧
                  t.decks[d].zeroOffset = s.decks[d].zeroOffset ∧
                  t.deckMode d = if isFaultMode (s.deckMode d) then s.deckMode d else .settling) ∧
                (∀ d : DeckId, d.val < n →
                  i = .interval ∨ i = .maxD d ∨ (∃ c, i = .zero d c ∨ i = .factor d c) →
                  t.decks[d] = { s.decks[d] with
                    zeroOffset := 0, zeroSet := false, powerUpSpent := false, zeroLimit := false
                    pendingZero := none }) ∧
                (∀ d : DeckId, i ≠ .decks → i ≠ .window → i ≠ .stabBand → i ≠ .emptyBand →
                  i ≠ .interval → i ≠ .maxD d → (∀ c, i ≠ .zero d c ∧ i ≠ .factor d c) →
                  t.decks[d] = s.decks[d]) ∧
                (i ≠ .decks → ∀ d : DeckId, t.front[d] = { s.front[d] with
                  budget := if i = .threshold then min s.front[d].budget v.toNat
                    else s.front[d].budget }))))))

/-- SET_LEGAL of several parameters, made together: the changes are numbered and logged in the order
listed, e's with its TARE_TABLE_CLEARED, then one STATUS_CHANGE for each deck made UNVERIFIED, in deck
order; results of the decks affected are superseded; writes that are all unchanged change nothing at all, the
counter within its range (R150; StepKeepsLog states that every step keeps it so).
SET_CELL_FACTOR is the SET_LEGAL of the cell's k and z, of which both, one or none may be a change.
That T is 0 and the zero not set with the write itself is the model's reading (notes/assumptions/24.md),
the deck order its choice (notes/assumptions/56.md), as are the room for entries near the end of the
sequence numbers (notes/assumptions/2.md) and the order of the unchanged writes in the reply
(notes/assumptions/72.md). -/
def Obligations.LegalWritesOfSeveral : Prop :=
  (∀ (h : Header) (ws : List (ParamId × Int)) (s : State),
    let l := ws.map fun w => (⟨some w.1, w.2⟩ : LegalWrite)
    let p := ws.foldl (fun p w => setLegalValue p w.1 w.2) s.legal
    Passes (withWrites h l) .setLegal s → s.sessionOpen = true → s.metro.switch = .opened →
    s.operation = none → (ws.map fun w => w.1).Nodup → (∀ w ∈ ws, legalRange w.1 w.2 = true) →
    resultingSetOk s.legal p = true →
    let cs := ws.filter fun w => w.2 ≠ legalValue s.legal w.1
    let same := ws.filter fun w => w.2 = legalValue s.legal w.1
    let now : Stamp := ⟨s.clock.day, s.clock.sec⟩
    let affected := fun d : DeckId => cs.any fun w => (decksAffected w.1).contains d
    let lowered := (List.finRange 4).filter fun d => affected d && s.deckStatus d != .unverified
    let entries : List (LogKind × Nat × Option DeckId) :=
      (cs.zipIdx.flatMap fun x =>
        (.paramChange x.1.1 (legalValue s.legal x.1.1) x.1.2, s.metro.cal + x.2 + 1,
          paramDeck x.1.1) ::
        (if x.1.1 = .interval then
          [(.tareTableCleared s.visit.tares.length, s.metro.cal + x.2 + 1, none)] else [])) ++
      lowered.map fun d => (.statusChange (s.deckStatus d) .unverified .legalChange,
        s.metro.cal + cs.length, some d)
    (cs = [] → s.metro.cal ≤ 65535 → exec (.setLegal h l) s =
      .next ((s.received h).sent h 0x54#8 .accepted
        (.changes [] (ws.map fun w => w.1) s.metro.cal))) ∧
    (cs ≠ [] →
      (∀ w ∈ cs, asksVisits w.1 = true → ∀ x ∈ s.visit.visits, isLive x = false) →
      s.metro.cal + cs.length ≤ 65535 → entries.length ≤ logRoom s.metro →
      ∃ t : State, exec (.setLegal h l) s = .next (t.sent h 0x54#8 .accepted (.changes
          (cs.zipIdx.map fun x => (x.1.1, x.1.2, s.metro.cal + x.2 + 1))
          (same.map fun w => w.1) (s.metro.cal + cs.length))) ∧
        t.metro.legal = p ∧ t.metro.cal = s.metro.cal + cs.length ∧
        t.metro.check = Config.legalCheck p (s.metro.cal + cs.length) ∧
        t.metro.log = s.metro.log ++ entries.zipIdx.map (fun x =>
          ⟨s.metro.nextSeq + x.2, now, x.1.1, x.1.2.1, x.1.2.2⟩) ∧
        t.metro.nextSeq = s.metro.nextSeq + entries.length ∧ t.metro.lost = s.metro.lost ∧
        (∀ d : DeckId, t.deckStatus d =
          if affected d then .unverified else s.deckStatus d) ∧
        (∀ r, s.metro.session = some r → t.metro.session.map (fun x => x.results) =
          some (r.results.map fun x =>
            if affected x.deck then { x with superseded := true } else x)) ∧
        ((∃ w ∈ cs, w.1 = .interval) →
          t.visit.visits = [] ∧ t.visit.tares = [] ∧ t.watch.armed = []) ∧
        ((∀ w ∈ cs, w.1 ≠ .interval) → t.visit = s.visit) ∧ t.ticket = s.ticket)) ∧
  (∀ (h : Header) (d : DeckId) (c : CellId) (k z : Int) (s : State), Passes h .setCellFactor s →
    s.sessionOpen = true → s.metro.switch = .opened → s.operation = none →
    100 ≤ k ∧ k ≤ 100000 → -8388607 ≤ z ∧ z ≤ 8388607 → consistentSet s.legal = true →
    let cs := [(ParamId.factor d c, k), (.zero d c, z)].filter fun w => w.2 ≠ legalValue s.legal w.1
    let same := [(ParamId.factor d c, k), (.zero d c, z)].filter fun w =>
      w.2 = legalValue s.legal w.1
    (cs = [] → s.metro.cal ≤ 65535 → exec (.setCellFactor h (4 * d.val + c.val + 1) k z) s =
      .next ((s.received h).sent h 0x55#8 .accepted
        (.changes [] (same.map fun w => w.1) s.metro.cal))) ∧
    (cs ≠ [] → s.metro.cal + cs.length ≤ 65535 →
      cs.length + (if s.deckStatus d = .unverified then 0 else 1) ≤ logRoom s.metro →
      ∃ t : State, exec (.setCellFactor h (4 * d.val + c.val + 1) k z) s =
          .next (t.sent h 0x55#8 .accepted (.changes
            (cs.zipIdx.map fun x => (x.1.1, x.1.2, s.metro.cal + x.2 + 1))
            (same.map fun w => w.1) (s.metro.cal + cs.length))) ∧
        t.metro.legal = setLegalValue (setLegalValue s.legal (.factor d c) k) (.zero d c) z ∧
        t.metro.cal = s.metro.cal + cs.length ∧ t.deckStatus d = .unverified ∧
        (∀ e : DeckId, e ≠ d → t.deckStatus e = s.deckStatus e) ∧
        (d.val < deckCount s.legal → t.decks[d].zeroOffset = 0 ∧ t.decks[d].zeroSet = false ∧
          t.decks[d].powerUpSpent = false ∧ t.decks[d].pendingZero = none) ∧
        (∀ e : DeckId, e ≠ d → t.decks[e] = s.decks[e]) ∧ t.visit = s.visit ∧
        t.ticket = s.ticket)) ∧
  (∀ (h : Header) (n : Nat) (k z : Int) (s : State), Passes h .setCellFactor s →
    s.sessionOpen = true → s.metro.switch = .opened → s.operation = none →
    n = 0 ∨ 16 < n ∨ ¬(100 ≤ k ∧ k ≤ 100000) ∨ ¬(-8388607 ≤ z ∧ z ≤ 8388607) →
    exec (.setCellFactor h n k z) s =
      .next ((s.received h).refusedWith h 0x55#8 .badField .none))

/-- The session operations: each is PENDING when its tests pass and its deck is ready; it reserves its
entries, and TEST_ZERO, TEST_LOAD, ADJUST_ZERO and ADJUST_SPAN start a test capture over the window C
in force, RECORD_SHUNT_REF a measurement under a shunt hold.
The room for entries near the end of the sequence numbers is the model's choice (notes/assumptions/2.md),
as is that decks 1 to 4 may be named while N lies outside its range (notes/assumptions/64.md). -/
def Obligations.SessionOperationsStart : Prop :=
  ∀ (h : Header) (d : DeckId) (r : Session) (s : State), d.val < deckCount s.legal →
    s.metro.session = some r → r.isOpen = true → r.op = none →
    s.decks[d].hold = false →
    let reserve := if s.deckStatus d = .unverified then 4 else 5
    let starts := fun (code : Byte) (i : Instr) (k : OpKind) (n : Nat) =>
      ∃ t : State, exec i s = .next (t.sent h code .pending .none) ∧
        t.operation = some ⟨k, d, n, some ⟨s.order.window, 0, 0, vrep 4 0⟩⟩ ∧
        t.decks = s.decks ∧ t.metro.legal = s.metro.legal ∧ t.metro.log = s.metro.log ∧
        t.metro.decks = s.metro.decks ∧ t.front = s.front ∧ t.axle = s.axle ∧
        t.order = s.order ∧ t.visit = s.visit ∧ t.ticket = s.ticket
    (Passes h .testZero s → r.results.length < 24 → 1 ≤ logRoom s.metro →
      s.decks[d].mode = .empty → s.decks[d].zeroSet = true →
      starts 0x56#8 (.testZero h (d.val + 1)) .testZero 1) ∧
    (∀ (ref : Nat) (pos : Position), Passes h .testLoad s → r.results.length < 24 →
      1 ≤ logRoom s.metro → 1 ≤ ref → (ref : Int) ≤ s.legal.maxD[d] →
      s.decks[d].mode = .steady → s.decks[d].zeroSet = true →
      starts 0x57#8 (.testLoad h (d.val + 1) ref (some pos)) (.testLoad ref pos) 1) ∧
    (Passes h .adjustZero s → s.metro.switch = .opened → s.metro.cal + 4 ≤ 65535 →
      reserve ≤ logRoom s.metro → s.decks[d].mode = .empty →
      starts 0x58#8 (.adjustZero h (d.val + 1)) .adjustZero reserve) ∧
    (∀ ref : Nat, Passes h .adjustSpan s → s.metro.switch = .opened → s.metro.cal + 4 ≤ 65535 →
      reserve ≤ logRoom s.metro → s.legal.maxD[d] ≤ (ref : Int) * 10 →
      s.decks[d].mode = .steady → s.decks[d].zeroSet = true →
      starts 0x59#8 (.adjustSpan h (d.val + 1) ref) (.adjustSpan ref) reserve) ∧
    (Passes h .recordShuntRef s → s.metro.switch = .opened → s.metro.cal + 4 ≤ 65535 →
      reserve ≤ logRoom s.metro → s.decks[d].mode = .empty →
      ∃ t : State, exec (.recordShuntRef h (d.val + 1)) s =
          .next (t.sent h 0x5A#8 .pending .none) ∧
        t.operation = some ⟨.recordShuntRef, d, reserve, none⟩ ∧
        t.decks = s.decks.set d { s.decks[d] with hold := true } ∧
        t.metro.decks[d].run = some ⟨true, 0, .measureOff, 0, 0, 0, []⟩ ∧
        t.metro.legal = s.metro.legal ∧ t.metro.log = s.metro.log ∧ t.front = s.front)

/-- The session operations: their tests in their order, with the refusal of the first that fails, and for
a deck that is not ready its cause; CERTIFY_DECK refuses by the same first tests.
That a deck under a shunt hold is named MOTION, and that a deck in the wrong settled state is named
NOT_EMPTY or NOT_LOADED also when its zero is not set, is the model's choice (notes/assumptions/36.md), as
are the room for entries near the end of the sequence numbers (notes/assumptions/2.md) and that decks 1 to
4 may be named while N lies outside its range (notes/assumptions/64.md). -/
def Obligations.SessionOperationsRefuse : Prop :=
  (∀ (h : Header) (n : Nat) (k : OpKind) (i : Instr) (code : Byte) (q : ReqKind) (s : State),
    (k = .testZero ∧ i = .testZero h n ∧ code = 0x56#8 ∧ q = .testZero) ∨
      (∃ ref pos, k = .testLoad ref pos ∧ i = .testLoad h n ref (some pos) ∧ code = 0x57#8 ∧
        q = .testLoad) ∨
      (k = .adjustZero ∧ i = .adjustZero h n ∧ code = 0x58#8 ∧ q = .adjustZero) ∨
      (∃ ref, k = .adjustSpan ref ∧ i = .adjustSpan h n ref ∧ code = 0x59#8 ∧ q = .adjustSpan) ∨
      (k = .recordShuntRef ∧ i = .recordShuntRef h n ∧ code = 0x5A#8 ∧ q = .recordShuntRef) →
    Passes h q s →
    let refused := fun (c : Status) (r : Result) =>
      exec i s = .next ((s.received h).refusedWith h code c r)
    let tests : Bool := match k with
      | .testZero | .testLoad _ _ => true
      | .adjustZero | .adjustSpan _ | .recordShuntRef => false
    let wantsEmpty := k = .testZero ∨ k = .adjustZero ∨ k = .recordShuntRef
    let wantsZero := tests ∨ ∃ ref, k = .adjustSpan ref
    let fields := fun d : DeckId => n = d.val + 1 ∧ d.val < deckCount s.legal ∧
      (∀ ref pos, k = .testLoad ref pos → 1 ≤ ref ∧ (ref : Int) ≤ s.legal.maxD[d]) ∧
      (∀ ref, k = .adjustSpan ref → s.legal.maxD[d] ≤ (ref : Int) * 10)
    (s.sessionOpen = false → refused .noSession .none) ∧
    (s.sessionOpen = true → s.operation ≠ none → refused .busy .none) ∧
    (s.sessionOpen = true → s.operation = none → (∀ d, ¬fields d) → refused .badField .none) ∧
    (∀ (d : DeckId) (r : Session), s.metro.session = some r → r.isOpen = true → r.op = none →
      fields d →
      let reserve := if tests then 1 else if s.deckStatus d = .unverified then 4 else 5
      let x := s.decks[d]
      (¬tests → s.metro.switch = .shut → refused .isProtected .none) ∧
      (tests → 24 ≤ r.results.length → refused .full .none) ∧
      (¬tests → s.metro.switch = .opened → 65535 < s.metro.cal + 4 →
        refused .counterEnd .none) ∧
      ((tests ∧ r.results.length < 24) ∨
          (¬tests ∧ s.metro.switch = .opened ∧ s.metro.cal + 4 ≤ 65535) →
        (logRoom s.metro < reserve → refused .logFull .none) ∧
        (reserve ≤ logRoom s.metro →
          (x.mode = .noSignal ∨ x.mode = .overload ∨ x.mode = .underload →
            refused .notReady (.notReady .deckFault)) ∧
          (x.mode = .noise → refused .notReady (.notReady .noise)) ∧
          (x.mode = .settling ∨ x.mode = .motion → refused .notReady (.notReady .motion)) ∧
          (x.mode = .empty ∨ x.mode = .steady → x.hold = true →
            refused .notReady (.notReady .motion)) ∧
          (x.mode = .steady → x.hold = false → wantsEmpty →
            refused .notReady (.notReady .notEmpty)) ∧
          (x.mode = .empty → x.hold = false → ¬wantsEmpty →
            refused .notReady (.notReady .notLoaded)) ∧
          ((x.mode = .empty ∧ wantsEmpty) ∨ (x.mode = .steady ∧ ¬wantsEmpty) → x.hold = false →
            wantsZero → x.zeroSet = false → refused .notReady (.notReady .zeroNotSet)))))) ∧
  (∀ (h : Header) (n ref : Nat) (s : State), Passes h .testLoad s → s.sessionOpen = true →
    s.operation = none →
    exec (.testLoad h n ref none) s =
      .next ((s.received h).refusedWith h 0x57#8 .badField .none)) ∧
  (∀ (h : Header) (n : Nat) (s : State), Passes h .certifyDeck s →
    (s.sessionOpen = false → exec (.certifyDeck h n) s =
      .next ((s.received h).refusedWith h 0x5B#8 .noSession .none)) ∧
    (s.sessionOpen = true → s.operation ≠ none → exec (.certifyDeck h n) s =
      .next ((s.received h).refusedWith h 0x5B#8 .busy .none)) ∧
    (s.sessionOpen = true → s.operation = none →
      (∀ d : DeckId, n = d.val + 1 → d.val < deckCount s.legal →
        ∃ i ∈ certifyParams d, inRange s.legal i = false) →
      exec (.certifyDeck h n) s = .next ((s.received h).refusedWith h 0x5B#8 .badField .none)))

/-- CERTIFY_DECK: with the switch PROTECTED, the parameters in range, two free entries and the
requirements met, the deck becomes VERIFIED today with its budget at the threshold, in one step with
its CERTIFY and STATUS_CHANGE entries; the first requirement missing is named.
That the results relied on are all that are not superseded is the model's reading
(notes/assumptions/38.md); its choices are the room for entries near the end of the sequence numbers
(notes/assumptions/2.md) and that decks 1 to 4 may be named while N lies outside its range
(notes/assumptions/64.md). -/
def Obligations.CertifyDeckVerifies : Prop :=
  ∀ (h : Header) (d : DeckId) (r : Session) (s : State), Passes h .certifyDeck s →
    s.metro.session = some r → r.isOpen = true → r.op = none → d.val < deckCount s.legal →
    (∀ i ∈ certifyParams d, inRange s.legal i = true) →
    let current := r.results.filter fun x => x.deck = d ∧ x.superseded = false
    let fails := ∃ x ∈ current, x.pass = false
    let zeroed := ∃ x ∈ current, x.kind = .zero ∧ x.pass = true
    let loaded := ∃ x ∈ current, ∃ y ∈ current, ∃ m n, m ≠ n ∧ x.pass = true ∧ y.pass = true ∧
      x.kind = .load m .centre ∧ y.kind = .load n .centre
    let refused := fun (c : Status) (x : Result) =>
      exec (.certifyDeck h (d.val + 1)) s = .next ((s.received h).refusedWith h 0x5B#8 c x)
    (s.metro.switch = .opened → refused .wrongState .none) ∧
    (s.metro.switch = .shut → logRoom s.metro < 2 → refused .logFull .none) ∧
    (s.metro.switch = .shut → 2 ≤ logRoom s.metro →
      (fails → refused .requirements (.requirement .failPresent)) ∧
      (¬fails → ¬zeroed → refused .requirements (.requirement .zeroTest)) ∧
      (¬fails → zeroed → ¬loaded → refused .requirements (.requirement .loadTests)) ∧
      (¬fails → zeroed → loaded →
        ∃ t : State, exec (.certifyDeck h (d.val + 1)) s =
            .next (t.sent h 0x5B#8 .accepted .none) ∧
          t.deckStatus d = .verified ∧ t.metro.decks[d].lastVerified = some s.clock.day ∧
          (t.front[d].budget : Int) = s.legal.threshold ∧
          (∀ e : DeckId, e ≠ d → t.metro.decks[e] = s.metro.decks[e] ∧
            t.front[e] = s.front[e]) ∧
          t.metro.cal = s.metro.cal ∧ t.metro.legal = s.metro.legal ∧ t.decks = s.decks ∧
          (t.metro.log = s.metro.log ++
            [⟨s.metro.nextSeq, ⟨s.clock.day, s.clock.sec⟩, .certify (current.map fun x => x.number),
              s.metro.cal, some d⟩] ++
            (if s.deckStatus d = .verified then [] else
              [⟨s.metro.nextSeq + 1, ⟨s.clock.day, s.clock.sec⟩,
                .statusChange (s.deckStatus d) .verified .certify, s.metro.cal, some d⟩]))))

/-- RELEASE_LOG frees the entries up to the number carried and reduces the two counts; SET_CLOCK sets
the clock and logs the old and new time, without budget gain or DUE test, and notes a time at the day's
end that it replaces.
That the second starts anew is the model's choice (notes/assumptions/23.md), as is how a rollover due from
the time replaced is known (notes/assumptions/59.md).
The room for entries near the end of the sequence numbers is the model's choice
(notes/assumptions/2.md). -/
def Obligations.ReleaseLogAndSetClock : Prop :=
  (∀ (h : Header) (seq lost rejected : Nat) (s : State), Passes h .releaseLog s →
    (s.metro.nextSeq ≤ seq → exec (.releaseLog h seq lost rejected) s =
      .next ((s.received h).refusedWith h 0x5E#8 .badField .none)) ∧
    (seq < s.metro.nextSeq → ∃ freed free, exec (.releaseLog h seq lost rejected) s =
        .next (((s.received h).setMetro fun m =>
          { m with
            log := m.log.filter fun e => seq < e.seq
            lost := if m.lost < lost then 0 else m.lost - lost
            rejected := if m.rejected < rejected then 0 else m.rejected - rejected }).sent h 0x5E#8
              .accepted (.logReleased freed free)) ∧
      freed = (s.metro.log.filter fun e => e.seq ≤ seq).length ∧
      free = if s.metro.nextSeq < 4294967295 then
        256 - (s.metro.log.length - freed) - reservedEntries s.metro else 0)) ∧
  (∀ (h : Header) (day sec : Nat) (s : State), Passes h .setClock s →
    (65535 < day ∨ 86399 < sec → exec (.setClock h day sec) s =
      .next ((s.received h).refusedWith h 0x61#8 .badField .none)) ∧
    (day ≤ 65535 → sec ≤ 86399 → logRoom s.metro = 0 → exec (.setClock h day sec) s =
      .next ((s.received h).refusedWith h 0x61#8 .logFull .none)) ∧
    (day ≤ 65535 → sec ≤ 86399 → 0 < logRoom s.metro →
      ∃ t : State, exec (.setClock h day sec) s =
          .next (t.sent h 0x61#8 .accepted (.oldTime ⟨s.clock.day, s.clock.sec⟩)) ∧
        t.clock = { s.clock with
          day := day
          sec := sec
          ms := 0
          lost := false
          replaced := s.clock.replaced || decide (86399 ≤ s.clock.sec) } ∧ t.front = s.front ∧
        t.metro.decks = s.metro.decks ∧ t.metro.nextSeq = s.metro.nextSeq + 1 ∧
        (∃ e, t.metro.log = s.metro.log ++ [e] ∧ e.seq = s.metro.nextSeq ∧
          e.kind = .clockSet ⟨s.clock.day, s.clock.sec⟩ ⟨day, sec⟩) ∧
        t.decks = s.decks ∧ t.order = s.order ∧ t.visit = s.visit ∧ t.ticket = s.ticket))

/-! ### Samples of a deck -/

/-- A sample reaches the cell front end of its deck: the channel's latest sample and condition, the
tallies, the budget and the validity of the record; cell errors that bring the budget from above 0 to 0 make
a VERIFIED or DUE deck SUSPECT with its STATUS_CHANGE entry, or one counted as lost, and raise the METROLOGY
event of a downgrade with the statuses before and after; an invalid record makes the deck NOSIGNAL with an
empty window, and a valid, unshunted one gives G by R14 and W = G − T. Without a capture, an operation or
a measurement in flight, under a VALID map, the rest stands as it was.
The room for the entry near the end of the sequence numbers, by which it is appended or counted as lost, is the
model's choice (notes/assumptions/2.md). -/
def Obligations.SamplesReachTheDeck : Prop :=
  ∀ (d : DeckId) (conv : Conversion) (s : State), s.power = .running →
    d.val < deckCount s.legal →
    let p := s.legal
    let bad := fun i : CellId =>
      conv.sense[i] = false ∨ conv.raw[i] = -8388608 ∨ conv.raw[i] = 8388607
    let errors := ((List.finRange 4).filter fun i => decide (bad i)).length
    let clean := errors = 0 ∧ deckParamsBad p d = false
    let shunted := ∃ i : CellId, s.front[d].cells[i].shunt = true
    let sum := ((List.finRange 4).map fun i : CellId =>
      (conv.raw[i] - p.zero[d][i]) * p.factor[d][i]).sum
    ∃ t, exec (.deckSample d conv) s = .next t ∧
      (∀ i : CellId,
        t.front[d].cells[i].latest = some (conv.raw[i],
          if conv.sense[i] = false then .noExcitation
          else if conv.raw[i] = -8388608 ∨ conv.raw[i] = 8388607 then .saturated else .ok) ∧
        t.front[d].cells[i].tally = if bad i then min 65535 (s.front[d].cells[i].tally + 1)
          else s.front[d].cells[i].tally) ∧
      t.front[d].budget = s.front[d].budget - errors ∧
      t.front[d].lastValid = some (decide clean) ∧
      (∀ e : DeckId, e ≠ d → t.front[e].budget = s.front[e].budget ∧
        t.front[e].lastValid = s.front[e].lastValid ∧
        ∀ i : CellId, t.front[e].cells[i].latest = s.front[e].cells[i].latest ∧
          t.front[e].cells[i].tally = s.front[e].cells[i].tally) ∧
      (0 < errors →
        let falls := 0 < s.front[d].budget ∧ s.front[d].budget ≤ errors
        let before := s.deckStatus d
        let after := if before = .verified ∨ before = .due then VStatus.suspect else before
        t.deckStatus d = (if falls then after else before) ∧
        (falls → before ≠ after →
          (0 < logRoom s.metro → t.metro.lost = s.metro.lost ∧ t.metro.log = s.metro.log ++
            [⟨s.metro.nextSeq, ⟨s.clock.day, s.clock.sec⟩, .statusChange before after .budget,
              s.metro.cal, some d⟩]) ∧
          (logRoom s.metro = 0 → t.metro.log = s.metro.log ∧
            t.metro.lost = min 65535 (s.metro.lost + 1))) ∧
        (¬falls ∨ before = after → t.metro.log = s.metro.log ∧ t.metro.lost = s.metro.lost) ∧
        (s.operation = none → ∀ x, (t.portState x).events[(6 : Fin 9)] =
          if falls then withEvent (.downgradeReport .budget d before after) s
            (s.portState x).events[(6 : Fin 9)]
          else (s.portState x).events[(6 : Fin 9)])) ∧
      (¬clean → t.deckMode d = .noSignal ∧ t.decks[d].window = [] ∧
        t.decks[d].gross = s.decks[d].gross) ∧
      (clean → shunted → t.decks[d].gross = s.decks[d].gross) ∧
      (clean → ¬shunted → s.decks[d].hold = false →
        ∃ g : Int, t.decks[d].gross = some (g - s.decks[d].zeroOffset) ∧
          (0 ≤ sum → 2000 * g ≤ 2 * sum + 1000 ∧ 2 * sum + 1000 < 2000 * g + 2000) ∧
          (sum < 0 → 2000 * -g ≤ 2 * -sum + 1000 ∧ 2 * -sum + 1000 < 2000 * -g + 2000)) ∧
      (s.order.engine = none → s.operation = none → s.metro.decks[d].run = none →
        s.axle.map.valid = true →
        t.axle = s.axle ∧ t.check = s.check ∧ t.visit = s.visit ∧ t.ticket = s.ticket ∧
        t.watch = s.watch ∧ t.clock = s.clock ∧ t.order.staged = s.order.staged ∧
        t.order.stops = s.order.stops ∧ t.metro.legal = s.metro.legal ∧
        t.metro.cal = s.metro.cal ∧ t.metro.session = s.metro.session ∧
        (∀ e : DeckId, e ≠ d → t.decks[e] = s.decks[e] ∧ t.deckStatus e = s.deckStatus e) ∧
        ∀ (e : DeckId) (i : CellId),
          t.front[e].cells[i].shunt = s.front[e].cells[i].shunt)

/-- The classification of a valid, unshunted sample with raw mass `g` (R20, R23 to R27): the window
takes it, and each deck state goes where its rows of the table of transitions say. The motion-entry count
rises with each loss of a settled state, is set to 0 when the deck settles from SETTLING or NOISE and when
the settled run reaches S, and stands otherwise. An invalid sample makes the deck NOSIGNAL and empties its
window, runs and reference level (R22). Each entry to a state, and nothing else, raises the entry number and
marks the state with it in the history set; an entry to EMPTY or STEADY becomes the last settled state; an
entry to NOSIGNAL, OVERLOAD, UNDERLOAD or NOISE raises a DECK event with the deck and the state. -/
def Obligations.SamplesClassifyTheDeck : Prop :=
  let entered := fun (d : DeckId) (m : DeckMode) (k x : Deck) (s t : State) =>
    x.entryNumber = (if m = k.mode then k.entryNumber else k.entryNumber + 1) ∧
    x.history = (if m = k.mode then k.history
      else k.history.set (modeNumber m) (some (k.entryNumber + 1))) ∧
    x.lastSettled = (if m ≠ k.mode ∧ isSettled m = true then some m else k.lastSettled) ∧
    ∀ q, (t.portState q).events[(0 : Fin 9)] =
      if m ≠ k.mode ∧ (isFaultMode m = true ∨ m = .noise) then
        withEvent (.deckEntered d m) s (s.portState q).events[(0 : Fin 9)]
      else (s.portState q).events[(0 : Fin 9)]
  (∀ (d : DeckId) (conv : Conversion) (g : Int) (s : State), s.power = .running →
    d.val < deckCount s.legal → recordOf s.legal d s.front[d] conv = .valid g →
    s.decks[d].hold = false → s.operation = none → s.metro.decks[d].run = none →
    (s.decks[d].window.length : Int) ≤ s.legal.window →
    let p := s.legal
    let k := s.decks[d]
    let w := g - k.zeroOffset
    let win := (k.window ++ [g]).drop (k.window.length + 1 - p.window.toNat)
    let isOver := (p.maxD[d] + 9 * p.interval) * 1000 < w
    let isUnder := w < -(20 * p.interval * 1000)
    let overloads := isOver ∧ 1 ≤ k.overRun
    let underloads := isUnder ∧ p.window ≤ k.underRun + 1
    let band := p.stabBand * p.interval * 1000
    ∃ t, exec (.deckSample d conv) s = .next t ∧ t.decks[d].window = win ∧
      let m := t.deckMode d
      let x := t.decks[d]
      (k.mode = .noSignal → m = if p.window ≤ win.length then .settling else .noSignal) ∧
      (k.mode = .overload → m = if isOver then .overload else .settling) ∧
      (k.mode = .underload → m = if isUnder then .underload else .settling) ∧
      (isFaultMode k.mode = true → x.motionCount = k.motionCount) ∧
      (isFaultMode k.mode = false → overloads → m = .overload) ∧
      (isFaultMode k.mode = false → ¬overloads → underloads → m = .underload) ∧
      (isFaultMode k.mode = false → overloads ∨ underloads →
        x.reference = none ∧ x.settledRun = 0 ∧ x.motionCount = k.motionCount) ∧
      (isFaultMode k.mode = false → ¬overloads → ¬underloads →
        (isSettled k.mode = true → ∀ ref, k.reference = some ref →
          (p.window * band < ((p.window * g - ref).natAbs : Int) →
            m = (if 15 ≤ k.motionCount then .noise else .motion) ∧
            x.motionCount = min 16 (k.motionCount + 1) ∧ x.reference = none ∧ x.settledRun = 0) ∧
          (((p.window * g - ref).natAbs : Int) ≤ p.window * band →
            isSettled m = true ∧ x.reference = some ref ∧
            x.settledRun = min p.window.toNat (k.settledRun + 1) ∧
            x.motionCount = if p.window ≤ k.settledRun + 1 then 0 else k.motionCount)) ∧
        (isSettled k.mode = false →
          (p.window ≤ win.length ∧ (∀ a ∈ win, ∀ b ∈ win, a - b ≤ band) →
            m = (if ((win.sum - p.window * x.zeroOffset).natAbs : Int) ≤
                p.window * (p.emptyBand * p.interval * 1000) then .empty else .steady) ∧
            x.reference = some win.sum ∧ x.settledRun = 1 ∧
            x.motionCount = if k.mode = .motion then k.motionCount else 0) ∧
          (¬(p.window ≤ win.length ∧ ∀ a ∈ win, ∀ b ∈ win, a - b ≤ band) →
            m = k.mode ∧ x.motionCount = k.motionCount))) ∧
      (m ≠ k.mode → x.history[modeNumber m] = some x.entryNumber) ∧
      (k.powerUpSpent = true → k.pendingZero = none → k.trackRun < 99 → entered d m k x s t)) ∧
  (∀ (d : DeckId) (conv : Conversion) (s : State), s.power = .running →
    d.val < deckCount s.legal → recordOf s.legal d s.front[d] conv = .invalid →
    s.decks[d].hold = false → s.metro.decks[d].run = none → s.decks[d].pendingZero = none →
    let k := s.decks[d]
    ∃ t, exec (.deckSample d conv) s = .next t ∧
      let x := t.decks[d]
      x = { k with
        mode := .noSignal, window := [], reference := none, overRun := 0, underRun := 0
        settledRun := 0, trackRun := 0, entryNumber := x.entryNumber, history := x.history } ∧
      entered d .noSignal k x s t)

/-- ZERO_DEADLINE_EXPIRED: the sample that brings a pending ZERO's deadline to 0 ends it with MOTION and
leaves T: an invalid sample, one under a shunt hold, and one whose deck is not clear of axles, not settled,
or in a capture; on such a sample with more time left the deadline falls by 1.
A pending ZERO on a settled deck clear of axles takes the settled G as T, or ends with ZERO_RANGE and leaves
T; the power-up zero, tried once, adds the settled gross to T or ends with ZERO_RANGE; the deck whose T was
taken is EMPTY or STEADY by its new T. ZERO_TRACKING_MOVE: the 100th qualifying sample makes T its G, or,
outside the zero range, leaves T, sets zero limit reached and lowers a VERIFIED or DUE deck to SUSPECT.
Each is the deck's sample; a sample that brings its step not about is without effect.
That last clause is the model's choice (notes/assumptions/15.md), as are that the ZERO's event follows the
deck's entry to another state of the same sample (notes/assumptions/37.md), that the settled values divide
by S while a window refills after a shunt hold (notes/assumptions/26.md), and that a zero equal to the T in
force is followed by the reclassification too (notes/assumptions/60.md). -/
def Obligations.ZeroStepsOfASample : Prop :=
  ∀ (d : DeckId) (conv : Conversion) (s : State), s.power = .running →
    d.val < deckCount s.legal → (s.decks[d].window.length : Int) ≤ s.legal.window →
    let k := s.decks[d]
    let win := fun g : Int => (k.window ++ [g]).drop (k.window.length + 1 - s.legal.window.toNat)
    let band := s.legal.stabBand * s.legal.interval * 1000
    let settles := fun g : Int => s.legal.window ≤ (win g).length ∧
      ∀ a ∈ win g, ∀ b ∈ win g, a - b ≤ band
    (∀ n, k.pendingZero = some n → n ≤ 1 → recordOf s.legal d s.front[d] conv = .invalid →
      ∃ t, exec (.zeroDeadlineExpired d conv) s = .next t ∧
        exec (.deckSample d conv) s = .next t ∧ t.decks[d].pendingZero = none ∧
        t.decks[d].zeroOffset = k.zeroOffset ∧ t.decks[d].zeroSet = k.zeroSet ∧
        t.deckMode d = .noSignal ∧
        ∀ q, (t.portState q).events[(0 : Fin 9)].latest =
          some (.deckZero d .motion, ⟨s.clock.day, s.clock.sec⟩)) ∧
    ((∀ n, k.pendingZero = some n → 2 ≤ n) →
      exec (.zeroDeadlineExpired d conv) s = .next s.drive) ∧
    (∀ n : Nat, k.pendingZero = some n → (∀ o, s.operation = some o → o.deck ≠ d) →
      let kept := fun t : State => t.decks[d].zeroOffset = k.zeroOffset ∧
        t.decks[d].zeroSet = k.zeroSet
      let waits := (2 ≤ n → ∃ t, exec (.deckSample d conv) s = .next t ∧
          t.decks[d].pendingZero = some (n - 1) ∧ kept t) ∧
        (n ≤ 1 → ∃ t, exec (.zeroDeadlineExpired d conv) s = .next t ∧
          exec (.deckSample d conv) s = .next t ∧ t.decks[d].pendingZero = none ∧ kept t ∧
          ∀ q, (t.portState q).events[(0 : Fin 9)].latest =
            some (.deckZero d .motion, ⟨s.clock.day, s.clock.sec⟩))
      (k.hold = true → recordOf s.legal d s.front[d] conv ≠ .invalid → waits) ∧
      (∀ g, k.hold = false → recordOf s.legal d s.front[d] conv = .valid g →
        clearOfAxles s d = false ∨ (s.order.engine ≠ none ∧ k.powerUpSpent = true) ∨
          (isSettled k.mode = false ∧ (isFaultMode k.mode = true ∨ ¬settles g)) → waits)) ∧
    (∀ g : Int, recordOf s.legal d s.front[d] conv = .valid g → k.hold = false →
      g - k.zeroOffset ≤ (s.legal.maxD[d] + 9 * s.legal.interval) * 1000 →
      -(20 * s.legal.interval * 1000) ≤ g - k.zeroOffset → clearOfAxles s d = true →
      s.order.engine = none → s.operation = none → s.metro.decks[d].run = none →
      k.trackRun < 99 →
      (isSettled k.mode = true ∧ ∃ ref, k.reference = some ref ∧
        ((s.legal.window * g - ref).natAbs : Int) ≤ s.legal.window * band) ∨
        (isSettled k.mode = false ∧ isFaultMode k.mode = false ∧ settles g) →
      let sum := (win g).sum
      let gross := roundDiv (sum - s.legal.window * k.zeroOffset) s.legal.window
      let raw := roundDiv sum s.legal.window
      let taken := fun (zero : Int) (t : State) => t.decks[d].zeroOffset = zero ∧
        t.decks[d].zeroSet = true ∧ t.decks[d].powerUpSpent = true ∧
        t.deckMode d = (if ((sum - s.legal.window * zero).natAbs : Int) ≤
          s.legal.window * (s.legal.emptyBand * s.legal.interval * 1000) then .empty else .steady)
      let reports := fun (c : ZeroCause) (t : State) =>
        ∀ q, (t.portState q).events[(0 : Fin 9)].latest =
          some (.deckZero d c, ⟨s.clock.day, s.clock.sec⟩)
      (k.powerUpSpent = true → k.pendingZero ≠ none → ∃ t,
        exec (.deckSample d conv) s = .next t ∧ t.decks[d].pendingZero = none ∧
        ((raw.natAbs : Int) ≤ s.legal.maxD[d] * 20 →
          taken raw t ∧ t.decks[d].zeroLimit = false ∧ reports .zeroSet t) ∧
        (s.legal.maxD[d] * 20 < (raw.natAbs : Int) → t.decks[d].zeroOffset = k.zeroOffset ∧
          t.decks[d].zeroSet = k.zeroSet ∧ reports .zeroRange t)) ∧
      (k.powerUpSpent = false → k.pendingZero = none → ∃ t,
        exec (.deckSample d conv) s = .next t ∧ t.decks[d].powerUpSpent = true ∧
        t.decks[d].zeroLimit = k.zeroLimit ∧
        ((gross.natAbs : Int) ≤ s.legal.maxD[d] * 100 →
          taken (k.zeroOffset + gross) t ∧ reports .zeroSet t) ∧
        (s.legal.maxD[d] * 100 < (gross.natAbs : Int) → t.decks[d].zeroOffset = k.zeroOffset ∧
          t.decks[d].zeroSet = k.zeroSet ∧ reports .zeroRange t))) ∧
    (∀ (g ref : Int), recordOf s.legal d s.front[d] conv = .valid g → k.hold = false →
      k.mode = .empty → k.zeroSet = true → k.powerUpSpent = true → k.pendingZero = none →
      k.trackRun = 99 → k.reference = some ref →
      ((s.legal.window * g - ref).natAbs : Int) ≤
        s.legal.window * (s.legal.stabBand * s.legal.interval * 1000) →
      clearOfAxles s d = true → s.order.engine = none → s.operation = none →
      s.metro.decks[d].run = none →
      ((g - k.zeroOffset).natAbs : Int) ≤ s.legal.interval * 500 →
      ∃ t, exec (.zeroTrackingMove d conv) s = .next t ∧ exec (.deckSample d conv) s = .next t ∧
        t.decks[d].trackRun = 0 ∧ t.decks[d].gross = some (g - k.zeroOffset) ∧
        ((g.natAbs : Int) ≤ s.legal.maxD[d] * 20 → t.decks[d].zeroOffset = g ∧
          t.decks[d].zeroLimit = false ∧ t.deckStatus d = s.deckStatus d) ∧
        (s.legal.maxD[d] * 20 < (g.natAbs : Int) → t.decks[d].zeroOffset = k.zeroOffset ∧
          t.decks[d].zeroLimit = true ∧ t.deckMode d = .empty ∧
          (k.zeroLimit = false → t.deckStatus d =
            if s.deckStatus d = .verified ∨ s.deckStatus d = .due then .suspect
            else s.deckStatus d) ∧
          (k.zeroLimit = true → t.deckStatus d = s.deckStatus d))) ∧
    (k.trackRun < 99 → exec (.zeroTrackingMove d conv) s = .next s.drive)

/-! ### Captures -/

/-- AUTO_CAPTURE_START: a sample of deck 1 that leaves the deck as it stood, with every condition met
and the condition run reaching the auto delay, starts a capture of the window C in force. None starts for
an order without its auto flag or in another state, for a survey without a crossing since its stop, with a
run that falls short, on a failing condition that the sample leaves failing, nor, with a delay above 1,
while a capture is in flight.
The condition run counts each test on deck 1's samples on which every condition holds, up to 500, and is set
to 0 by one on which a condition fails, and by a sample, a transition of a beam pair, a stuck beam, the switch
or the opening of a session that makes a condition fail.
A sample that does not end the window of an order capture adds the W that it gives to its deck's sum and 1 to
its count, until C; one that leaves the deck unsettled aborts the capture, with DECK_FAULT for a fault state
and MOTION otherwise. A test capture takes the samples of its deck, and is aborted, in the same way.
That a sample which starts none is then without effect is the model's choice
(notes/assumptions/15.md), as is that the conditions are tested before the sample's recovery of the map,
so that none starts on a sample that only then makes the map VALID (notes/assumptions/16.md), and that
the conditions read the present deck states (notes/assumptions/68.md). What counts as a notice, and that one
acts on the run of an order in WAITING or SURVEYING alone, is its reading (notes/assumptions/30.md). -/
def Obligations.AutoCaptureStarts : Prop :=
  (∀ (conv : Conversion) (g : Int) (a : ActiveOrder) (s : State), LeavesAtRest 0 conv g s →
    s.metro.decks[(0 : DeckId)].run = none → s.operation = none → s.order.engine = none →
    s.order.active = some a → a.order.auto = true →
    a.state = .waiting ∨ (a.state = .surveying ∧ s.order.crossingSince = true) →
    firstFailing s a.order = none → s.order.delay ≤ min 500 (s.order.condRun + 1) →
    ∃ t, exec (.autoCaptureStart conv) s = .next t ∧ exec (.deckSample 0 conv) s = .next t ∧
      t.order.engine =
        some ⟨s.order.window, s.axle.map.direction, a.state, vrep 4 0, vrep 4 0⟩ ∧
      t.order.active = some { a with state := .capturing } ∧
      t.order.condRun = min 500 (s.order.condRun + 1) ∧
      t.order.laneA = .stop ∧ t.order.laneB = .stop ∧ t.order.stops = s.order.stops ∧
      t.visit = s.visit ∧ t.ticket = s.ticket ∧ t.axle = s.axle ∧ t.check = s.check) ∧
  (∀ (conv : Conversion) (s : State), s.power = .running →
    (s.order.engine = none ∧ ((∀ a, s.order.active = some a → a.order.auto = false ∨
        (a.state ≠ .waiting ∧ (a.state ≠ .surveying ∨ s.order.crossingSince = false))) ∨
      min 500 (s.order.condRun + 1) < s.order.delay)) ∨
    (s.order.engine ≠ none ∧ 1 < s.order.delay) →
    exec (.autoCaptureStart conv) s = .next s.drive) ∧
  (∀ (conv : Conversion) (a : ActiveOrder) (c : NotReady) (s : State), s.power = .running →
    s.order.active = some a → firstFailing s a.order = some c → c ≠ .motion → c ≠ .noise →
    c ≠ .deckFault → c ≠ .zeroNotSet → c ≠ .loadWithoutAxle →
    s.order.engine = none → s.operation = none →
    exec (.autoCaptureStart conv) s = .next s.drive) ∧
  (∀ (conv : Conversion) (g : Int) (a : ActiveOrder) (c : NotReady) (s : State),
    LeavesAtRest 0 conv g s → s.operation = none → s.order.engine = none →
    s.order.active = some a → firstFailing s a.order = some c →
    exec (.autoCaptureStart conv) s = .next s.drive) ∧
  (∀ (d : DeckId) (conv : Conversion) (g : Int) (a : ActiveOrder) (s : State),
    LeavesAtRest d conv g s → s.metro.decks[d].run = none → s.operation = none →
    s.order.engine = none → s.order.active = some a → a.state = .waiting ∨ a.state = .surveying →
    let starts := a.order.auto = true ∧ (a.state = .waiting ∨ s.order.crossingSince = true) ∧
      s.order.delay ≤ min 500 (s.order.condRun + 1)
    ∃ t, exec (.deckSample d conv) s = .next t ∧
      (firstFailing s a.order = none → d ≠ 0 ∨ ¬starts →
        t.order.active = some a ∧ t.order.engine = none ∧
        t.order.condRun =
          if d = 0 then min 500 (s.order.condRun + 1) else s.order.condRun) ∧
      (firstFailing s a.order ≠ none → d = 0 → t.order.condRun = 0)) ∧
  (∀ (i : Instr) (a : ActiveOrder) (s : State), s.power = .running → s.order.active = some a →
    a.state = .waiting ∨ a.state = .surveying → firstFailing s a.order = none →
    (∃ d conv, i = .deckSample d conv) ∨ (∃ j, i = .filterTimeExpired j) ∨
      (∃ j b, i = .stuckBeam j b) ∨ (∃ l, i = .switchChange l) ∨ (∃ h, i = .openSession h) →
    ∃ t, exec i s = .next t ∧ ∀ b, t.order.active = some b →
      b.state = .waiting ∨ b.state = .surveying → firstFailing t b.order ≠ none →
      t.order.condRun = 0) ∧
  (∀ (d : DeckId) (conv : Conversion) (e : OrderCapture) (a : ActiveOrder) (s : State),
    s.power = .running → d.val < deckCount s.legal → s.order.engine = some e →
    s.order.active = some a → a.state = .capturing → s.operation = none →
    s.metro.decks[d].run = none →
    let w := sampleW d conv s
    let takes := fun b : DeckId => b = d ∧ w ≠ none ∧ e.counts[b] < e.window
    let counted := fun b : DeckId => if takes b then e.counts[b] + 1 else e.counts[b]
    (∃ b : DeckId, b.val < deckCount s.legal ∧ counted b < e.window) →
    ∃ t, exec (.deckSample d conv) s = .next t ∧ t.visit = s.visit ∧ t.ticket = s.ticket ∧
      (isSettled (t.deckMode d) = true →
        t.order.active = some a ∧ t.order.condRun = s.order.condRun ∧
        ∃ f, t.order.engine = some f ∧ f.window = e.window ∧ f.direction = e.direction ∧
          f.fromState = e.fromState ∧ ∀ b : DeckId, f.counts[b] = counted b ∧
            f.sums[b] = if takes b then e.sums[b] + w.getD 0 else e.sums[b]) ∧
      (isSettled (t.deckMode d) = false →
        t.order.engine = none ∧ t.order.active = some { a with state := e.fromState } ∧
        t.order.condRun = 0 ∧ t.order.stops = s.order.stops ∧
        ∀ q, (t.portState q).events[(2 : Fin 9)] =
          withEvent (.orderAborted a.order.visit a.order.kind
            (if isFaultMode (t.deckMode d) then .deckFault else .motion)) s
            (s.portState q).events[(2 : Fin 9)])) ∧
  (∀ (d : DeckId) (conv : Conversion) (r : Session) (k : OpKind) (n : Nat) (c : TestCapture)
      (s : State), s.power = .running → d.val < deckCount s.legal →
    s.metro.session = some r → r.isOpen = true → r.op = some ⟨k, d, n, some c⟩ →
    s.order.engine = none → s.metro.decks[d].run = none →
    let w := sampleW d conv s
    c.count + (if w = none then 0 else 1) < c.window →
    ∃ t, exec (.deckSample d conv) s = .next t ∧ t.sessionOpen = true ∧
      t.metro.session.map (fun x => x.results) = some r.results ∧ t.metro.legal = s.metro.legal ∧
      t.metro.cal = s.metro.cal ∧
      (isSettled (t.deckMode d) = true → t.operation = some ⟨k, d, n, some (match w with
        | some x => { c with
          count := c.count + 1
          sum := c.sum + x
          rawSums := vgen fun i => c.rawSums[i] + conv.raw[i] }
        | none => c)⟩) ∧
      (isSettled (t.deckMode d) = false → t.operation = none ∧
        ∀ q, (t.portState q).events[(6 : Fin 9)].latest =
          some (.operationEnded k d (.aborted
            (if isFaultMode (t.deckMode d) then .deckFault else .motion)),
            ⟨s.clock.day, s.clock.sec⟩)))

/-- CAPTURE_WINDOW_END: the sample with which the last deck reaches C. An over or under result and a
refused trade capture give the order back the state it started from; a CHECK completes with its slip; a
FIRST_WEIGH of an OPEN visit with both watch channels disabled issues the next ticket with mass I, queued
for printing, and its visit becomes FIRST_DONE. The visit is sound, as StepKeepsVisits states that every
step keeps it (R111): an OPEN one has no weighing.
That a sample without a capture is without effect under this name is the model's choice
(notes/assumptions/15.md), as is that the end is taken before an abort of the same sample and that deck
1's sample tests the conditions after it, so that the run then need not be 0, and with a delay of at most 1
an order with its auto flag may be captured anew (notes/assumptions/16.md). The printer at the exit end
comes before the other (notes/assumptions/37.md); printed lines are kept as fields
(notes/assumptions/42.md), verdicts by the axle summary's class (notes/assumptions/69.md). -/
def Obligations.CaptureWindowEnds : Prop :=
  ∀ (d : DeckId) (conv : Conversion) (s : State), s.power = .running →
    d.val < deckCount s.legal →
    (s.order.engine = none → exec (.captureWindowEnd d conv) s = .next s.drive) ∧
    (∀ (g : Int) (e : OrderCapture) (a : ActiveOrder), EndsWindow d conv g e a s →
      let v := endMass d g e s
      let mass := roundDiv v (s.legal.interval * 1000) * s.legal.interval
      let isOver := (s.legal.capacity + 9 * s.legal.interval) * 1000 < v
      let isUnder := v < -(20 * s.legal.interval * 1000)
      let unverified := s.metro.switch = .opened ∨
        ∃ b : DeckId, b.val < deckCount s.legal ∧ s.deckStatus b = .unverified
      let st := endStop d g e (some mass) s
      let back := fun c : NotCompleted => ∃ t,
        exec (.captureWindowEnd d conv) s = .next t ∧ GivenBack d e a s t ∧
          (d ≠ 0 → t.order.condRun = 0) ∧
          t.order.stops = s.order.stops ∧ t.visit = s.visit ∧ t.ticket = s.ticket ∧
          t.check = s.check ∧ ∀ q, (t.portState q).events[(2 : Fin 9)].latest =
            some (.orderNotCompleted a.order.visit a.order.kind c, ⟨s.clock.day, s.clock.sec⟩)
      (isOver → back .over) ∧ (¬isOver → isUnder → back .under) ∧
      (¬isOver → ¬isUnder → a.order.kind ≠ .check → unverified → back .refusedUnverified) ∧
      (¬isOver → ¬isUnder → a.order.kind = .check → ∃ t,
        exec (.captureWindowEnd d conv) s = .next t ∧ t.order.engine = none ∧
          t.order.active = some { a with state := .complete } ∧ t.visit = s.visit ∧
          t.ticket.counter = s.ticket.counter ∧ t.ticket.journal = s.ticket.journal ∧
          t.order.stops = stopsAfter st s ∧
          t.check = { s.check with table := tableAfter a.order st s } ∧
          let exit : BridgeEnd := if e.direction = some .forward then .b else .a
          SlipQueued .checkSlip exit
            (slipFields t.check .checkSlip (findVisit s.visit a.order.visit)
              ((orderClass s a.order).map fun c => c.1)
              (summaryOf (tableAfter a.order st s)) (some mass)
              ⟨someDeck s .due, decide (s.metro.switch = .opened) || someDeck s .suspect ||
                someDeck s .unverified, false, false, false⟩
              ⟨s.clock.day, s.clock.sec⟩ s.metro.cal exit) s t) ∧
      (¬isOver → ¬isUnder → a.order.kind = .firstWeigh → ¬unverified → ∀ x : Visit,
        findVisit s.visit a.order.visit = some x → x.state = .opened → visitOk x = true →
        s.watch.w1.enabled = false → s.watch.w2.enabled = false →
        let n := if s.ticket.counter < 999999 then s.ticket.counter + 1 else 1
        ∃ (t : State) (y : Visit) (ticket : Ticket),
          exec (.captureWindowEnd d conv) s = .next t ∧ t.order.engine = none ∧
          t.order.active = some { a with state := .complete } ∧
          t.order.stops = stopsAfter st s ∧
          t.check = { s.check with table := tableAfter a.order st s } ∧ t.ticket.counter = n ∧
          t.ticket.journal = (s.ticket.journal ++ [ticket]).drop
            (if 512 ≤ s.ticket.journal.length then 1 else 0) ∧
          ticket.number = n ∧ ticket.issued = ⟨s.clock.day, s.clock.sec⟩ ∧
          ticket.content.kind = .first ∧ ticket.content.visit = x.number ∧
          ticket.content.masses =
            .first mass (if x.kind = .receival then .gross else .tare)
              ⟨s.clock.day, s.clock.sec⟩ ∧
          findVisit t.visit a.order.visit = some y ∧ y.state = .firstDone ∧
          y.first = some ⟨mass, if x.kind = .receival then .gross else .tare, .captured,
            ⟨s.clock.day, s.clock.sec⟩, some n, someDeck s .due, someDeck s .suspect,
            s.metro.cal⟩ ∧
          y.second = x.second ∧ y.net = x.net ∧ y.held = none ∧ y.revision = x.revision + 1 ∧
          (∀ m, m ≠ a.order.visit → findVisit t.visit m = findVisit s.visit m) ∧
          t.watch = s.watch ∧ ticket.copies = 0 ∧ TicketQueued ticket s t))

/-- The weighing step of FIRST_WEIGH, SECOND_WEIGH and STORED_TARE at the window end. The result builds
the visit's weighings and its net, or is refused NET_NEGATIVE or NO_VALID_TARE with the stop kept. The
watch unit judges the ticket it would become: it is issued with the channels' marks and the next number,
the order COMPLETE; or held in the visit with no number taken, the order HELD. A STORED_TARE takes one
use of its entry; the store-tare flag writes the captured tare at issue, never one that carries
NOT_FOR_TRADE. A visit that closes leaves the armed-visit list.
An issued ticket is queued for printing. The visit is sound, as StepKeepsVisits states that every step
keeps it (R111).
What the last sample does beside it is ordered by the model, so that a refused order with its auto flag may
be captured anew on the same sample when the delay is at most 1 (notes/assumptions/16.md), with each event's
place in one handling (notes/assumptions/37.md); printed lines are kept as fields
(notes/assumptions/42.md), verdicts by the axle summary's class (notes/assumptions/69.md). -/
def Obligations.WeighingsAreIssuedOrHeld : Prop :=
  ∀ (d : DeckId) (conv : Conversion) (g : Int) (e : OrderCapture) (a : ActiveOrder) (x : Visit)
      (s : State), EndsWindow d conv g e a s → ResultStands (endMass d g e s) s →
    findVisit s.visit a.order.visit = some x → visitOk x = true → x.held = none →
    let mass := roundDiv (endMass d g e s) (s.legal.interval * 1000) * s.legal.interval
    let now : Stamp := ⟨s.clock.day, s.clock.sec⟩
    let due := someDeck s .due
    let nft := someDeck s .suspect
    let captured := fun r : Role =>
      (⟨mass, r, .captured, now, none, due, nft, s.metro.cal⟩ : Weighing)
    let st := endStop d g e (some mass) s
    let summary := summaryOf (tableAfter a.order st s)
    let entry := findTare s.visit x.plate
    let valid := fun q : TareEntry => 1 ≤ q.uses ∧ s.clock.day - q.day ≤ s.visit.validity
    let inbound := x.kind = .receival
    let secondNet := fun w : Weighing => if inbound then w.mass - mass else mass - w.mass
    let latestOrder := fun (t : State) (c : Cause) =>
      ∀ q, (t.portState q).events[(2 : Fin 9)].latest = some (c, now)
    let stopTaken := fun t : State => exec (.captureWindowEnd d conv) s = .next t ∧
      t.order.stops = stopsAfter st s ∧
      t.check = { s.check with table := tableAfter a.order st s } ∧
      ∀ m, m ≠ a.order.visit → findVisit t.visit m = findVisit s.visit m
    let refusedBy := fun c : NotCompleted => ∃ t, stopTaken t ∧ GivenBack d e a s t ∧
      (d ≠ 0 → t.order.condRun = 0) ∧
      t.visit = s.visit ∧ t.ticket = s.ticket ∧ t.watch = s.watch ∧
      latestOrder t (.orderNotCompleted a.order.visit a.order.kind c)
    let builds := fun (y : Visit) (k : TicketKind) (ms : TicketMasses) (mk : Marks) =>
      (a.order.kind = .firstWeigh ∧ x.state = .opened ∧
        y = { x with
          first := some (captured (if inbound then .gross else .tare))
          state := .firstDone } ∧
        k = .first ∧ ms = .first mass (if inbound then .gross else .tare) now ∧
        mk = ⟨due, nft, false, false, false⟩) ∨
      (a.order.kind = .secondWeigh ∧ x.state = .firstDone ∧ ∃ w, x.first = some w ∧
        0 ≤ secondNet w ∧
        y = { x with
          second := some (captured (if inbound then .tare else .gross))
          net := some (secondNet w)
          state := .closed } ∧
        k = .final ∧
        ms = (if inbound then .final w.mass mass (secondNet w) .captured w.time now
          else .final mass w.mass (secondNet w) w.source now w.time) ∧
        mk = ⟨w.due || due, w.notForTrade || nft, false, false, false⟩) ∨
      (a.order.kind = .storedTare ∧ x.state = .opened ∧ inbound ∧ ∃ q, entry = some q ∧ valid q ∧
        0 ≤ mass - q.tare ∧
        y = { x with
          first := some (captured .gross)
          second := some ⟨q.tare, .tare, .stored, ⟨q.day, 0⟩, none, due, nft, s.metro.cal⟩
          net := some (mass - q.tare)
          state := .closed } ∧
        k = .final ∧ ms = .final mass q.tare (mass - q.tare) .stored now ⟨q.day, 0⟩ ∧
        mk = ⟨due, nft, false, false, false⟩)
    (a.order.kind = .secondWeigh → x.state = .firstDone → ∀ w, x.first = some w →
      secondNet w < 0 → refusedBy .netNegative) ∧
    (a.order.kind = .storedTare → x.state = .opened → inbound →
      ((∀ q, entry = some q → ¬valid q) → refusedBy .noValidTare) ∧
      (∀ q, entry = some q → valid q → mass - q.tare < 0 → refusedBy .netNegative)) ∧
    (∀ y k ms mk, builds y k ms mk →
      let content : TicketContent := ⟨k, x.number, x.kind, x.plate, x.commodity, x.grade, x.cls, ms,
        summary, mk, s.metro.cal, if e.direction = some .forward then .b else .a,
        a.order.storeTare⟩
      let w := evaluate content (entry.map fun q => q.tare) s.watch
      let marked := { content with marks := { mk with w1 := w.mark1, w2 := w.mark2 } }
      let watched := fun t : State => t.watch = { w.unit with
        armed := if y.state = .closed then w.unit.armed.filter fun m => m ≠ x.number
          else w.unit.armed }
      let used := if a.order.kind = .storedTare then
        s.visit.tares.map fun q => if q.plate = x.plate then { q with uses := q.uses - 1 } else q
        else s.visit.tares
      (w.hold1 = true ∨ w.hold2 = true → ∃ t, stopTaken t ∧ t.order.engine = none ∧
        t.order.active = some { a with state := .held } ∧ t.ticket = s.ticket ∧ watched t ∧
        t.visit.tares = used ∧
        findVisit t.visit a.order.visit = some
          { y with
            held := some ⟨marked, w.hold1, w.hold2, now⟩
            w1 := x.w1 || w.mark1
            w2 := x.w2 || w.mark2
            revision := x.revision + 1 } ∧
        latestOrder t (.orderHeld a.order.visit a.order.kind)) ∧
      (w.hold1 = false → w.hold2 = false →
        let n := if s.ticket.counter < 999999 then s.ticket.counter + 1 else 1
        let fill := fun z : Weighing => if z.ticket = none then { z with ticket := some n } else z
        ∃ (t : State) (ticket : Ticket), stopTaken t ∧ t.order.engine = none ∧
        t.order.active = some { a with state := .complete } ∧ t.ticket.counter = n ∧ watched t ∧
        t.ticket.journal = (s.ticket.journal ++ [ticket]).drop
          (if 512 ≤ s.ticket.journal.length then 1 else 0) ∧
        ticket.number = n ∧ ticket.issued = now ∧ ticket.content = marked ∧
        ticket.copies = 0 ∧ TicketQueued ticket s t ∧
        findVisit t.visit a.order.visit = some
          { y with
            first := y.first.map fill
            second := y.second.map fill
            summary := some summary
            w1 := x.w1 || w.mark1
            w2 := x.w2 || w.mark2
            revision := x.revision + 1 } ∧
        (a.order.storeTare = false ∨ a.order.kind = .storedTare → t.visit.tares = used) ∧
        (a.order.storeTare = true → a.order.kind = .secondWeigh → inbound →
          (nft = true → t.visit.tares = used) ∧
          (nft = false → ∃ rest, t.visit.tares =
              rest ++ [⟨x.plate, mass, s.clock.day, s.visit.initialUses⟩] ∧
            ∀ z ∈ rest, z ∈ s.visit.tares ∧ z.plate ≠ x.plate)) ∧
        latestOrder t (.orderComplete a.order.visit a.order.kind (some n))))

/-- An AXLE_SURVEY at the window end: its stop is taken and the order goes to SURVEYING, the visit as it
was. With every group of the class resolved, or the 4th stop, the survey completes: its summary becomes
the visit's as one change, an axle report goes to the exit-end printer or, its spool full, is discarded with
SPOOL_FULL, and the order is COMPLETE, or leaves with DONE when no pass is in progress.
That a fifth stop, which is not handed on, does not complete a survey by all resolved is the model's
reading (notes/assumptions/32.md). Its choices: the end is taken before an abort of the same sample
(notes/assumptions/16.md), and the report prints the calibration counter in force at the completion
(notes/assumptions/54.md), its lines as fields (notes/assumptions/42.md),
the checks by the axle summary's class (notes/assumptions/69.md). -/
def Obligations.AxleSurveysTakeStops : Prop :=
  ∀ (d : DeckId) (conv : Conversion) (g : Int) (e : OrderCapture) (a : ActiveOrder) (s : State),
    EndsWindow d conv g e a s → ResultStands (endMass d g e s) s → a.order.kind = .axleSurvey →
    let st := endStop d g e none s
    let table := tableAfter a.order st s
    let surveyed := { a with
      state := .surveying
      stopsTaken := a.stopsTaken + 1
      lastStop := some (e.direction,
        ⟨someDeck s .due, someDeck s .suspect, false, false, false⟩) }
    let complete := (s.order.stops.length < 4 ∧ table.allResolved = true) ∨ 4 ≤ a.stopsTaken + 1
    let stopTaken := fun t : State => exec (.captureWindowEnd d conv) s = .next t ∧
      t.order.engine = none ∧ t.order.crossingSince = false ∧
      t.order.stops = stopsAfter st s ∧ t.check = { s.check with table := table } ∧
      t.ticket.counter = s.ticket.counter ∧ t.ticket.journal = s.ticket.journal ∧
      t.watch = s.watch ∧ t.visit.tares = s.visit.tares
    let end_ : BridgeEnd := if e.direction = some .forward then .b else .a
    let handedOn := fun t : State =>
      (∀ m, findVisit t.visit m = if m = a.order.visit then
        (findVisit s.visit m).map fun x =>
          { x with summary := some (summaryOf table), revision := x.revision + 1 }
        else findVisit s.visit m) ∧
      SlipQueued .axleReport end_
        (slipFields t.check .axleReport (findVisit t.visit a.order.visit) (summaryOf table).cls
          (summaryOf table) (summaryOf table).indication
          ⟨someDeck s .due, someDeck s .suspect, false, false, false⟩
          ⟨s.clock.day, s.clock.sec⟩ s.metro.cal end_) s t
    let latestOrder := fun (t : State) (c : Cause) =>
      ∀ q, (t.portState q).events[(2 : Fin 9)].latest = some (c, ⟨s.clock.day, s.clock.sec⟩)
    (¬complete → ∃ t, stopTaken t ∧ t.order.active = some surveyed ∧ t.visit = s.visit ∧
      t.ticket = s.ticket) ∧
    (complete → s.axle.map.direction ≠ none → ∃ t, stopTaken t ∧ handedOn t ∧
      t.order.active = some { surveyed with state := .complete } ∧
      latestOrder t (.orderComplete a.order.visit .axleSurvey none)) ∧
    (complete → s.axle.map.direction = none → s.order.staged = [] → ∃ t, stopTaken t ∧
      handedOn t ∧ t.order.active = none ∧
      latestOrder t (.orderLeft a.order.visit .axleSurvey .done))

/-- What one stop does to the group result table. A stop of another class than the table's first rebuilds
it, as if that class had been in force from the first stop. The stop takes the next number; a whole
vehicle's I becomes the pass indication. A deck whose range is one group's offers that group its mass,
one whose range is the union of consecutive groups offers them a combined result, each kept when higher;
any other range offers nothing. Every verdict is made anew with the tolerances in force, then the
consistency check, the gross check and all resolved. A stop without a class leaves no group results. -/
def Obligations.StopsJudgeGroups : Prop :=
  (∀ (set : CheckSettings) (cls : Option (Nat × ClassEntry)) (earlier : List Stop) (st : Stop)
      (t : GroupTable),
    t.cls.map (fun x => x.1) ≠ cls.map (fun x => x.1) → t.stopsHandled = earlier.length →
    handleStop set cls earlier st t =
      (earlier ++ [st]).foldl (fun y x => handleStop set cls [] x y)
        { GroupTable.empty with
          cls := cls
          groups := match cls with
            | none => []
            | some c => c.2.groups.map fun _ => ⟨none, .unresolved, none⟩ }) ∧
  (∀ (set : CheckSettings) (earlier : List Stop) (st : Stop) (t : GroupTable), t.cls = none →
    t.combined = [] → handleStop set none earlier st t =
      ⟨none, [], [], match st.whole with
        | some i => some (i, t.stopsHandled + 1)
        | none => t.indication, .notTested, .notTested, false, t.stopsHandled + 1⟩) ∧
  (∀ (set : CheckSettings) (code : Nat) (e old : ClassEntry) (earlier : List Stop) (st : Stop)
      (t : GroupTable), t.cls = some (code, old) → t.groups.length = old.groups.length →
    (old.groups.map fun g => g.firstAxle).Nodup →
    (old.groups.map fun g => g.firstAxle + g.axles - 1).Nodup → 0 < set.interval →
    let new := handleStop set (some (code, e)) earlier st t
    let n := t.stopsHandled + 1
    let offers := fun (f l : Group) (d : DeckId) (m : Int) =>
      st.decks[d] = some (m, some (f.firstAxle, l.firstAxle + l.axles - 1))
    let alone := fun (f l : Group) (d : DeckId) => ∀ c m, offers f l c m → c = d
    let judged := fun (m permitted : Int) (v : Verdict) (x : Option Int) =>
      (m * 100 ≤ permitted * (100 + set.axleTol) → v = .within ∧ x = none) ∧
      (permitted * (100 + set.axleTol) < m * 100 → v = .over ∧ ∃ y, x = some y ∧
        set.interval ∣ y ∧ m - permitted ≤ y ∧ y < m - permitted + set.interval)
    new.cls = t.cls ∧ new.stopsHandled = n ∧
    new.indication = (match st.whole with
      | some i => some (i, n)
      | none => t.indication) ∧
    new.groups.length = old.groups.length ∧
    (∀ (i : Nat) (f : Group) (r : GroupResult), old.groups[i]? = some f → t.groups[i]? = some r →
      ∃ q, new.groups[i]? = some q ∧
        ((∀ d m, ¬offers f f d m) → q.mass = r.mass) ∧
        (∀ d m, offers f f d m → alone f f d → q.mass = match r.mass with
          | none => some (m, n)
          | some (had, at_) => if had < m then some (m, n) else some (had, at_)) ∧
        (q.mass = none → q.verdict = .unresolved ∧ q.excess = none) ∧
        (∀ m at_, q.mass = some (m, at_) → judged m f.permitted q.verdict q.excess)) ∧
    (∀ c ∈ new.combined,
      judged c.mass (permittedSum old.groups c.first c.last) c.verdict c.excess) ∧
    ((∀ (i j : Nat) (f l : Group) (d : DeckId) (m : Int), i < j → old.groups[i]? = some f →
        old.groups[j]? = some l → ¬offers f l d m) →
      new.combined.map (fun c => (c.first, c.last, c.mass, c.stop)) =
        t.combined.map fun c => (c.first, c.last, c.mass, c.stop)) ∧
    (∀ (i j : Nat) (f l : Group) (d : DeckId) (m : Int), i < j → old.groups[i]? = some f →
      old.groups[j]? = some l → offers f l d m → alone f l d →
      ((∀ c ∈ t.combined, ¬(c.first = i + 1 ∧ c.last = j + 1)) →
        ∃ c ∈ new.combined, c.first = i + 1 ∧ c.last = j + 1 ∧ c.mass = m ∧ c.stop = n) ∧
      (∀ had ∈ t.combined, had.first = i + 1 → had.last = j + 1 →
        (t.combined.map fun c => (c.first, c.last)).Pairwise
          (fun a b => a.1 < b.1 ∨ (a.1 = b.1 ∧ a.2 < b.2)) →
        ∃ c ∈ new.combined, c.first = i + 1 ∧ c.last = j + 1 ∧
          (c.mass, c.stop) = if had.mass < m then (m, n) else (had.mass, had.stop))) ∧
    (new.allResolved = true ↔ ∀ q ∈ new.groups, q.mass ≠ none) ∧
    new.consistency = (match new.indication with
      | none => .notTested
      | some (i, _) =>
        let diff := (new.groups.map fun q => match q.mass with
          | some (m, _) => m
          | none => 0).sum - i
        if new.allResolved = false then .notTested
        else if (set.consTol : Int) * (i.natAbs : Int) < (diff.natAbs : Int) * 1000 then
          .inconsistent diff
        else .consistent diff) ∧
    (match new.indication with
      | none => new.gross = .notTested
      | some (i, _) => (i ≤ old.grossLimit → new.gross = .within) ∧
        ((old.grossLimit : Int) < i → ∃ y, new.gross = .over y ∧ set.interval ∣ y ∧
          i - old.grossLimit ≤ y ∧ y < i - old.grossLimit + set.interval)))

/-! ### Beams and the axle map -/

/-- A change of raw state starts a persistence time anew, and with a filter time of 0 is taken at once;
a persistence time that has run gives the decoder the raw state, with the start beam of R44 and R45. A
phase error is counted, reported, makes the map INVALID with its content kept, and aborts a capture in flight
with AXLE_MOVED; one of a pair that
returns to CLEAR is followed by the test of the map's recovery, which may end the handling with an empty
VALID map and its own event (notes/assumptions/50.md, the model's choice). A beam that is clear in
the state taken loses its stuck mark and its blocked time.
An INVALID map recovers empty when the pair's return to CLEAR, or a sample of a deck, leaves every deck in
use EMPTY and every pair in use CLEAR with no session open; a pass that was frozen then ends.
STUCK_BEAM: a beam of a pair in use that is blocked and not yet marked is marked and reported, the
map becomes INVALID with its content kept, and a capture in flight is aborted; otherwise nothing
happens.
What becomes of a raw change while the reset is held is the model's choice
(notes/assumptions/10.md), as is that the end of a persistence time that does not run, and STUCK_BEAM of a
beam that is not blocked, are without effect (notes/assumptions/4.md). -/
def Obligations.BeamTransitions : Prop :=
  let aborted := fun (s : State) (e : OrderCapture) (a : ActiveOrder) (t : State) =>
    t.order.engine = none ∧ t.order.active = some { a with state := e.fromState } ∧
    t.order.condRun = 0 ∧ t.order.stops = s.order.stops ∧ t.visit = s.visit ∧
    ∀ x, (t.portState x).events[(2 : Fin 9)] =
      withEvent (.orderAborted a.order.visit a.order.kind .axleMoved) s
        (s.portState x).events[(2 : Fin 9)]
  ((∀ (j : Boundary) (raw : BeamState) (s : State),
     (s.power = .running → s.axle.pairs[j].raw = raw →
       exec (.beamRawChange j raw) s = .next s.drive) ∧
     (s.power = .running → s.axle.pairs[j].raw ≠ raw →
       let moved := s.setPair j fun p =>
         { p with raw := raw, persist := if j.val ≤ deckCount s.legal then some 0 else none }
       (s.axle.filter ≠ 0 → exec (.beamRawChange j raw) s = .next moved.drive) ∧
       (s.axle.filter = 0 → exec (.beamRawChange j raw) s = exec (.filterTimeExpired j) moved)) ∧
     (s.power ≠ .running → exec (.beamRawChange j raw) s =
       .next (s.setPair j fun p => { p with raw := raw }))) ∧
   (∀ (j : Boundary) (s : State), s.power = .running →
     (deckCount s.legal < j.val ∨ s.axle.pairs[j].persist = none →
       exec (.filterTimeExpired j) s = .next s.drive) ∧
     (j.val ≤ deckCount s.legal → s.axle.pairs[j].persist ≠ none →
       let p := s.axle.pairs[j]
       ∃ t, exec (.filterTimeExpired j) s = .next t ∧ t.axle.filter = s.axle.filter ∧
         (∀ i : Boundary, i ≠ j → t.axle.pairs[i] = s.axle.pairs[i]) ∧
         let q := t.axle.pairs[j]
         let clearsU := p.decoder ≠ some p.raw ∧ p.raw ≠ .u ∧ p.raw ≠ .both
         let clearsD := p.decoder ≠ some p.raw ∧ p.raw ≠ .d ∧ p.raw ≠ .both
         q.raw = p.raw ∧ q.decoder = some p.raw ∧ q.persist = none ∧
         (clearsU → q.stuckU = false ∧ q.blockedU = 0) ∧
         (¬clearsU → q.stuckU = p.stuckU ∧ q.blockedU = p.blockedU) ∧
         (clearsD → q.stuckD = false ∧ q.blockedD = 0) ∧
         (¬clearsD → q.stuckD = p.stuckD ∧ q.blockedD = p.blockedD) ∧
         (p.raw = .clear → p.decoder = none ∨ (p.decoder = some .u ∧ p.start ≠ .d) ∨
             (p.decoder = some .d ∧ p.start ≠ .u) →
           let recovers := s.axle.map.valid = false ∧ s.sessionOpen = false ∧
             (∀ d : DeckId, d.val < deckCount s.legal → s.deckMode d = .empty) ∧
             ∀ i : Boundary, i ≠ j → i.val ≤ deckCount s.legal →
               s.axle.pairs[i].decoder = some .clear
           (¬recovers → t.axle.map = s.axle.map) ∧
           (recovers → t.axle.map = ⟨true, none, [], 0⟩ ∧
             (∀ x, (t.portState x).events[(1 : Fin 9)].latest =
               some (.mapValid s.axle.map.direction.isSome, ⟨s.clock.day, s.clock.sec⟩)) ∧
             (s.axle.map.direction = none → t.order.active = s.order.active ∧
               t.order.stops = s.order.stops ∧ t.check = s.check) ∧
             (s.axle.map.direction ≠ none → s.order.engine = none →
               (∀ a, s.order.active = some a → a.state ≠ .capturing) → PassEnded s t))) ∧
         (p.decoder = none → q.start = .unknown ∧ q.errors = p.errors) ∧
         (∀ old, p.decoder = some old →
           let jump := (old = .clear ∧ p.raw = .both) ∨ (old = .both ∧ p.raw = .clear) ∨
             (old = .u ∧ p.raw = .d) ∨ (old = .d ∧ p.raw = .u)
           (¬jump → q.errors = p.errors ∧ q.start =
             if old = p.raw then p.start
             else if p.raw = .clear then .unknown
             else if old = .clear then (if p.raw = .u then .u else .d)
             else p.start) ∧
           (jump → q.errors = min 255 (p.errors + 1) ∧ q.start = .unknown ∧
             ∀ e a, s.order.engine = some e → s.order.active = some a →
               t.order.engine = none ∧
               (p.raw ≠ .clear ∨ s.sessionOpen = true ∨
                   (∃ d : DeckId, d.val < deckCount s.legal ∧ s.deckMode d ≠ .empty) ∨
                   (∃ i : Boundary, i ≠ j ∧ i.val ≤ deckCount s.legal ∧
                     s.axle.pairs[i].decoder ≠ some .clear) →
                 aborted s e a t)) ∧
           (p.raw = .clear → old = .both →
             let recovers := s.sessionOpen = false ∧
               (∀ d : DeckId, d.val < deckCount s.legal → s.deckMode d = .empty) ∧
               ∀ i : Boundary, i ≠ j → i.val ≤ deckCount s.legal →
                 s.axle.pairs[i].decoder = some .clear
             let phaseError : Cause × Stamp := (.phaseError j .both .clear (min 255 (p.errors + 1)),
               ⟨s.clock.day, s.clock.sec⟩)
             (¬recovers → t.axle.map = { s.axle.map with valid := false } ∧
               ∀ x, (t.portState x).events[(1 : Fin 9)].latest = some phaseError ∧
                 (t.portState x).events[(1 : Fin 9)].count =
                   min 255 ((s.portState x).events[(1 : Fin 9)].count + 1)) ∧
             (recovers → t.axle.map = ⟨true, none, [], 0⟩ ∧
               ∀ x, (t.portState x).events[(1 : Fin 9)].latest =
                   some (.mapValid s.axle.map.direction.isSome, ⟨s.clock.day, s.clock.sec⟩) ∧
                 (t.portState x).events[(1 : Fin 9)].count =
                   min 255 ((s.portState x).events[(1 : Fin 9)].count + 2))) ∧
           (p.raw ≠ .clear → ¬jump → t.axle.map = s.axle.map) ∧
           (p.raw ≠ .clear → jump → t.axle.map = { s.axle.map with valid := false } ∧
             ∀ x, (t.portState x).events[(1 : Fin 9)].latest =
               some (.phaseError j old p.raw (min 255 (p.errors + 1)),
                 ⟨s.clock.day, s.clock.sec⟩)))))) ∧
  (∀ (d : DeckId) (conv : Conversion) (s : State), s.power = .running →
     d.val < deckCount s.legal → s.axle.map.valid = false →
     ∃ t, exec (.deckSample d conv) s = .next t ∧
       let recovers := s.sessionOpen = false ∧
         (∀ b : DeckId, b.val < deckCount s.legal → t.deckMode b = .empty) ∧
         ∀ i : Boundary, i.val ≤ deckCount s.legal → s.axle.pairs[i].decoder = some .clear
       (¬recovers → t.axle = s.axle) ∧
       (recovers → t.axle = { s.axle with map := ⟨true, none, [], 0⟩ } ∧
         (s.axle.map.direction ≠ none → s.order.engine = none →
           t.order.stops = [] ∧ t.check = { s.check with table := .empty }) ∧
         ∀ x, (t.portState x).events[(1 : Fin 9)].latest =
           some (.mapValid s.axle.map.direction.isSome, ⟨s.clock.day, s.clock.sec⟩))) ∧
  (∀ (j : Boundary) (b : Beam) (s : State), s.power = .running →
     let p := s.axle.pairs[j]
     let blocked := j.val ≤ deckCount s.legal ∧
       (p.decoder = some .both ∨ p.decoder = some (match b with | .u => .u | .d => .d))
     let marked := match b with
       | .u => p.stuckU
       | .d => p.stuckD
     (blocked → marked = false → ∃ t, exec (.stuckBeam j b) s = .next t ∧
       t.axle.map = { s.axle.map with valid := false } ∧ t.axle.filter = s.axle.filter ∧
       (∀ i : Boundary, t.axle.pairs[i] = if i = j then
         (match b with
           | .u => { p with stuckU := true }
           | .d => { p with stuckD := true }) else s.axle.pairs[i]) ∧
       (∀ x, (t.portState x).events[(1 : Fin 9)].latest =
         some (.beamStuck j b, ⟨s.clock.day, s.clock.sec⟩)) ∧
       (∀ e a, s.order.engine = some e → s.order.active = some a → aborted s e a t) ∧
       t.decks = s.decks ∧ t.visit = s.visit ∧ t.ticket = s.ticket ∧ t.metro = s.metro ∧
       t.order.staged = s.order.staged ∧ t.order.stops = s.order.stops) ∧
     (¬blocked ∨ marked = true → exec (.stuckBeam j b) s = .next s.drive))

/-- A crossing: an excursion that begins at one beam and ends at the other. A VALID map takes it as
section 3.4 says, or faults and becomes INVALID with its content kept; an INVALID map does not take it.
The decks beside the boundary become MOTION when settled, which the history set marks as an entry, and keep
their state otherwise; the window of each that is not in a fault state is emptied, whether or not the map
takes it. The first crossing of a pass empties the stop list and the group result table. A crossing that a
VALID map takes or faults aborts a capture in flight with AXLE_MOVED. One that empties the list ends the
pass: the active order goes where R65 says, the stops and group results go.
That the cause is AXLE_MOVED also when the crossing unsettles a deck is the model's choice: the map comes
before the decks, and the decks offer their states with their next samples (notes/assumptions/18.md). -/
def Obligations.CrossingsAreHandledWhole : Prop :=
  ∀ (j : Boundary) (dir : Direction) (s : State), s.power = .running →
    j.val ≤ deckCount s.legal → s.axle.pairs[j].persist ≠ none →
    s.axle.pairs[j].raw = .clear →
    (dir = .forward → s.axle.pairs[j].decoder = some .d ∧ s.axle.pairs[j].start = .u) →
    (dir = .reverse → s.axle.pairs[j].decoder = some .u ∧ s.axle.pairs[j].start = .d) →
    (∀ d : DeckId, d.val < deckCount s.legal → s.decks[d].hold = false) →
    let beside := fun d : DeckId => d.val < deckCount s.legal ∧ (d.val = j.val ∨ d.val + 1 = j.val)
    let step_ := crossMap (deckCount s.legal) j.val dir s.axle.map
    ∃ t, exec (.filterTimeExpired j) s = .next t ∧
      (s.axle.map.valid = true →
        match step_ with
        | .applied m _ _ => t.axle.map = m
        | .fault r => t.axle.map = { s.axle.map with valid := false } ∧
          ∀ x, (t.portState x).events[(1 : Fin 9)].latest =
            some (.mapFault j dir r, ⟨s.clock.day, s.clock.sec⟩)) ∧
      (s.axle.map.valid = false → t.axle.map = s.axle.map) ∧
      (∀ d : DeckId, beside d →
        (isSettled (s.deckMode d) = true → t.deckMode d = .motion ∧ t.decks[d].window = [] ∧
          t.decks[d].reference = none ∧ t.decks[d].settledRun = 0 ∧
          t.decks[d].motionCount = s.decks[d].motionCount ∧
          t.decks[d].entryNumber = s.decks[d].entryNumber + 1 ∧
          t.decks[d].history =
            s.decks[d].history.set (modeNumber .motion) (some (s.decks[d].entryNumber + 1))) ∧
        (isSettled (s.deckMode d) = false → t.deckMode d = s.deckMode d ∧
          (isFaultMode (s.deckMode d) = false → t.decks[d].window = []) ∧
          (s.metro.decks[d].run = none → t.decks[d] = { s.decks[d] with
            window := if isFaultMode (s.deckMode d) then s.decks[d].window else [] }))) ∧
      (∀ d : DeckId, ¬beside d → t.decks[d] = s.decks[d]) ∧
      (∀ e a, s.order.engine = some e → s.order.active = some a → s.axle.map.valid = true →
        let aborted := t.order.engine = none ∧
          t.order.active = some { a with state := e.fromState } ∧ t.order.condRun = 0 ∧
          ∀ x, (t.portState x).events[(2 : Fin 9)].latest =
            some (.orderAborted a.order.visit a.order.kind .axleMoved,
              ⟨s.clock.day, s.clock.sec⟩)
        (∀ r, step_ = .fault r → aborted) ∧
        (∀ m started, step_ = .applied m started false → aborted) ∧
        (∀ m started, step_ = .applied m started true → t.order.engine = none)) ∧
      (s.axle.map.valid = true → ∀ m ended, step_ = .applied m true ended →
        t.order.stops = [] ∧ t.check = { s.check with table := .empty }) ∧
      (s.axle.map.valid = true → s.order.engine = none →
        (∀ a, s.order.active = some a → a.state ≠ .capturing) →
        ∀ m, step_ = .applied m false true → PassEnded s t)

/-- The rows of section 3.4 on a bridge of `n` decks: the first crossing of a pass, and within a pass
the entry, interior and exit boundaries, onward and backward, with their faults; a crossing that empties
the list ends the pass.
That a re-entry at the exit boundary with no axle departed is NO_AXLE also for a full list is the model's
reading (notes/assumptions/18.md). -/
def Obligations.CrossingsMoveAxles : Prop :=
  ∀ n : Nat, 1 ≤ n → n ≤ 4 →
    (∀ (m : AxleMap) (j : Nat) (dir : Direction), m.direction = none → m.list = [] →
      m.departed = 0 →
      (dir = .forward → j = 0 → ∀ k : DeckId, k.val = 0 → crossMap n j dir m =
        .applied ⟨m.valid, some .forward, [⟨1, k⟩], 0⟩ true false) ∧
      (dir = .reverse → j = n → ∀ k : DeckId, k.val + 1 = n → crossMap n j dir m =
        .applied ⟨m.valid, some .reverse, [⟨1, k⟩], 0⟩ true false) ∧
      (¬(dir = .forward ∧ j = 0) → ¬(dir = .reverse ∧ j = n) →
        crossMap n j dir m = .fault .notEntry)) ∧
    (∀ (m : AxleMap) (pass : Direction) (entry exit : DeckId), m.direction = some pass →
      (pass = .forward → entry.val = 0 ∧ exit.val + 1 = n) →
      (pass = .reverse → exit.val = 0 ∧ entry.val + 1 = n) →
      let back : Direction := if pass = .forward then .reverse else .forward
      let entryB := if pass = .forward then 0 else n
      let exitB := if pass = .forward then n else 0
      let moved := fun l : List Axle => MapStep.applied { m with list := l } false false
      let ended := MapStep.applied ⟨m.valid, none, [], 0⟩ false true
      (m.list.length < 16 → m.departed + m.list.length + 1 ≤ 255 →
        crossMap n entryB pass m =
          moved (m.list ++ [⟨m.departed + m.list.length + 1, entry⟩])) ∧
      (16 ≤ m.list.length → crossMap n entryB pass m = .fault .listFull) ∧
      (m.list.length < 16 → 255 < m.departed + m.list.length + 1 →
        crossMap n entryB pass m = .fault .indexLimit) ∧
      (∀ l a, m.list = l ++ [a] → a.deck = entry → crossMap n entryB back m =
        if l = [] then ended else moved l) ∧
      (∀ l a, m.list = l ++ [a] → a.deck ≠ entry →
        crossMap n entryB back m = .fault .noAxle) ∧
      (∀ l a, m.list = a :: l → a.deck = exit → crossMap n exitB pass m =
        if l = [] then ended
        else .applied { m with list := l, departed := m.departed + 1 } false false) ∧
      (∀ l a, m.list = a :: l → a.deck ≠ exit → crossMap n exitB pass m = .fault .noAxle) ∧
      (m.departed = 0 → crossMap n exitB back m = .fault .noAxle) ∧
      (1 ≤ m.departed → m.list.length < 16 → crossMap n exitB back m =
        .applied { m with list := ⟨m.departed, exit⟩ :: m.list, departed := m.departed - 1 }
          false false) ∧
      (1 ≤ m.departed → 16 ≤ m.list.length → crossMap n exitB back m = .fault .listFull) ∧
      (∀ (j : Nat) (en ex : DeckId), 0 < j → j < n →
        (pass = .forward → en.val + 1 = j ∧ ex.val = j) →
        (pass = .reverse → ex.val + 1 = j ∧ en.val = j) →
        (∀ u a v, m.list = u ++ a :: v → a.deck = en → (∀ x ∈ u, x.deck ≠ en) →
          crossMap n j pass m = moved (u ++ { a with deck := ex } :: v)) ∧
        ((∀ x ∈ m.list, x.deck ≠ en) → crossMap n j pass m = .fault .noAxle) ∧
        (∀ u a v, m.list = u ++ a :: v → a.deck = ex → (∀ x ∈ v, x.deck ≠ ex) →
          crossMap n j back m = moved (u ++ { a with deck := en } :: v)) ∧
        ((∀ x ∈ m.list, x.deck ≠ ex) → crossMap n j back m = .fault .noAxle)))

/-! ### Printer lines, the switch, the day -/

/-- The rows of a printer line: the answers to a print message and their absence within 1 s, the retry
interval's end, the status query and its answer. An answer that comes while none is outstanding is
discarded.
That a timer's event which comes when its time does not run is without effect is the model's choice
(notes/assumptions/4.md), as is that a garbled answer counts as no answer at its arrival
(notes/assumptions/63.md), that an answer is taken as that of the message outstanding, also where it comes late
from an earlier one (notes/assumptions/73.md), and that an outcome goes to the ticket that holds the job's
number when it ends (notes/assumptions/65.md). -/
def Obligations.PrinterLinesExchange : Prop :=
  ∀ (e : BridgeEnd) (s : State), s.power = .running →
    let l := lineOf s.ticket e
    let put := fun (x : PrinterLine) => s.setTicket (setLine e fun _ => x)
    let goOn := fun (rest : List Job) =>
      (if rest = [] then ⟨.ready, [], 0, l.waitLeft, none⟩
        else ⟨.sending, rest, 0, l.waitLeft, some 1000⟩ : PrinterLine)
    let marked := fun (j : Job) (p : PrintState) (x : State) => x.setTicket fun u =>
      { u with
        journal := u.journal.map fun t =>
          if j.name = .ticket t.number ∧ j.isCopy = false then
            (match e with
              | .a => { t with printA := p }
              | .b => { t with printB := p })
          else t }
    let number := fun j : Job => match j.name with
      | .ticket n => some n
      | .slip _ => none
    let count := min 99 (l.retry + 1)
    (l.state = .sending → l.answerLeft ≠ none →
      (∀ j rest, l.spool = j :: rest →
        exec (.printAnswer e .accept) s = .next (marked j .printed (put (goOn rest))).drive ∧
        (s.ticket.limit ≠ 0 → s.ticket.limit ≤ count →
          exec (.printAnswer e .busy) s =
            .next ((marked j .failed (put (goOn rest))).raise
              (.jobFailed e (number j) j.isCopy)).drive)) ∧
      (s.ticket.limit = 0 ∨ count < s.ticket.limit →
        exec (.printAnswer e .busy) s = .next (put { l with
          state := .retryWait
          retry := count
          waitLeft := s.ticket.interval * 1000
          answerLeft := none }).drive) ∧
      (∀ paper : Bool, exec (.printAnswer e (if paper then .noPaper else .fault)) s =
        .next ((put { l with
          state := .offline
          waitLeft := s.ticket.interval * 1000
          answerLeft := none }).raise (.printerOffline e paper)).drive) ∧
      exec (.printAnswer e .garbled) s = exec (.printAnswer e .busy) s ∧
      exec (.printerAnswerTimeout e) s = exec (.printAnswer e .busy) s) ∧
    (¬(l.state = .sending ∧ l.answerLeft ≠ none) → ∀ a,
      exec (.printAnswer e a) s = .next s.drive) ∧
    (l.state = .retryWait → exec (.retryWaitExpired e) s = .next (put { l with
      state := .sending
      waitLeft := 0
      answerLeft := some 1000 }).drive) ∧
    (l.state ≠ .retryWait → exec (.retryWaitExpired e) s = .next s.drive) ∧
    (l.state = .offline → l.answerLeft = none →
      exec (.offlineQueryDue e) s = .next (put { l with
        answerLeft := some 1000
        waitLeft := s.ticket.interval * 1000 }).drive) ∧
    (¬(l.state = .offline ∧ l.answerLeft = none) →
      exec (.offlineQueryDue e) s = .next s.drive) ∧
    (l.state = .offline → l.answerLeft ≠ none →
      exec (.statusAnswer e .ready) s = .next ((put (if l.spool = [] then
          { l with state := .ready, answerLeft := none }
        else { l with state := .sending, answerLeft := some 1000 })).raise
          (.printerOnline e)).drive ∧
      (∀ a, a ≠ .ready →
        exec (.statusAnswer e a) s = .next (put { l with answerLeft := none }).drive) ∧
      exec (.printerAnswerTimeout e) s = .next (put { l with answerLeft := none }).drive) ∧
    (¬(l.state = .offline ∧ l.answerLeft ≠ none) → ∀ a,
      exec (.statusAnswer e a) s = .next s.drive)

/-- With no command waiting one millisecond passes: the clock runs on, and while the ZW-4 runs so do the
persistence times and the blocked times of the pairs in use, the printers' answer and wait times and the
activity time of an open session; nothing else moves. Each time that runs out queues its command once:
FILTER_TIME_EXPIRED at the filter time, STUCK_BEAM of a blocked beam not yet marked after 120 s,
PRINTER_ANSWER_TIMEOUT, RETRY_WAIT_EXPIRED, OFFLINE_QUERY_DUE and SESSION_EXPIRY at the end of their times,
and DAY_ROLLOVER at the day's end.
SWITCH_CHANGE takes a level that differs from the switch state, logs it or counts it as lost, and
reports it. DAY_ROLLOVER: the next day, one budget point for each deck in use whose budget stands above 0
and below the threshold, and DUE for each VERIFIED deck whose period has run out; from a time that
SET_CLOCK has replaced no rollover follows.
The step of an idle queue, and the commands that it queues, are the model's choice
(notes/assumptions/3.md), as is that times which run out in one millisecond all queue theirs
(notes/assumptions/49.md), that a rollover while the reset is held moves the clock alone
(notes/assumptions/10.md), how a rollover due from a replaced time is known, and that one which comes
with the seconds before 86399 is without effect (notes/assumptions/59.md), and the room for entries near
the end of the sequence numbers (notes/assumptions/2.md). -/
def Obligations.TimeSwitchAndDayRollover : Prop :=
  (∀ s : State, s.pending = [] →
    let passes := 999 ≤ s.clock.ms ∧ 86399 ≤ s.clock.sec
    let clock : Clock := { s.clock with
      ms := if s.clock.ms < 999 then s.clock.ms + 1 else 0
      sec := if 999 ≤ s.clock.ms ∧ s.clock.sec < 86399 then s.clock.sec + 1 else s.clock.sec
      replaced := false }
    let blocks := fun (p : Pair) (b : Beam) =>
      p.decoder = some .both ∨ p.decoder = some (match b with | .u => .u | .d => .d)
    let pair := fun p : Pair => { p with
      persist := p.persist.map fun n => n + 1
      blockedU := if blocks p .u then min 120000 (p.blockedU + 1) else p.blockedU
      blockedD := if blocks p .d then min 120000 (p.blockedD + 1) else p.blockedD }
    let line := fun l : PrinterLine => { l with
      answerLeft := l.answerLeft.map fun n => n - 1
      waitLeft := if l.state = .retryWait ∨ l.state = .offline then l.waitLeft - 1 else l.waitLeft }
    let session := fun r : Session =>
      { r with activity := if r.isOpen then r.activity - 1 else r.activity }
    (s.power ≠ .running → step s =
      .next { s with clock := clock, pending := if passes then [.dayRollover] else [] }) ∧
    (s.power = .running → ∃ due, step s = .next { s with
        clock := clock
        pending := due
        axle := { s.axle with pairs := vgen fun j =>
          if j.val ≤ deckCount s.legal then pair s.axle.pairs[j] else s.axle.pairs[j] }
        ticket := { s.ticket with lineA := line s.ticket.lineA, lineB := line s.ticket.lineB }
        metro := { s.metro with session := s.metro.session.map session } } ∧
      due.Nodup ∧ ∀ i : Instr, i ∈ due ↔
        (∃ j : Boundary, i = .filterTimeExpired j ∧ j.val ≤ deckCount s.legal ∧
          ∃ n, s.axle.pairs[j].persist = some n ∧ s.axle.filter ≤ n + 1) ∨
        (∃ (j : Boundary) (b : Beam), i = .stuckBeam j b ∧ j.val ≤ deckCount s.legal ∧
          blocks s.axle.pairs[j] b ∧ (match b with
            | .u => s.axle.pairs[j].stuckU = false ∧ 120000 ≤ s.axle.pairs[j].blockedU
            | .d => s.axle.pairs[j].stuckD = false ∧ 120000 ≤ s.axle.pairs[j].blockedD)) ∨
        (∃ e : BridgeEnd, i = .printerAnswerTimeout e ∧ (lineOf s.ticket e).answerLeft = some 1) ∨
        (∃ e : BridgeEnd, i = .retryWaitExpired e ∧ (lineOf s.ticket e).state = .retryWait ∧
          (lineOf s.ticket e).waitLeft = 1) ∨
        (∃ e : BridgeEnd, i = .offlineQueryDue e ∧ (lineOf s.ticket e).state = .offline ∧
          (lineOf s.ticket e).waitLeft = 1) ∨
        (i = .sessionExpiry ∧ ∃ r, s.metro.session = some r ∧ r.isOpen = true ∧ r.activity = 1) ∨
        (i = .dayRollover ∧ passes))) ∧
  (∀ (l : SwitchLevel) (s : State), s.power = .running →
    (s.metro.switch = l → exec (.switchChange l) s = .next s.drive) ∧
    (s.metro.switch ≠ l → ∃ t, exec (.switchChange l) s = .next t ∧ t.metro.switch = l ∧
      (0 < logRoom s.metro → t.metro.log = s.metro.log ++
          [⟨s.metro.nextSeq, ⟨s.clock.day, s.clock.sec⟩,
            if l = .opened then .switchOpen else .switchClose, s.metro.cal, none⟩] ∧
        t.metro.lost = s.metro.lost) ∧
      (logRoom s.metro = 0 → t.metro.log = s.metro.log ∧
        t.metro.lost = min 65535 (s.metro.lost + 1)) ∧
      (∀ x, (t.portState x).events[(6 : Fin 9)].latest =
        some (.switchTaken l, ⟨s.clock.day, s.clock.sec⟩)) ∧
      t.metro.legal = s.metro.legal ∧ t.metro.cal = s.metro.cal ∧
      t.metro.decks = s.metro.decks ∧ t.metro.session = s.metro.session ∧ t.decks = s.decks ∧
      t.axle = s.axle ∧ t.visit = s.visit ∧ t.ticket = s.ticket)) ∧
  (∀ s : State,
    let today := if s.clock.day < 65535 then s.clock.day + 1 else 0
    let rolled : Clock := { s.clock with day := today, sec := 0, ms := 0 }
    let dropped : State := { s with clock := { s.clock with replaced := false } }
    let passes := 86399 ≤ s.clock.sec ∧ s.clock.replaced = false
    (¬passes →
      exec .dayRollover s = .next (if s.power = .running then dropped.drive else dropped)) ∧
    (passes → s.power ≠ .running → exec .dayRollover s = .next { s with clock := rolled }) ∧
    (passes → s.power = .running → ∃ t, exec .dayRollover s = .next t ∧
      t.clock = rolled ∧
      (∀ d : DeckId, t.front[d].budget =
        if d.val < deckCount s.legal ∧ 1 ≤ s.legal.threshold ∧ s.legal.threshold ≤ 255 ∧
            0 < s.front[d].budget ∧ (s.front[d].budget : Int) < s.legal.threshold then
          s.front[d].budget + 1
        else s.front[d].budget) ∧
      (∀ d : DeckId, t.metro.decks[d].lastVerified = s.metro.decks[d].lastVerified ∧
        t.deckStatus d = if s.deckStatus d = .verified ∧
            (s.metro.decks[d].lastVerified.any fun v =>
              (v : Int) + s.legal.period ≤ today) = true then
          .due else s.deckStatus d) ∧
      t.metro.legal = s.metro.legal ∧ t.metro.session = s.metro.session ∧ t.decks = s.decks ∧
      t.axle = s.axle ∧ t.visit = s.visit ∧ t.ticket = s.ticket ∧
      t.order.active = s.order.active))

/-! ### Ends of session operations, shunt phases -/

/-- The last sample of a test capture. A test is judged against its MPE, recorded, logged and reported,
and a FAIL makes its deck UNVERIFIED: its TEST_RESULT takes the reserved place of the log, and a
STATUS_CHANGE follows where the status changes, counted as lost where the log has no room. ADJUST_ZERO writes the mean raw sample of each cell as its z,
leaves T at 0 with the zero set and the deck UNVERIFIED. ADJUST_SPAN writes each cell's new k, or changes
nothing when the ratio or a factor lies outside its limits.
The model's choices: the operation's event follows that of the status (notes/assumptions/37.md); the end
is taken before an abort of the same sample (notes/assumptions/16.md); T and zero set change with the
write itself (notes/assumptions/24.md); ADJUST_ZERO makes the deck UNVERIFIED also when no z changes
(notes/assumptions/25.md). -/
def Obligations.SessionOperationsEnd : Prop :=
  ∀ (d : DeckId) (conv : Conversion) (g : Int) (r : Session) (n : Nat) (c : TestCapture)
      (s : State), s.power = .running → d.val < deckCount s.legal →
    recordOf s.legal d s.front[d] conv = .valid g → s.decks[d].hold = false →
    s.metro.session = some r → r.isOpen = true → c.count + 1 = c.window →
    s.metro.decks[d].run = none → s.order.engine = none →
    let e := s.legal.interval
    let w := roundDiv (c.sum + (g - s.decks[d].zeroOffset)) c.window
    let ended := fun (k : OpKind) (o : OpOutcome) (t : State) =>
      t.operation = none ∧ t.sessionOpen = true ∧
      ∀ x, (t.portState x).events[(6 : Fin 9)].latest =
        some (.operationEnded k d o, ⟨s.clock.day, s.clock.sec⟩)
    (∀ (k : TestKind) (op : OpKind), r.op = some ⟨op, d, n, some c⟩ →
      (k = .zero ∧ op = .testZero ∨ ∃ m pos, k = .load m pos ∧ op = .testLoad m pos) →
      let fine := roundDiv w (e * 100) * e / 10
      let err := match k with
        | .zero => fine
        | .load m _ => fine - m
      let mpe := match k with
        | .zero => e
        | .load m _ => if (m : Int) ≤ 500 * e then 2 * e else if (m : Int) ≤ 2000 * e then 4 * e
          else 6 * e
      let res : TestResult := ⟨r.results.length + 1, d, k, fine, err, mpe,
        decide ((err.natAbs : Int) * 4 ≤ mpe), s.metro.cal, false⟩
      ∃ t, exec (.testCaptureEnd d conv) s = .next t ∧ ended op (.tested res) t ∧
        t.metro.session.map (·.results) = some (r.results ++ [res]) ∧
        t.deckStatus d = (if res.pass then s.deckStatus d else .unverified) ∧
        (res.pass = true → s.metro.log.length < 256 → s.metro.nextSeq < 4294967295 →
          t.metro.log = s.metro.log ++ [⟨s.metro.nextSeq, ⟨s.clock.day, s.clock.sec⟩,
            .testResult res, s.metro.cal, some d⟩]) ∧
        (res.pass = false →
          let result : LogEntry := ⟨s.metro.nextSeq, ⟨s.clock.day, s.clock.sec⟩, .testResult res,
            s.metro.cal, some d⟩
          let change : LogEntry := ⟨s.metro.nextSeq + 1, ⟨s.clock.day, s.clock.sec⟩,
            .statusChange (s.deckStatus d) .unverified .testFail, s.metro.cal, some d⟩
          (s.metro.log.length < 256 → s.metro.nextSeq < 4294967295 →
            s.deckStatus d = .unverified →
            t.metro.log = s.metro.log ++ [result] ∧ t.metro.lost = s.metro.lost) ∧
          (s.metro.log.length < 255 → s.metro.nextSeq < 4294967294 →
            s.deckStatus d ≠ .unverified →
            t.metro.log = s.metro.log ++ [result, change] ∧ t.metro.lost = s.metro.lost) ∧
          (s.metro.log.length ≤ 255 → s.metro.nextSeq ≤ 4294967294 →
            s.metro.log.length = 255 ∨ s.metro.nextSeq = 4294967294 →
            s.deckStatus d ≠ .unverified →
            t.metro.log = s.metro.log ++ [result] ∧
              t.metro.lost = min 65535 (s.metro.lost + 1))) ∧
        t.metro.legal = s.metro.legal ∧ t.metro.cal = s.metro.cal) ∧
    (r.op = some ⟨.adjustZero, d, n, some c⟩ →
      let z := fun i : CellId => roundDiv (c.rawSums[i] + conv.raw[i]) c.window
      ∃ t, exec (.adjustZeroEnd d conv) s = .next t ∧
        (s.metro.switch = .shut → ended .adjustZero (.refused .isProtected) t ∧
          t.metro.legal = s.metro.legal ∧ t.metro.cal = s.metro.cal ∧
          t.metro.log = s.metro.log) ∧
        (s.metro.switch = .opened →
          t.metro.legal = { s.legal with
            zero := s.legal.zero.set d (vgen z) } ∧
          t.metro.cal = s.metro.cal +
            ((List.finRange 4).filter fun i => z i ≠ s.legal.zero[d][i]).length ∧
          ended .adjustZero (.adjusted ((List.finRange 4).map z) t.metro.cal) t ∧
          t.deckStatus d = .unverified ∧ t.decks[d].zeroOffset = 0 ∧
          t.decks[d].zeroSet = true ∧ t.decks[d].pendingZero = none)) ∧
    (∀ ref : Nat, r.op = some ⟨.adjustSpan ref, d, n, some c⟩ →
      let ratioOk := 0 < w ∧ 9 * w ≤ 10 * (ref * 1000) ∧ 10 * (ref * 1000) ≤ 11 * w
      let k := fun i : CellId => (2 * (s.legal.factor[d][i] * (ref * 1000)) + w) / (2 * w)
      let rangeOk := ∀ i, 100 ≤ k i ∧ k i ≤ 100000
      ∃ t, exec (.adjustSpanEnd d conv) s = .next t ∧
        (s.metro.switch = .shut ∨ ¬ratioOk ∨ ¬rangeOk →
          ended (.adjustSpan ref)
            (.refused (if s.metro.switch = .shut then .isProtected else .outOfRange)) t ∧
          t.metro.legal = s.metro.legal ∧ t.metro.cal = s.metro.cal ∧
          t.metro.log = s.metro.log) ∧
        (s.metro.switch = .opened → ratioOk → rangeOk →
          t.metro.legal = { s.legal with factor := s.legal.factor.set d (vgen k) } ∧
          t.metro.cal = s.metro.cal +
            ((List.finRange 4).filter fun i => k i ≠ s.legal.factor[d][i]).length ∧
          ended (.adjustSpan ref) (.adjusted ((List.finRange 4).map k) t.metro.cal) t ∧
          ((∃ i, k i ≠ s.legal.factor[d][i]) → t.deckStatus d = .unverified ∧
            t.decks[d].zeroOffset = 0 ∧ t.decks[d].zeroSet = false)))

/-- SHUNT_PHASE_END: the phases of a cell in their order, with its shunt ON from the end of the first to
the end of the third; after cell 4 a check judges each cell by its tolerance, and a measurement of
RECORD_SHUNT_REF writes the deflections as D. A sample that ends no phase is without effect: one of a deck
without a measurement, and one that leaves the phase short of its samples.
That such a sample is without effect under this name is the model's choice
(notes/assumptions/15.md), as is that the mode in force at a check's end counts (notes/assumptions/71.md). -/
def Obligations.ShuntPhasesEnd : Prop :=
  (∀ (d : DeckId) (conv : Conversion) (s : State), s.power = .running →
    (s.metro.decks[d].run = none → exec (.shuntPhaseEnd d conv) s = .next s.drive) ∧
    (∀ r, s.metro.decks[d].run = some r →
      r.count + 1 < (match r.phase with
        | .measureOff | .measureOn => 32
        | .settleOn | .settleOff => 50) →
      exec (.shuntPhaseEnd d conv) s = .next s.drive)) ∧
  ∀ (d : DeckId) (conv : Conversion) (r : ShuntRun) (s : State), s.power = .running →
    d.val < deckCount s.legal → s.decks[d].hold = true →
    recordOf s.legal d s.front[d] conv ≠ .invalid →
    (s.metro.decks[d].run = some r → s.order.engine = none →
      (r.forReference = false → s.operation = none) →
      (r.forReference = true → ∃ n, s.operation = some ⟨.recordShuntRef, d, n, none⟩) →
      let raw := conv.raw[r.cell]
      let goesOn := fun (x : ShuntRun) (on : Bool) => ∃ t,
        exec (.shuntPhaseEnd d conv) s = .next t ∧ t.metro.decks[d].run = some x ∧
          t.decks[d].hold = true ∧ t.front[d].cells[r.cell].shunt = on ∧
          (∀ i : CellId, i ≠ r.cell →
            t.front[d].cells[i].shunt = s.front[d].cells[i].shunt) ∧
          t.deckMode d = s.deckMode d ∧ t.deckStatus d = s.deckStatus d ∧
          t.metro.legal = s.metro.legal ∧ t.metro.log = s.metro.log
      let done := r.done ++ [r.onSum - r.offSum]
      let diff := fun i : CellId => (done[i.val]?).getD 0
      let deflect := fun i : CellId => roundDiv (diff i) 32
      let fails := fun i : CellId => 32 * s.legal.shuntTol[d][i] * s.legal.shuntD[d][i] <
        ((diff i - 32 * s.legal.shuntD[d][i]).natAbs : Int) * 1000000
      (r.phase = .measureOff → r.count + 1 = 32 →
        goesOn { r with phase := .settleOn, count := 0, offSum := r.offSum + raw } true) ∧
      (r.phase = .settleOn → r.count + 1 = 50 →
        goesOn { r with phase := .measureOn, count := 0 } s.front[d].cells[r.cell].shunt) ∧
      (r.phase = .measureOn → r.count + 1 = 32 →
        goesOn { r with phase := .settleOff, count := 0, onSum := r.onSum + raw } false) ∧
      (∀ next : CellId, next.val = r.cell.val + 1 → r.phase = .settleOff → r.count + 1 = 50 →
        goesOn ⟨r.forReference, next, .measureOff, 0, 0, 0, done⟩
          s.front[d].cells[r.cell].shunt) ∧
      (r.cell.val = 3 → r.phase = .settleOff → r.count + 1 = 50 →
        ∃ t, exec (.shuntPhaseEnd d conv) s = .next t ∧ t.metro.decks[d].run = none ∧
          t.decks[d].hold = false ∧ t.decks[d].window = [] ∧ t.deckMode d = s.deckMode d ∧
          (r.forReference = false →
            (∀ i : CellId, t.metro.decks[d].results[i] =
              some ⟨decide (¬fails i), deflect i⟩) ∧
            t.deckStatus d = (if (∃ i, fails i) ∧
                (s.deckStatus d = .verified ∨ s.deckStatus d = .due) then .suspect
              else s.deckStatus d) ∧
            t.metro.decks[d].shuntMode =
              (if s.metro.decks[d].shuntMode = .oneShot then .off
                else s.metro.decks[d].shuntMode) ∧
            t.metro.legal = s.metro.legal) ∧
          (r.forReference = true → t.operation = none ∧
            t.metro.legal = if s.metro.switch = .opened ∧
                ∀ i, 1 ≤ deflect i ∧ deflect i ≤ 4000000 then
              { s.legal with shuntD := s.legal.shuntD.set d (vgen deflect) }
            else s.legal)))

/-- The shunt scheduler: on a deck's entry to EMPTY, which settles so from SETTLING, MOTION or NOISE or is
reclassified so by a ZERO, a check starts when its mode asks for one, the deck is
clear of axles, no session is open and the deck's shunt values lie in their ranges; otherwise nothing
starts. A crossing at a boundary of the deck and a cell error of the deck abandon it: the shunt goes OFF,
the hold ends, no result is recorded, and a PERIODIC deck is due again at its next entry. A measurement
of RECORD_SHUNT_REF ends its operation in the same way.
That a ZERO which finds the zero in force unchanged reclassifies the deck is the model's choice
(notes/assumptions/60.md), as is that a ZERO may be taken on a window not yet full
(notes/assumptions/26.md), and that the mode in force at an abandonment counts (notes/assumptions/71.md). -/
def Obligations.ShuntChecksStartAndAreAbandoned : Prop :=
  (∀ (d : DeckId) (conv : Conversion) (g : Int) (s : State), s.power = .running →
    d.val < deckCount s.legal → recordOf s.legal d s.front[d] conv = .valid g →
    let p := s.legal
    let k := s.decks[d]
    let m := s.metro.decks[d]
    let win := (k.window ++ [g]).drop (k.window.length + 1 - p.window.toNat)
    let zero := roundDiv win.sum p.window
    let within := fun z : Int => ((win.sum - p.window * z).natAbs : Int) ≤
      p.window * (p.emptyBand * p.interval * 1000)
    let settles := (k.mode = .settling ∨ k.mode = .motion ∨ k.mode = .noise) ∧
      k.pendingZero = none ∧ p.window ≤ win.length ∧
      (∀ a ∈ win, ∀ b ∈ win, a - b ≤ p.stabBand * p.interval * 1000) ∧ within k.zeroOffset
    let reclassified := k.mode = .steady ∧ k.pendingZero ≠ none ∧ clearOfAxles s d = true ∧
      (∃ ref, k.reference = some ref ∧ ((p.window * g - ref).natAbs : Int) ≤
        p.window * (p.stabBand * p.interval * 1000)) ∧
      (zero.natAbs : Int) ≤ p.maxD[d] * 20 ∧ within zero
    k.hold = false → settles ∨ reclassified → k.powerUpSpent = true → s.testCapture = false →
    k.trackRun < 99 → m.run = none → s.operation = none → s.order.engine = none →
    s.order.active = none → (k.window.length : Int) ≤ p.window →
    g - k.zeroOffset ≤ (p.maxD[d] + 9 * p.interval) * 1000 →
    -(20 * p.interval * 1000) ≤ g - k.zeroOffset →
    let asked := m.shuntMode = .oneShot ∨ ∃ n, m.shuntMode = .periodic n ∧ n ≤ m.entryCount + 1
    let starts := asked ∧ clearOfAxles s d = true ∧ s.sessionOpen = false ∧
      ∀ i ∈ shuntParams d, inRange p i = true
    ∃ t, exec (.deckSample d conv) s = .next t ∧ t.deckMode d = .empty ∧
      t.metro.decks[d].shuntMode = m.shuntMode ∧
      (starts → t.decks[d].hold = true ∧
        t.metro.decks[d].run = some ⟨false, 0, .measureOff, 0, 0, 0, []⟩ ∧
        ∀ n, m.shuntMode = .periodic n → t.metro.decks[d].entryCount = 0) ∧
      (¬starts → t.decks[d].hold = false ∧ t.metro.decks[d].run = none ∧
        ∀ n, m.shuntMode = .periodic n →
          t.metro.decks[d].entryCount = min n (m.entryCount + 1))) ∧
  (∀ (d : DeckId) (r : ShuntRun) (s : State), s.power = .running → d.val < deckCount s.legal →
    s.metro.decks[d].run = some r → s.decks[d].hold = true →
    let abandoned := fun t : State =>
      t.metro.decks[d].run = none ∧ t.decks[d].hold = false ∧ t.decks[d].window = [] ∧
      t.decks[d].reference = none ∧ t.front[d].cells[r.cell].shunt = false ∧
      t.metro.decks[d].results = s.metro.decks[d].results ∧
      t.metro.decks[d].shuntMode = s.metro.decks[d].shuntMode ∧
      t.metro.legal = s.metro.legal ∧
      (∀ n, r.forReference = false → s.metro.decks[d].shuntMode = .periodic n →
        t.metro.decks[d].entryCount = n) ∧
      (r.forReference = true → ∀ n, s.operation = some ⟨.recordShuntRef, d, n, none⟩ →
        t.operation = none)
    (∀ (j : Boundary) (dir : Direction), j.val ≤ deckCount s.legal →
      d.val = j.val ∨ d.val + 1 = j.val → s.axle.pairs[j].persist ≠ none →
      s.axle.pairs[j].raw = .clear →
      (dir = .forward → s.axle.pairs[j].decoder = some .d ∧ s.axle.pairs[j].start = .u) →
      (dir = .reverse → s.axle.pairs[j].decoder = some .u ∧ s.axle.pairs[j].start = .d) →
      ∃ t, exec (.filterTimeExpired j) s = .next t ∧ abandoned t ∧ t.metro.log = s.metro.log ∧
        t.deckMode d = if s.deckMode d = .empty then .settling else s.deckMode d) ∧
    (∀ conv : Conversion, (∃ i : CellId, conv.sense[i] = false ∨ conv.raw[i] = -8388608 ∨
        conv.raw[i] = 8388607) → s.order.engine = none → s.testCapture = false →
      ∃ t, exec (.deckSample d conv) s = .next t ∧ abandoned t ∧ t.deckMode d = .noSignal))

/-! ### Reset and restart -/

/-- RESET_ASSERTED holds the ZW-4: shunts OFF, excitation off, lane signals STOP, attention lines not
asserted; the retained store stands. RESTART gives every block its restart values and every retained
field as it stood: a failed legal region check is logged and makes every deck UNVERIFIED, a set session
marker ends the session's log and is cleared, QUEUED print states become UNPRINTED, and RESTART alone is
counted with what was found. A request of the visit table unit whose reply has not been sent is found not
made: the unit is what the changes made since the request's handling make of the unit as the request met
it; each visit, stored tare and setting that none of these names is as the request met it. An interrupted
restart leaves the durable steps it made, and the ZW-4 held.
How a restart is asked for, and what it reads when nothing is said, is the model's choice
(notes/assumptions/12.md, notes/assumptions/13.md), as are the deck order of the entries
(notes/assumptions/56.md), that an interrupted restart reports nothing (notes/assumptions/58.md), and that a
clock found stopped starts before the first step, whose entries carry its time (notes/assumptions/74.md); that
a budget is lowered only under a threshold in its range is its reading (notes/assumptions/44.md). How a request is
taken back that other changes have followed, and that it stands where one of these cannot be made without
it, is the model's choice too (notes/assumptions/53.md). -/
def Obligations.ResetAndRestart : Prop :=
  (∀ (lost : Bool) (s : State), ∃ t, exec (.resetAsserted lost) s = .next t ∧
    t.power = (match s.power with
      | .running => .heldReset lost
      | .heldReset before => .heldReset (before || lost)) ∧
    (∀ (d : DeckId) (i : CellId), t.front[d].cells[i].shunt = false ∧
      t.front[d].cells[i].excited = false) ∧
    t.order.laneA = .stop ∧ t.order.laneB = .stop ∧
    (∀ x, (t.portState x).attention = false) ∧ t.clock = s.clock ∧ t.metro = s.metro ∧
    t.visit = s.visit ∧ t.ticket = s.ticket ∧ t.check = s.check ∧ t.watch = s.watch ∧
    t.axle = s.axle) ∧
  (∀ (battery : Bool) (asRead : Option LegalRead) (cut : Option RestartCut) (s : State),
    let read := asRead.getD ⟨s.metro.legal, s.metro.cal, s.metro.check⟩
    let passes := read.check = Config.legalCheck read.params read.counter
    let powerOn := s.power = .heldReset true
    let unsent := fun (x : Port) (c : Answered) =>
      (s.portState x).receiver = .answering ∧ (s.portState x).answered = some c ∧
      ∃ r, (s.portState x).reply = some r ∧
        r.kind ∈ [0x30#8, 0x31#8, 0x32#8, 0x33#8, 0x38#8, 0x39#8, 0x3B#8]
    let queued := fun p : PrintState => if p = .queued then .unprinted else p
    let settled := fun u : VisitUnit => { u with made := [] }
    let clockLost := battery = true ∧ powerOn
    let start : Stamp :=
      if clockLost then ⟨0, 0⟩ else ⟨s.clock.day, s.clock.sec⟩
    let ends := s.metro.marker = true ∧ cut.map (fun c => c.done) ≠ some .restore
    let marks := cut = none ∨ cut.map (fun c => c.done) = some .journal
    let lowered := (List.finRange 4).filter fun d => s.deckStatus d != .unverified
    let entries : List (LogKind × Option DeckId) :=
      (if passes then [] else (.restoreFail, none) :: lowered.map fun d =>
        (.statusChange (s.deckStatus d) .unverified .restoreFail, some d)) ++
      (if ends then [(.sessionEnd .restart, none)] else [])
    ∃ t, exec (.restart battery ⟨asRead, cut⟩) s = .next t ∧
      t.power = (match cut with
        | none => .running
        | some c => .heldReset (c.powerLost || s.power == .heldReset true)) ∧
      t.metro.legal = read.params ∧ t.metro.cal = read.counter ∧ t.metro.check = read.check ∧
      (∀ d : DeckId, t.deckStatus d = (if passes then s.deckStatus d else .unverified) ∧
        t.metro.decks[d].lastVerified = s.metro.decks[d].lastVerified ∧
        t.metro.decks[d].shuntMode = s.metro.decks[d].shuntMode ∧
        t.metro.decks[d].entryCount = 0 ∧ t.metro.decks[d].run = none) ∧
      t.metro.session = none ∧ t.metro.switch = s.metro.switch ∧
      t.metro.marker = (s.metro.marker && !decide ends) ∧
      (s.metro.log.length + entries.length ≤ 256 →
        s.metro.nextSeq + entries.length ≤ 4294967295 →
        t.metro.log = s.metro.log ++ entries.zipIdx.map fun x =>
          ⟨s.metro.nextSeq + x.2, start, x.1.1, read.counter, x.1.2⟩) ∧
      t.clock.day = start.day ∧ t.clock.sec = start.sec ∧
      t.clock.lost = (s.clock.lost || decide clockLost) ∧
      (cut = none → t.clock.restartCause = if powerOn then .powerOn else .resetLine) ∧
      (∀ d : DeckId, t.deckMode d = .settling ∧ t.decks[d].zeroOffset = 0 ∧
        t.decks[d].zeroSet = false ∧ t.decks[d].window = [] ∧ t.decks[d].hold = false ∧
        historyMembers t.decks[d] = [(.settling, 1)]) ∧
      (∀ d : DeckId, t.front[d].budget =
        if 1 ≤ read.params.threshold ∧ read.params.threshold ≤ 255 then
          min s.front[d].budget read.params.threshold.toNat else s.front[d].budget) ∧
      t.axle.map = ⟨false, none, [], 0⟩ ∧ t.axle.filter = s.axle.filter ∧
      (∀ j : Boundary, t.axle.pairs[j].decoder = none ∧ t.axle.pairs[j].start = .unknown ∧
        t.axle.pairs[j].errors = 0 ∧ t.axle.pairs[j].stuckU = false ∧
        t.axle.pairs[j].stuckD = false) ∧
      t.order.active = none ∧ t.order.staged = [] ∧ t.order.engine = none ∧
      t.order.stops = [] ∧ t.order.laneA = .stop ∧ t.order.laneB = .stop ∧
      t.order.window = s.order.window ∧ t.order.delay = s.order.delay ∧
      t.check.classes = s.check.classes ∧ t.check.axleTol = s.check.axleTol ∧
      t.check.consTol = s.check.consTol ∧
      ((∀ x c, ¬unsent x c) → t.visit = settled s.visit) ∧
      (∀ x c, unsent x c → (∀ y b, unsent y b → y = x) →
        let since := s.visit.made.drop c.upTo
        let without := makeAll c.before since
        (since = [] → soundTables c.before = true → t.visit = settled c.before) ∧
        (∀ u, without = some u → soundTables u = true → t.visit = settled u ∧
          (∀ n, (∀ i ∈ since, namesVisit n i = false) →
            findVisit t.visit n = findVisit c.before n) ∧
          (∀ p, (∀ i ∈ since, namesTare p i = false) →
            findTare t.visit p = findTare c.before p) ∧
          ((∀ i ∈ since, ∀ v m, i ≠ .rulesSet v m) →
            t.visit.validity = c.before.validity ∧ t.visit.initialUses = c.before.initialUses)) ∧
        (without = none → t.visit = settled s.visit) ∧
        (∀ u, without = some u → soundTables u = false → t.visit = settled s.visit)) ∧
      (∀ x y c b, unsent x c → unsent y b → (∀ z a, unsent z a → z = x ∨ z = y) →
        c.before.made.length < b.before.made.length → s.visit.made.drop b.upTo = [] →
        b.before.made.drop c.upTo = [] → soundTables b.before = true →
        soundTables c.before = true → t.visit = settled c.before) ∧
      t.ticket.counter = s.ticket.counter ∧ t.ticket.copyOn = s.ticket.copyOn ∧
      (marks → t.ticket.journal = s.ticket.journal.map (fun x =>
        { x with printA := queued x.printA, printB := queued x.printB })) ∧
      (¬marks → t.ticket.journal = s.ticket.journal) ∧
      (∀ e, (lineOf t.ticket e).state = .offline ∧ (lineOf t.ticket e).spool = []) ∧
      t.watch.w1 = s.watch.w1 ∧ t.watch.w2 = s.watch.w2 ∧ t.watch.mode = s.watch.mode ∧
      t.watch.armed = [] ∧ t.watch.flag1 = none ∧ t.watch.flag2 = none ∧
      (cut = none → ∀ x, (t.portState x).rate = (s.portState x).rate ∧
        (t.portState x).receiver = .hunt ∧ (t.portState x).mask = vrep 9 false ∧
        (t.portState x).firstFault = none ∧ (t.portState x).attention = true ∧
        (t.portState x).events[(8 : Fin 9)].latest = some (.restarted
          (if powerOn then .powerOn else .resetLine) (decide passes) s.metro.marker
          (s.ticket.journal.map fun y => (if y.printA = .queued then 1 else 0) +
            if y.printB = .queued then 1 else 0).sum (decide clockLost), start) ∧
        ∀ c : Fin 9, (t.portState x).events[c].count = if c = 8 then 1 else 0) ∧
      (cut.isSome → ∀ x, t.portState x =
        { s.portState x with attention := false, answered := none }))

/-! ### What every step keeps -/

/-- The output pins follow the state after every step (R1, R78, R179, R183): while the ZW-4 runs the
lane signals stand as the table of R78 says, read from the top, and each attention line is asserted
exactly when an unmasked category has a count above 0; while it is held each output stands at its
restart value.
The table has no row for a COMPLETE order on a clear bridge; that both ends show STOP there is the
model's choice (notes/assumptions/57.md). -/
def Obligations.StepKeepsPins : Prop :=
  ∀ s t : State, PinsFollow s → step s = .next t → PinsFollow t ∧
    (t.power = .running →
      (t.sessionOpen = true ∨ t.axle.map.valid = false ∨ t.order.active = none →
        t.order.laneA = .stop ∧ t.order.laneB = .stop) ∧
      (∀ a, t.sessionOpen = false → t.axle.map.valid = true → t.order.active = some a →
        (a.state = .capturing ∨ a.state = .held →
          t.order.laneA = .stop ∧ t.order.laneB = .stop) ∧
        (t.axle.map.direction = none → a.state = .waiting ∨ a.state = .surveying →
          t.order.laneA = .go ∧ t.order.laneB = .go) ∧
        (t.axle.map.direction = none → a.state = .complete →
          t.order.laneA = .stop ∧ t.order.laneB = .stop) ∧
        (t.axle.map.direction ≠ none → a.state = .waiting →
          t.order.laneA = .stop ∧ t.order.laneB = .stop) ∧
        (t.axle.map.direction = some .forward → a.state = .surveying ∨ a.state = .complete →
          t.order.laneA = .stop ∧ t.order.laneB = .go) ∧
        (t.axle.map.direction = some .reverse → a.state = .surveying ∨ a.state = .complete →
          t.order.laneA = .go ∧ t.order.laneB = .stop)) ∧
      ∀ x, (t.portState x).attention = true ↔
        ∃ c : Fin 9, 0 < (t.portState x).events[c].count ∧ (t.portState x).mask[c] = false) ∧
    (t.power ≠ .running →
      t.order.laneA = .stop ∧ t.order.laneB = .stop ∧ (∀ x, (t.portState x).attention = false) ∧
      ∀ (d : DeckId) (i : CellId), t.front[d].cells[i].excited = false)

/-- The axle map keeps R48, and while a session is open it stays INVALID with an empty list (R56). -/
def Obligations.StepKeepsMap : Prop :=
  ∀ s t : State, MapOk s → step s = .next t → MapOk t

/-- The journal keeps the last tickets in unbroken number order, the counter at the last (R120,
R124). -/
def Obligations.StepKeepsJournal : Prop :=
  ∀ s t : State, JournalOk s → step s = .next t → JournalOk t

/-- The visit table keeps its size, its distinct numbers, one live visit per plate, and each visit's
weighings, net and state in agreement (R101, R111). -/
def Obligations.StepKeepsVisits : Prop :=
  ∀ s t : State, VisitsOk s → step s = .next t → VisitsOk t

/-- The metrology log keeps at most 256 entries in rising sequence order, below the next number (R168). The
calibration counter stays at most 65535, and within reach of it by the adjustment in flight (R150, R159),
where the command at the front is one that can arrive: a RESTART reads no greater counter. -/
def Obligations.StepKeepsLog : Prop :=
  (∀ s t : State, LogOk s → step s = .next t → LogOk t) ∧
  (∀ s t : State, CounterOk s → (∀ c, s.pending.head? = some c → wellFormed c = true) →
    step s = .next t → CounterOk t)

/-- The order queue keeps one order per visit, at most two staged and none without an active one; a
capture in flight is that of an order in CAPTURING, and none is while a session is open. -/
def Obligations.StepKeepsOrders : Prop :=
  ∀ s t : State, OrdersOk s → step s = .next t → OrdersOk t

/-- A deck whose budget is 0 stays SUSPECT or UNVERIFIED (R9). -/
def Obligations.StepKeepsBudgets : Prop :=
  ∀ s t : State, BudgetsOk s → step s = .next t → BudgetsOk t
end

