-- ==== Sys2Proof/Laws/Arithmetic.lean ====
section
/-!
SUPPORT. The arithmetic of Machine/Arith.lean and the stability window, as claims use them.
-/

namespace Sys2Proof.Machine

/-- A count that stops at its limit. -/
theorem satInc_eq_min (l n : Nat) : satInc l n = min l (n + 1) := by
  unfold satInc; split <;> omega

theorem satInc_le (l n : Nat) : satInc l n ≤ l := by
  unfold satInc; split <;> omega

/-- The nearest limit of a quantity out of range. -/
theorem clamp_eq (lo hi v : Nat) (h : lo ≤ hi) : clamp lo hi v = max lo (min hi v) := by
  unfold clamp; split <;> [skip; split] <;> omega

theorem clamp_in (lo hi v : Nat) (h : lo ≤ hi) : lo ≤ clamp lo hi v ∧ clamp lo hi v ≤ hi := by
  unfold clamp; split <;> [skip; split] <;> omega

/-- The rounded quotient of a number that is not negative lies within half a unit, ties up. -/
theorem roundDiv_nonneg (a b : Int) (ha : 0 ≤ a) (hb : 0 < b) :
    2 * b * roundDiv a b ≤ 2 * a + b ∧ 2 * a + b < 2 * b * (roundDiv a b + 1) := by
  simp only [roundDiv, if_pos ha]
  have h2 : (0 : Int) < 2 * b := by omega
  constructor
  · exact Int.mul_ediv_self_le (by omega)
  · have := Int.lt_mul_ediv_self_add (x := 2 * a + b) h2
    rw [Int.mul_add]; omega

/-- Rounding takes a sign with it: ties go away from zero. -/
theorem roundDiv_neg (a b : Int) (ha : a ≠ 0) : roundDiv (-a) b = -roundDiv a b := by
  unfold roundDiv
  split <;> split <;> first | omega | simp

/-- The window never holds more than its size. -/
theorem windowPush_length (n : Nat) (w : List Int) (g : Int) (h : w.length ≤ n) :
    (windowPush n w g).length ≤ max n 1 := by
  unfold windowPush
  split <;> simp <;> omega

/-- The window takes the sample and keeps the last `n`. -/
theorem windowPush_eq (n : Nat) (w : List Int) (g : Int) (h : w.length ≤ n) :
    windowPush n w g = (w ++ [g]).drop (w.length + 1 - n) := by
  unfold windowPush
  split
  · congr 1; omega
  · rw [show w.length + 1 - n = 0 by omega]; rfl

end Sys2Proof.Machine
end

