-- ==== Sys2Proof/Laws/State.lean ====
section
/-!
SUPPORT. Each update of the state, field by field.
-/

namespace Sys2Proof.Machine

variable (s : State)

/-! ### setFront -/

@[simp] theorem State.setFront_front (d : DeckId) (f : FrontEnd → FrontEnd) :
    (s.setFront d f).front = upd s.front d f := rfl

@[simp] theorem State.setFront_decks (d : DeckId) (f : FrontEnd → FrontEnd) :
    (s.setFront d f).decks = s.decks := rfl

@[simp] theorem State.setFront_axle (d : DeckId) (f : FrontEnd → FrontEnd) :
    (s.setFront d f).axle = s.axle := rfl

@[simp] theorem State.setFront_order (d : DeckId) (f : FrontEnd → FrontEnd) :
    (s.setFront d f).order = s.order := rfl

@[simp] theorem State.setFront_check (d : DeckId) (f : FrontEnd → FrontEnd) :
    (s.setFront d f).check = s.check := rfl

@[simp] theorem State.setFront_visit (d : DeckId) (f : FrontEnd → FrontEnd) :
    (s.setFront d f).visit = s.visit := rfl

@[simp] theorem State.setFront_ticket (d : DeckId) (f : FrontEnd → FrontEnd) :
    (s.setFront d f).ticket = s.ticket := rfl

@[simp] theorem State.setFront_watch (d : DeckId) (f : FrontEnd → FrontEnd) :
    (s.setFront d f).watch = s.watch := rfl

@[simp] theorem State.setFront_metro (d : DeckId) (f : FrontEnd → FrontEnd) :
    (s.setFront d f).metro = s.metro := rfl

@[simp] theorem State.setFront_ports (d : DeckId) (f : FrontEnd → FrontEnd) :
    (s.setFront d f).ports = s.ports := rfl

@[simp] theorem State.setFront_clock (d : DeckId) (f : FrontEnd → FrontEnd) :
    (s.setFront d f).clock = s.clock := rfl

@[simp] theorem State.setFront_power (d : DeckId) (f : FrontEnd → FrontEnd) :
    (s.setFront d f).power = s.power := rfl

@[simp] theorem State.setFront_pending (d : DeckId) (f : FrontEnd → FrontEnd) :
    (s.setFront d f).pending = s.pending := rfl

/-! ### setDeck -/

@[simp] theorem State.setDeck_front (d : DeckId) (f : Deck → Deck) :
    (s.setDeck d f).front = s.front := rfl

@[simp] theorem State.setDeck_decks (d : DeckId) (f : Deck → Deck) :
    (s.setDeck d f).decks = upd s.decks d f := rfl

@[simp] theorem State.setDeck_axle (d : DeckId) (f : Deck → Deck) :
    (s.setDeck d f).axle = s.axle := rfl

@[simp] theorem State.setDeck_order (d : DeckId) (f : Deck → Deck) :
    (s.setDeck d f).order = s.order := rfl

@[simp] theorem State.setDeck_check (d : DeckId) (f : Deck → Deck) :
    (s.setDeck d f).check = s.check := rfl

@[simp] theorem State.setDeck_visit (d : DeckId) (f : Deck → Deck) :
    (s.setDeck d f).visit = s.visit := rfl

@[simp] theorem State.setDeck_ticket (d : DeckId) (f : Deck → Deck) :
    (s.setDeck d f).ticket = s.ticket := rfl

@[simp] theorem State.setDeck_watch (d : DeckId) (f : Deck → Deck) :
    (s.setDeck d f).watch = s.watch := rfl

@[simp] theorem State.setDeck_metro (d : DeckId) (f : Deck → Deck) :
    (s.setDeck d f).metro = s.metro := rfl

@[simp] theorem State.setDeck_ports (d : DeckId) (f : Deck → Deck) :
    (s.setDeck d f).ports = s.ports := rfl

@[simp] theorem State.setDeck_clock (d : DeckId) (f : Deck → Deck) :
    (s.setDeck d f).clock = s.clock := rfl

@[simp] theorem State.setDeck_power (d : DeckId) (f : Deck → Deck) :
    (s.setDeck d f).power = s.power := rfl

@[simp] theorem State.setDeck_pending (d : DeckId) (f : Deck → Deck) :
    (s.setDeck d f).pending = s.pending := rfl

/-! ### setAxle -/

@[simp] theorem State.setAxle_front (f : AxleUnit → AxleUnit) :
    (s.setAxle f).front = s.front := rfl

@[simp] theorem State.setAxle_decks (f : AxleUnit → AxleUnit) :
    (s.setAxle f).decks = s.decks := rfl

@[simp] theorem State.setAxle_axle (f : AxleUnit → AxleUnit) :
    (s.setAxle f).axle = f s.axle := rfl

@[simp] theorem State.setAxle_order (f : AxleUnit → AxleUnit) :
    (s.setAxle f).order = s.order := rfl

@[simp] theorem State.setAxle_check (f : AxleUnit → AxleUnit) :
    (s.setAxle f).check = s.check := rfl

@[simp] theorem State.setAxle_visit (f : AxleUnit → AxleUnit) :
    (s.setAxle f).visit = s.visit := rfl

@[simp] theorem State.setAxle_ticket (f : AxleUnit → AxleUnit) :
    (s.setAxle f).ticket = s.ticket := rfl

@[simp] theorem State.setAxle_watch (f : AxleUnit → AxleUnit) :
    (s.setAxle f).watch = s.watch := rfl

@[simp] theorem State.setAxle_metro (f : AxleUnit → AxleUnit) :
    (s.setAxle f).metro = s.metro := rfl

@[simp] theorem State.setAxle_ports (f : AxleUnit → AxleUnit) :
    (s.setAxle f).ports = s.ports := rfl

@[simp] theorem State.setAxle_clock (f : AxleUnit → AxleUnit) :
    (s.setAxle f).clock = s.clock := rfl

@[simp] theorem State.setAxle_power (f : AxleUnit → AxleUnit) :
    (s.setAxle f).power = s.power := rfl

@[simp] theorem State.setAxle_pending (f : AxleUnit → AxleUnit) :
    (s.setAxle f).pending = s.pending := rfl

/-! ### setPair -/

@[simp] theorem State.setPair_front (j : Boundary) (f : Pair → Pair) :
    (s.setPair j f).front = s.front := rfl

@[simp] theorem State.setPair_decks (j : Boundary) (f : Pair → Pair) :
    (s.setPair j f).decks = s.decks := rfl

@[simp] theorem State.setPair_axle (j : Boundary) (f : Pair → Pair) :
    (s.setPair j f).axle = { s.axle with pairs := upd s.axle.pairs j f } := rfl

@[simp] theorem State.setPair_order (j : Boundary) (f : Pair → Pair) :
    (s.setPair j f).order = s.order := rfl

@[simp] theorem State.setPair_check (j : Boundary) (f : Pair → Pair) :
    (s.setPair j f).check = s.check := rfl

@[simp] theorem State.setPair_visit (j : Boundary) (f : Pair → Pair) :
    (s.setPair j f).visit = s.visit := rfl

@[simp] theorem State.setPair_ticket (j : Boundary) (f : Pair → Pair) :
    (s.setPair j f).ticket = s.ticket := rfl

@[simp] theorem State.setPair_watch (j : Boundary) (f : Pair → Pair) :
    (s.setPair j f).watch = s.watch := rfl

@[simp] theorem State.setPair_metro (j : Boundary) (f : Pair → Pair) :
    (s.setPair j f).metro = s.metro := rfl

@[simp] theorem State.setPair_ports (j : Boundary) (f : Pair → Pair) :
    (s.setPair j f).ports = s.ports := rfl

@[simp] theorem State.setPair_clock (j : Boundary) (f : Pair → Pair) :
    (s.setPair j f).clock = s.clock := rfl

@[simp] theorem State.setPair_power (j : Boundary) (f : Pair → Pair) :
    (s.setPair j f).power = s.power := rfl

@[simp] theorem State.setPair_pending (j : Boundary) (f : Pair → Pair) :
    (s.setPair j f).pending = s.pending := rfl

/-! ### setMap -/

@[simp] theorem State.setMap_front (f : AxleMap → AxleMap) :
    (s.setMap f).front = s.front := rfl

@[simp] theorem State.setMap_decks (f : AxleMap → AxleMap) :
    (s.setMap f).decks = s.decks := rfl

@[simp] theorem State.setMap_axle (f : AxleMap → AxleMap) :
    (s.setMap f).axle = { s.axle with map := f s.axle.map } := rfl

@[simp] theorem State.setMap_order (f : AxleMap → AxleMap) :
    (s.setMap f).order = s.order := rfl

@[simp] theorem State.setMap_check (f : AxleMap → AxleMap) :
    (s.setMap f).check = s.check := rfl

@[simp] theorem State.setMap_visit (f : AxleMap → AxleMap) :
    (s.setMap f).visit = s.visit := rfl

@[simp] theorem State.setMap_ticket (f : AxleMap → AxleMap) :
    (s.setMap f).ticket = s.ticket := rfl

@[simp] theorem State.setMap_watch (f : AxleMap → AxleMap) :
    (s.setMap f).watch = s.watch := rfl

@[simp] theorem State.setMap_metro (f : AxleMap → AxleMap) :
    (s.setMap f).metro = s.metro := rfl

@[simp] theorem State.setMap_ports (f : AxleMap → AxleMap) :
    (s.setMap f).ports = s.ports := rfl

@[simp] theorem State.setMap_clock (f : AxleMap → AxleMap) :
    (s.setMap f).clock = s.clock := rfl

@[simp] theorem State.setMap_power (f : AxleMap → AxleMap) :
    (s.setMap f).power = s.power := rfl

@[simp] theorem State.setMap_pending (f : AxleMap → AxleMap) :
    (s.setMap f).pending = s.pending := rfl

/-! ### setOrder -/

@[simp] theorem State.setOrder_front (f : OrderUnit → OrderUnit) :
    (s.setOrder f).front = s.front := rfl

@[simp] theorem State.setOrder_decks (f : OrderUnit → OrderUnit) :
    (s.setOrder f).decks = s.decks := rfl

@[simp] theorem State.setOrder_axle (f : OrderUnit → OrderUnit) :
    (s.setOrder f).axle = s.axle := rfl

@[simp] theorem State.setOrder_order (f : OrderUnit → OrderUnit) :
    (s.setOrder f).order = f s.order := rfl

@[simp] theorem State.setOrder_check (f : OrderUnit → OrderUnit) :
    (s.setOrder f).check = s.check := rfl

@[simp] theorem State.setOrder_visit (f : OrderUnit → OrderUnit) :
    (s.setOrder f).visit = s.visit := rfl

@[simp] theorem State.setOrder_ticket (f : OrderUnit → OrderUnit) :
    (s.setOrder f).ticket = s.ticket := rfl

@[simp] theorem State.setOrder_watch (f : OrderUnit → OrderUnit) :
    (s.setOrder f).watch = s.watch := rfl

@[simp] theorem State.setOrder_metro (f : OrderUnit → OrderUnit) :
    (s.setOrder f).metro = s.metro := rfl

@[simp] theorem State.setOrder_ports (f : OrderUnit → OrderUnit) :
    (s.setOrder f).ports = s.ports := rfl

@[simp] theorem State.setOrder_clock (f : OrderUnit → OrderUnit) :
    (s.setOrder f).clock = s.clock := rfl

@[simp] theorem State.setOrder_power (f : OrderUnit → OrderUnit) :
    (s.setOrder f).power = s.power := rfl

@[simp] theorem State.setOrder_pending (f : OrderUnit → OrderUnit) :
    (s.setOrder f).pending = s.pending := rfl

/-! ### setCheck -/

@[simp] theorem State.setCheck_front (f : AxleCheck → AxleCheck) :
    (s.setCheck f).front = s.front := rfl

@[simp] theorem State.setCheck_decks (f : AxleCheck → AxleCheck) :
    (s.setCheck f).decks = s.decks := rfl

@[simp] theorem State.setCheck_axle (f : AxleCheck → AxleCheck) :
    (s.setCheck f).axle = s.axle := rfl

@[simp] theorem State.setCheck_order (f : AxleCheck → AxleCheck) :
    (s.setCheck f).order = s.order := rfl

@[simp] theorem State.setCheck_check (f : AxleCheck → AxleCheck) :
    (s.setCheck f).check = f s.check := rfl

@[simp] theorem State.setCheck_visit (f : AxleCheck → AxleCheck) :
    (s.setCheck f).visit = s.visit := rfl

@[simp] theorem State.setCheck_ticket (f : AxleCheck → AxleCheck) :
    (s.setCheck f).ticket = s.ticket := rfl

@[simp] theorem State.setCheck_watch (f : AxleCheck → AxleCheck) :
    (s.setCheck f).watch = s.watch := rfl

@[simp] theorem State.setCheck_metro (f : AxleCheck → AxleCheck) :
    (s.setCheck f).metro = s.metro := rfl

@[simp] theorem State.setCheck_ports (f : AxleCheck → AxleCheck) :
    (s.setCheck f).ports = s.ports := rfl

@[simp] theorem State.setCheck_clock (f : AxleCheck → AxleCheck) :
    (s.setCheck f).clock = s.clock := rfl

@[simp] theorem State.setCheck_power (f : AxleCheck → AxleCheck) :
    (s.setCheck f).power = s.power := rfl

@[simp] theorem State.setCheck_pending (f : AxleCheck → AxleCheck) :
    (s.setCheck f).pending = s.pending := rfl

/-! ### setVisit -/

@[simp] theorem State.setVisit_front (f : VisitUnit → VisitUnit) :
    (s.setVisit f).front = s.front := rfl

@[simp] theorem State.setVisit_decks (f : VisitUnit → VisitUnit) :
    (s.setVisit f).decks = s.decks := rfl

@[simp] theorem State.setVisit_axle (f : VisitUnit → VisitUnit) :
    (s.setVisit f).axle = s.axle := rfl

@[simp] theorem State.setVisit_order (f : VisitUnit → VisitUnit) :
    (s.setVisit f).order = s.order := rfl

@[simp] theorem State.setVisit_check (f : VisitUnit → VisitUnit) :
    (s.setVisit f).check = s.check := rfl

@[simp] theorem State.setVisit_visit (f : VisitUnit → VisitUnit) :
    (s.setVisit f).visit = f s.visit := rfl

@[simp] theorem State.setVisit_ticket (f : VisitUnit → VisitUnit) :
    (s.setVisit f).ticket = s.ticket := rfl

@[simp] theorem State.setVisit_watch (f : VisitUnit → VisitUnit) :
    (s.setVisit f).watch = s.watch := rfl

@[simp] theorem State.setVisit_metro (f : VisitUnit → VisitUnit) :
    (s.setVisit f).metro = s.metro := rfl

@[simp] theorem State.setVisit_ports (f : VisitUnit → VisitUnit) :
    (s.setVisit f).ports = s.ports := rfl

@[simp] theorem State.setVisit_clock (f : VisitUnit → VisitUnit) :
    (s.setVisit f).clock = s.clock := rfl

@[simp] theorem State.setVisit_power (f : VisitUnit → VisitUnit) :
    (s.setVisit f).power = s.power := rfl

@[simp] theorem State.setVisit_pending (f : VisitUnit → VisitUnit) :
    (s.setVisit f).pending = s.pending := rfl

/-! ### setTicket -/

@[simp] theorem State.setTicket_front (f : TicketUnit → TicketUnit) :
    (s.setTicket f).front = s.front := rfl

@[simp] theorem State.setTicket_decks (f : TicketUnit → TicketUnit) :
    (s.setTicket f).decks = s.decks := rfl

@[simp] theorem State.setTicket_axle (f : TicketUnit → TicketUnit) :
    (s.setTicket f).axle = s.axle := rfl

@[simp] theorem State.setTicket_order (f : TicketUnit → TicketUnit) :
    (s.setTicket f).order = s.order := rfl

@[simp] theorem State.setTicket_check (f : TicketUnit → TicketUnit) :
    (s.setTicket f).check = s.check := rfl

@[simp] theorem State.setTicket_visit (f : TicketUnit → TicketUnit) :
    (s.setTicket f).visit = s.visit := rfl

@[simp] theorem State.setTicket_ticket (f : TicketUnit → TicketUnit) :
    (s.setTicket f).ticket = f s.ticket := rfl

@[simp] theorem State.setTicket_watch (f : TicketUnit → TicketUnit) :
    (s.setTicket f).watch = s.watch := rfl

@[simp] theorem State.setTicket_metro (f : TicketUnit → TicketUnit) :
    (s.setTicket f).metro = s.metro := rfl

@[simp] theorem State.setTicket_ports (f : TicketUnit → TicketUnit) :
    (s.setTicket f).ports = s.ports := rfl

@[simp] theorem State.setTicket_clock (f : TicketUnit → TicketUnit) :
    (s.setTicket f).clock = s.clock := rfl

@[simp] theorem State.setTicket_power (f : TicketUnit → TicketUnit) :
    (s.setTicket f).power = s.power := rfl

@[simp] theorem State.setTicket_pending (f : TicketUnit → TicketUnit) :
    (s.setTicket f).pending = s.pending := rfl

/-! ### setWatch -/

@[simp] theorem State.setWatch_front (f : WatchUnit → WatchUnit) :
    (s.setWatch f).front = s.front := rfl

@[simp] theorem State.setWatch_decks (f : WatchUnit → WatchUnit) :
    (s.setWatch f).decks = s.decks := rfl

@[simp] theorem State.setWatch_axle (f : WatchUnit → WatchUnit) :
    (s.setWatch f).axle = s.axle := rfl

@[simp] theorem State.setWatch_order (f : WatchUnit → WatchUnit) :
    (s.setWatch f).order = s.order := rfl

@[simp] theorem State.setWatch_check (f : WatchUnit → WatchUnit) :
    (s.setWatch f).check = s.check := rfl

@[simp] theorem State.setWatch_visit (f : WatchUnit → WatchUnit) :
    (s.setWatch f).visit = s.visit := rfl

@[simp] theorem State.setWatch_ticket (f : WatchUnit → WatchUnit) :
    (s.setWatch f).ticket = s.ticket := rfl

@[simp] theorem State.setWatch_watch (f : WatchUnit → WatchUnit) :
    (s.setWatch f).watch = f s.watch := rfl

@[simp] theorem State.setWatch_metro (f : WatchUnit → WatchUnit) :
    (s.setWatch f).metro = s.metro := rfl

@[simp] theorem State.setWatch_ports (f : WatchUnit → WatchUnit) :
    (s.setWatch f).ports = s.ports := rfl

@[simp] theorem State.setWatch_clock (f : WatchUnit → WatchUnit) :
    (s.setWatch f).clock = s.clock := rfl

@[simp] theorem State.setWatch_power (f : WatchUnit → WatchUnit) :
    (s.setWatch f).power = s.power := rfl

@[simp] theorem State.setWatch_pending (f : WatchUnit → WatchUnit) :
    (s.setWatch f).pending = s.pending := rfl

/-! ### setMetro -/

@[simp] theorem State.setMetro_front (f : Metrology → Metrology) :
    (s.setMetro f).front = s.front := rfl

@[simp] theorem State.setMetro_decks (f : Metrology → Metrology) :
    (s.setMetro f).decks = s.decks := rfl

@[simp] theorem State.setMetro_axle (f : Metrology → Metrology) :
    (s.setMetro f).axle = s.axle := rfl

@[simp] theorem State.setMetro_order (f : Metrology → Metrology) :
    (s.setMetro f).order = s.order := rfl

@[simp] theorem State.setMetro_check (f : Metrology → Metrology) :
    (s.setMetro f).check = s.check := rfl

@[simp] theorem State.setMetro_visit (f : Metrology → Metrology) :
    (s.setMetro f).visit = s.visit := rfl

@[simp] theorem State.setMetro_ticket (f : Metrology → Metrology) :
    (s.setMetro f).ticket = s.ticket := rfl

@[simp] theorem State.setMetro_watch (f : Metrology → Metrology) :
    (s.setMetro f).watch = s.watch := rfl

@[simp] theorem State.setMetro_metro (f : Metrology → Metrology) :
    (s.setMetro f).metro = f s.metro := rfl

@[simp] theorem State.setMetro_ports (f : Metrology → Metrology) :
    (s.setMetro f).ports = s.ports := rfl

@[simp] theorem State.setMetro_clock (f : Metrology → Metrology) :
    (s.setMetro f).clock = s.clock := rfl

@[simp] theorem State.setMetro_power (f : Metrology → Metrology) :
    (s.setMetro f).power = s.power := rfl

@[simp] theorem State.setMetro_pending (f : Metrology → Metrology) :
    (s.setMetro f).pending = s.pending := rfl

/-! ### setMetroDeck -/

@[simp] theorem State.setMetroDeck_front (d : DeckId) (f : MetroDeck → MetroDeck) :
    (s.setMetroDeck d f).front = s.front := rfl

@[simp] theorem State.setMetroDeck_decks (d : DeckId) (f : MetroDeck → MetroDeck) :
    (s.setMetroDeck d f).decks = s.decks := rfl

@[simp] theorem State.setMetroDeck_axle (d : DeckId) (f : MetroDeck → MetroDeck) :
    (s.setMetroDeck d f).axle = s.axle := rfl

@[simp] theorem State.setMetroDeck_order (d : DeckId) (f : MetroDeck → MetroDeck) :
    (s.setMetroDeck d f).order = s.order := rfl

@[simp] theorem State.setMetroDeck_check (d : DeckId) (f : MetroDeck → MetroDeck) :
    (s.setMetroDeck d f).check = s.check := rfl

@[simp] theorem State.setMetroDeck_visit (d : DeckId) (f : MetroDeck → MetroDeck) :
    (s.setMetroDeck d f).visit = s.visit := rfl

@[simp] theorem State.setMetroDeck_ticket (d : DeckId) (f : MetroDeck → MetroDeck) :
    (s.setMetroDeck d f).ticket = s.ticket := rfl

@[simp] theorem State.setMetroDeck_watch (d : DeckId) (f : MetroDeck → MetroDeck) :
    (s.setMetroDeck d f).watch = s.watch := rfl

@[simp] theorem State.setMetroDeck_metro (d : DeckId) (f : MetroDeck → MetroDeck) :
    (s.setMetroDeck d f).metro = { s.metro with decks := upd s.metro.decks d f } := rfl

@[simp] theorem State.setMetroDeck_ports (d : DeckId) (f : MetroDeck → MetroDeck) :
    (s.setMetroDeck d f).ports = s.ports := rfl

@[simp] theorem State.setMetroDeck_clock (d : DeckId) (f : MetroDeck → MetroDeck) :
    (s.setMetroDeck d f).clock = s.clock := rfl

@[simp] theorem State.setMetroDeck_power (d : DeckId) (f : MetroDeck → MetroDeck) :
    (s.setMetroDeck d f).power = s.power := rfl

@[simp] theorem State.setMetroDeck_pending (d : DeckId) (f : MetroDeck → MetroDeck) :
    (s.setMetroDeck d f).pending = s.pending := rfl

/-! ### setPort -/

@[simp] theorem State.setPort_front (p : Port) (f : PortState → PortState) :
    (s.setPort p f).front = s.front := rfl

@[simp] theorem State.setPort_decks (p : Port) (f : PortState → PortState) :
    (s.setPort p f).decks = s.decks := rfl

@[simp] theorem State.setPort_axle (p : Port) (f : PortState → PortState) :
    (s.setPort p f).axle = s.axle := rfl

@[simp] theorem State.setPort_order (p : Port) (f : PortState → PortState) :
    (s.setPort p f).order = s.order := rfl

@[simp] theorem State.setPort_check (p : Port) (f : PortState → PortState) :
    (s.setPort p f).check = s.check := rfl

@[simp] theorem State.setPort_visit (p : Port) (f : PortState → PortState) :
    (s.setPort p f).visit = s.visit := rfl

@[simp] theorem State.setPort_ticket (p : Port) (f : PortState → PortState) :
    (s.setPort p f).ticket = s.ticket := rfl

@[simp] theorem State.setPort_watch (p : Port) (f : PortState → PortState) :
    (s.setPort p f).watch = s.watch := rfl

@[simp] theorem State.setPort_metro (p : Port) (f : PortState → PortState) :
    (s.setPort p f).metro = s.metro := rfl

@[simp] theorem State.setPort_ports (p : Port) (f : PortState → PortState) :
    (s.setPort p f).ports = upd s.ports (portNumber p) f := rfl

@[simp] theorem State.setPort_clock (p : Port) (f : PortState → PortState) :
    (s.setPort p f).clock = s.clock := rfl

@[simp] theorem State.setPort_power (p : Port) (f : PortState → PortState) :
    (s.setPort p f).power = s.power := rfl

@[simp] theorem State.setPort_pending (p : Port) (f : PortState → PortState) :
    (s.setPort p f).pending = s.pending := rfl

/-! ### setClock -/

@[simp] theorem State.setClock_front (f : Clock → Clock) :
    (s.setClock f).front = s.front := rfl

@[simp] theorem State.setClock_decks (f : Clock → Clock) :
    (s.setClock f).decks = s.decks := rfl

@[simp] theorem State.setClock_axle (f : Clock → Clock) :
    (s.setClock f).axle = s.axle := rfl

@[simp] theorem State.setClock_order (f : Clock → Clock) :
    (s.setClock f).order = s.order := rfl

@[simp] theorem State.setClock_check (f : Clock → Clock) :
    (s.setClock f).check = s.check := rfl

@[simp] theorem State.setClock_visit (f : Clock → Clock) :
    (s.setClock f).visit = s.visit := rfl

@[simp] theorem State.setClock_ticket (f : Clock → Clock) :
    (s.setClock f).ticket = s.ticket := rfl

@[simp] theorem State.setClock_watch (f : Clock → Clock) :
    (s.setClock f).watch = s.watch := rfl

@[simp] theorem State.setClock_metro (f : Clock → Clock) :
    (s.setClock f).metro = s.metro := rfl

@[simp] theorem State.setClock_ports (f : Clock → Clock) :
    (s.setClock f).ports = s.ports := rfl

@[simp] theorem State.setClock_clock (f : Clock → Clock) :
    (s.setClock f).clock = f s.clock := rfl

@[simp] theorem State.setClock_power (f : Clock → Clock) :
    (s.setClock f).power = s.power := rfl

@[simp] theorem State.setClock_pending (f : Clock → Clock) :
    (s.setClock f).pending = s.pending := rfl

/-! ### withPending -/

@[simp] theorem State.withPending_front (q : List Instr) :
    (s.withPending q).front = s.front := rfl

@[simp] theorem State.withPending_decks (q : List Instr) :
    (s.withPending q).decks = s.decks := rfl

@[simp] theorem State.withPending_axle (q : List Instr) :
    (s.withPending q).axle = s.axle := rfl

@[simp] theorem State.withPending_order (q : List Instr) :
    (s.withPending q).order = s.order := rfl

@[simp] theorem State.withPending_check (q : List Instr) :
    (s.withPending q).check = s.check := rfl

@[simp] theorem State.withPending_visit (q : List Instr) :
    (s.withPending q).visit = s.visit := rfl

@[simp] theorem State.withPending_ticket (q : List Instr) :
    (s.withPending q).ticket = s.ticket := rfl

@[simp] theorem State.withPending_watch (q : List Instr) :
    (s.withPending q).watch = s.watch := rfl

@[simp] theorem State.withPending_metro (q : List Instr) :
    (s.withPending q).metro = s.metro := rfl

@[simp] theorem State.withPending_ports (q : List Instr) :
    (s.withPending q).ports = s.ports := rfl

@[simp] theorem State.withPending_clock (q : List Instr) :
    (s.withPending q).clock = s.clock := rfl

@[simp] theorem State.withPending_power (q : List Instr) :
    (s.withPending q).power = s.power := rfl

@[simp] theorem State.withPending_pending (q : List Instr) :
    (s.withPending q).pending = q := rfl

/-! ### raise -/

@[simp] theorem State.raise_front (c : Cause) :
    (s.raise c).front = s.front := rfl

@[simp] theorem State.raise_decks (c : Cause) :
    (s.raise c).decks = s.decks := rfl

@[simp] theorem State.raise_axle (c : Cause) :
    (s.raise c).axle = s.axle := rfl

@[simp] theorem State.raise_order (c : Cause) :
    (s.raise c).order = s.order := rfl

@[simp] theorem State.raise_check (c : Cause) :
    (s.raise c).check = s.check := rfl

@[simp] theorem State.raise_visit (c : Cause) :
    (s.raise c).visit = s.visit := rfl

@[simp] theorem State.raise_ticket (c : Cause) :
    (s.raise c).ticket = s.ticket := rfl

@[simp] theorem State.raise_watch (c : Cause) :
    (s.raise c).watch = s.watch := rfl

@[simp] theorem State.raise_metro (c : Cause) :
    (s.raise c).metro = s.metro := rfl

@[simp] theorem State.raise_ports (c : Cause) :
    (s.raise c).ports = vmap (countEvent c s.now) s.ports := rfl

@[simp] theorem State.raise_clock (c : Cause) :
    (s.raise c).clock = s.clock := rfl

@[simp] theorem State.raise_power (c : Cause) :
    (s.raise c).power = s.power := rfl

@[simp] theorem State.raise_pending (c : Cause) :
    (s.raise c).pending = s.pending := rfl

/-! ### drive -/

@[simp] theorem State.drive_decks : s.drive.decks = s.decks := rfl

@[simp] theorem State.drive_axle : s.drive.axle = s.axle := rfl

@[simp] theorem State.drive_check : s.drive.check = s.check := rfl

@[simp] theorem State.drive_visit : s.drive.visit = s.visit := rfl

@[simp] theorem State.drive_ticket : s.drive.ticket = s.ticket := rfl

@[simp] theorem State.drive_watch : s.drive.watch = s.watch := rfl

@[simp] theorem State.drive_metro : s.drive.metro = s.metro := rfl

@[simp] theorem State.drive_clock : s.drive.clock = s.clock := rfl

@[simp] theorem State.drive_power : s.drive.power = s.power := rfl

@[simp] theorem State.drive_pending : s.drive.pending = s.pending := rfl

end Sys2Proof.Machine
end

