-- ==== Sys2Proof/Laws/Vectors.lean ====
section
/-!
SUPPORT. Reading the `n` like things after each of the four ways to make them.
-/

namespace Sys2Proof

variable {α β : Type} {n : Nat}

@[simp] theorem upd_getElem (v : Vector α n) (i : Fin n) (f : α → α) (k : Nat) (h : k < n) :
    (upd v i f)[k] = if i.val = k then f v[k] else v[k] := by
  unfold upd
  rw [Vector.getElem_set]
  split
  · subst_vars; rfl
  · rfl

@[simp] theorem vmap_getElem (f : α → β) (v : Vector α n) (k : Nat) (h : k < n) :
    (vmap f v)[k] = f v[k] := by
  simp [vmap]

@[simp] theorem vgen_getElem (f : Fin n → α) (k : Nat) (h : k < n) :
    (vgen f)[k] = f ⟨k, h⟩ := by
  simp [vgen]

@[simp] theorem vrep_getElem (a : α) (k : Nat) (h : k < n) : (vrep n a)[k] = a := by
  simp [vrep]

/-- Mapping twice. -/
theorem vmap_vmap {γ : Type} (f : α → β) (g : β → γ) (v : Vector α n) :
    vmap g (vmap f v) = vmap (fun a => g (f a)) v := by
  apply Vector.ext; intro i hi; simp

/-- An update changes the thing it names and no other. -/
theorem upd_get (v : Vector α n) (i j : Fin n) (f : α → α) :
    (upd v i f)[j] = if i = j then f v[j] else v[j] := by
  simp [Fin.ext_iff]

theorem upd_upd (v : Vector α n) (i : Fin n) (f g : α → α) :
    upd (upd v i f) i g = upd v i (fun a => g (f a)) := by
  apply Vector.ext; intro k hk; simp; split <;> rfl

end Sys2Proof
end

