-- ==== Sys2Proof/Laws/Operations.lean ====
section
/-!
SUPPORT. What each shared operation can do, said once: the log, the status changes, the notices to the
order controller, aborts, samples that name a step, the legal writes' list, and that every command
answers a next state.
-/

namespace Sys2Proof.Machine

/-! ### Every command answers a next state -/

theorem exec_next (i : Instr) (s : State) : ∃ t, exec i s = .next t := by
  cases i <;> exact ⟨_, rfl⟩

theorem step_next (s : State) : ∃ t, step s = .next t := by
  unfold step
  cases s.pending with
  | nil => exact ⟨_, rfl⟩
  | cons c rest => exact exec_next c _

/-- A step on an empty queue is one millisecond. -/
theorem step_idle {s : State} (h : s.pending = []) : step s = .next (tick s) := by
  simp [step, h]

/-- A step carries out the front command. -/
theorem step_front {s : State} {c : Instr} {rest : List Instr} (h : s.pending = c :: rest) :
    step s = exec c (s.withPending rest) := by
  simp [step, h]

/-- What a step can do: a millisecond, or its front command. -/
theorem step_cases {s t : State} (h : step s = .next t) :
    (s.pending = [] ∧ t = tick s) ∨
      ∃ c rest, s.pending = c :: rest ∧ exec c (s.withPending rest) = .next t := by
  unfold step at h
  cases hp : s.pending with
  | nil =>
    rw [hp] at h
    cases h
    exact .inl ⟨rfl, rfl⟩
  | cons c rest =>
    rw [hp] at h
    exact .inr ⟨c, rest, rfl, h⟩

/-! ### The metrology log (R168) -/

/-- There is room for `n` entries exactly when the places and the sequence numbers, less those reserved,
suffice for them. -/
theorem le_logRoom {m : Metrology} {n : Nat} (hn : 0 < n) :
    n ≤ logRoom m ↔ m.log.length + reservedEntries m + n ≤ 256 ∧
      m.nextSeq + reservedEntries m + n ≤ 4294967295 := by
  unfold logRoom freeEntries logCapacity seqLimit
  split <;> omega

/-- Room is within the free entries that READ_LOG gives. -/
theorem logRoom_le_freeEntries (m : Metrology) : logRoom m ≤ freeEntries m := Nat.min_le_left _ _

/-- A protective entry is appended with the next number, or counted as lost. -/
theorem protectiveEntry_cases (m : Metrology) (t : Stamp) (k : LogKind) (d : Option DeckId) :
    (0 < logRoom m ∧ protectiveEntry m t k d = appendEntry m t k d) ∨
      (logRoom m = 0 ∧ protectiveEntry m t k d = { m with lost := satInc 65535 m.lost }) := by
  unfold protectiveEntry
  split
  · exact .inl ⟨‹_›, rfl⟩
  · exact .inr ⟨by omega, rfl⟩

/-- A deliberate entry is appended where there is room, which its request has found. -/
theorem deliberateEntry_cases (m : Metrology) (t : Stamp) (k : LogKind) (d : Option DeckId) :
    (0 < logRoom m ∧ deliberateEntry m t k d = appendEntry m t k d) ∨
      (logRoom m = 0 ∧ deliberateEntry m t k d = { m with lost := satInc 65535 m.lost }) :=
  protectiveEntry_cases m t k d

@[simp] theorem appendEntry_log (m : Metrology) (t : Stamp) (k : LogKind) (d : Option DeckId) :
    (appendEntry m t k d).log = m.log ++ [⟨m.nextSeq, t, k, m.cal, d⟩] := rfl

@[simp] theorem appendEntry_nextSeq (m : Metrology) (t : Stamp) (k : LogKind) (d : Option DeckId) :
    (appendEntry m t k d).nextSeq = m.nextSeq + 1 := rfl

/-! ### Legal writes (R151, R152) -/

/-- A request whose writes are all unchanged is without effect. -/
@[simp] theorem legalWrite_nil (s : State) : legalWrite [] s = s := rfl

@[simp] theorem rewriteCheck_nil (m : Metrology) : rewriteCheck [] m = m := rfl

/-- A write renews the check value alone. -/
theorem rewriteCheck_cons (w : Write) (ws : List Write) (m : Metrology) :
    rewriteCheck (w :: ws) m = { m with check := Config.legalCheck m.legal m.cal } := rfl

/-! ### Restart (R183, R187) -/

/-- A change is the latest of those made. -/
@[simp] theorem make_made (c : VisitChange) (u : VisitUnit) : (make c u).made = u.made ++ [c] := rfl

@[simp] theorem make_visits (c : VisitChange) (u : VisitUnit) :
    (make c u).visits = (applyChange c u).visits := rfl

@[simp] theorem make_counter (c : VisitChange) (u : VisitUnit) :
    (make c u).counter = (applyChange c u).counter := rfl

@[simp] theorem make_tares (c : VisitChange) (u : VisitUnit) :
    (make c u).tares = (applyChange c u).tares := rfl

@[simp] theorem make_validity (c : VisitChange) (u : VisitUnit) :
    (make c u).validity = (applyChange c u).validity := rfl

@[simp] theorem make_initialUses (c : VisitChange) (u : VisitUnit) :
    (make c u).initialUses = (applyChange c u).initialUses := rfl

/-- Changes made one after another are those made before, and then they. -/
theorem makeAll_made {l : List VisitChange} : ∀ {u u' : VisitUnit}, makeAll u l = some u' →
    u'.made = u.made ++ l := by
  induction l with
  | nil => intro u u' h; cases h; simp
  | cons c l ih =>
    intro u u' h
    simp only [makeAll] at h
    split at h
    · simpa using ih h
    · cases h

/-- With nothing changed since, the unit without a request is the unit as the request met it. -/
theorem unitWithout_fresh {c : Answered} {u : VisitUnit} (h : changesSince c u = [])
    (hs : soundTables c.before = true) : unitWithout c u = some c.before := by
  simp [unitWithout, h, makeAll, Option.filter, hs]

/-- The unit without a request: the changes since made without it, on sound tables; otherwise the unit as it
stands. -/
theorem withoutRequest_cases (c : Answered) (u : VisitUnit) :
    (∃ u', makeAll c.before (changesSince c u) = some u' ∧ soundTables u' = true ∧
      withoutRequest c u = u') ∨
      (unitWithout c u = none ∧ withoutRequest c u = u) := by
  unfold withoutRequest unitWithout
  cases h : makeAll c.before (changesSince c u) with
  | none => exact .inr ⟨rfl, rfl⟩
  | some x => cases hs : soundTables x <;> simp [Option.filter, hs]

/-- The latest request being answered is found not made; where there is none, nothing happens. -/
theorem takeBack_cases (s : State) :
    latestUnsent s = none ∧ takeBack s = s ∨ ∃ p c, latestUnsent s = some (p, c) ∧
      takeBack s =
        (s.setPort p fun x => { x with answered := none }).setVisit (withoutRequest c) := by
  unfold takeBack
  cases h : latestUnsent s with
  | none => exact .inl ⟨rfl, rfl⟩
  | some x => exact .inr ⟨x.1, x.2, rfl, rfl⟩

/-- It touches the visit table unit and the ports alone. -/
theorem takeBack_frame (s : State) :
    ∃ u ps, takeBack s = { s with visit := u, ports := ps } := by
  rcases takeBack_cases s with ⟨-, h⟩ | ⟨p, c, -, h⟩
  · exact ⟨s.visit, s.ports, h⟩
  · exact ⟨_, _, h.trans rfl⟩

theorem takeBackAll_frame (s : State) :
    ∃ u ps, takeBackAll s = { s with visit := u, ports := ps } := by
  obtain ⟨_, _, h⟩ := takeBack_frame s
  obtain ⟨_, _, h'⟩ := takeBack_frame (takeBack s)
  obtain ⟨u, ps, h''⟩ := takeBack_frame (takeBack (takeBack s))
  exact ⟨_, _, by rw [takeBackAll, h'', h', h]; rfl⟩

/-- A request being answered is among those that the latest is taken from. -/
theorem latestUnsent_unsent {s : State} {p : Port} {c : Answered}
    (h : latestUnsent s = some (p, c)) : unsentChange (s.portState p) = some c := by
  simp only [latestUnsent, allPorts, List.foldl_cons, List.foldl_nil] at h
  cases h1 : unsentChange (s.portState .console) <;> cases h2 : unsentChange (s.portState .office) <;>
    cases h3 : unsentChange (s.portState .inspection) <;>
    simp only [h1, h2, h3, laterOf, Option.map_none, Option.map_some] at h <;>
    grind

/-- With no request of the visit table unit being answered nothing is taken back. -/
theorem takeBack_none {s : State} (h : ∀ p, unsentChange (s.portState p) = none) :
    takeBack s = s := by
  have hl : latestUnsent s = none := by simp [latestUnsent, allPorts, h, laterOf]
  simp [takeBack, hl]

theorem takeBackAll_none {s : State} (h : ∀ p, unsentChange (s.portState p) = none) :
    takeBackAll s = forgetAnswers s := by
  simp [takeBackAll, takeBack_none h]

/-- A restart runs whole, or is interrupted with the machine held again. -/
theorem execRestart_cases (b : Bool) (r : RestartRun) (s : State) :
    (r.cut = none ∧ execRestart b r s = .next (restartWhole b r.asRead s).drive) ∨
      ∃ x, r.cut = some x ∧ execRestart b r s = .next (restartCutShort b r.asRead x s).drive := by
  obtain ⟨r, c⟩ := r
  cases c with
  | none => exact .inl ⟨rfl, rfl⟩
  | some x => exact .inr ⟨x, rfl, rfl⟩

theorem restartWhole_power (b : Bool) (r : Option LegalRead) (s : State) :
    (restartWhole b r s).power = .running := rfl

theorem restartCutShort_power (b : Bool) (r : Option LegalRead) (c : RestartCut) (s : State) :
    (restartCutShort b r c s).power = holdPower c.powerLost s.power := rfl

/-- Closing a lost session changes the metrology unit alone, and its marker is then clear. -/
theorem closeLostSession_cases (s : State) :
    (s.metro.marker = false ∧ closeLostSession s = s) ∨
      (s.metro.marker = true ∧ ∃ m : Metrology, m.marker = false ∧
        closeLostSession s = s.setMetro fun _ => m) := by
  unfold closeLostSession
  cases h : s.metro.marker with
  | false => exact .inl ⟨rfl, rfl⟩
  | true => exact .inr ⟨rfl, _, rfl, rfl⟩

/-! ### Notices to the order controller (R67) -/

/-- A notice leaves the state, or sets the condition run to 0. -/
theorem noticeConditions_cases (s : State) :
    noticeConditions s = s ∨
      noticeConditions s = s.setOrder fun u => { u with condRun := 0 } := by
  unfold noticeConditions
  split
  · exact .inr rfl
  · exact .inl rfl

/-- A notice changes the condition run alone. -/
theorem noticeConditions_eq (s : State) :
    ∃ n, noticeConditions s = s.setOrder fun u => { u with condRun := n } := by
  rcases noticeConditions_cases s with h | h
  · exact ⟨s.order.condRun, h⟩
  · exact ⟨0, h⟩

/-- An abort leaves the state when no capture is in flight; otherwise the order returns to the state it
started from, its run 0, with an ORDER event (R71). -/
theorem abortCapture_cases (c : AbortCause) (s : State) :
    abortCapture c s = s ∨ ∃ e a, s.order.engine = some e ∧ s.order.active = some a ∧
      abortCapture c s = (s.setOrder fun u =>
        { u with
          engine := none
          condRun := 0
          active := some { a with state := e.fromState } }).raise
        (.orderAborted a.order.visit a.order.kind c) := by
  unfold abortCapture
  split
  · exact .inr ⟨_, _, ‹_›, ‹_›, rfl⟩
  · exact .inl rfl

theorem abortCapture_none {c : AbortCause} {s : State} (h : s.order.engine = none) :
    abortCapture c s = s := by
  simp [abortCapture, h]

/-! ### Status changes (R154, R156) -/

/-- A status change: nothing when the status is the new one, otherwise the status and its entry. -/
theorem changeStatus_cases (p : Bool) (d : DeckId) (new : VStatus) (c : StatusCause) (s : State) :
    (s.deckStatus d = new ∧ changeStatus p d new c s = s) ∨
      (s.deckStatus d ≠ new ∧ ∃ m : Metrology,
        changeStatus p d new c s = s.setMetro (fun _ => m) ∧
        m.decks = upd s.metro.decks d (fun x => { x with status := new }) ∧
        m.legal = s.metro.legal ∧ m.cal = s.metro.cal ∧ m.session = s.metro.session ∧
        m.switch = s.metro.switch) := by
  unfold changeStatus
  by_cases h : s.deckStatus d = new
  · exact .inl ⟨h, by simp [h]⟩
  · refine .inr ⟨h, ?_⟩
    simp only [h, if_false]
    cases p
    · exact ⟨_, rfl, by
        refine ⟨?_, ?_, ?_, ?_, ?_⟩ <;>
          (simp only [deliberateEntry, protectiveEntry]; split <;> rfl)⟩
    · exact ⟨_, rfl, by
        refine ⟨?_, ?_, ?_, ?_, ?_⟩ <;>
          (simp only [protectiveEntry]; split <;> rfl)⟩

/-- A deck lowered for protection is never VERIFIED or DUE. -/
theorem downgraded_cases (v : VStatus) :
    (v = .unverified ∧ downgraded v = .unverified) ∨ downgraded v = .suspect := by
  cases v <;> simp [downgraded]

/-! ### Samples that name a step -/

/-- A named sample is the sample, or nothing. -/
theorem takeSampleIf_cases (endFirst : Bool) (named : Happened → Bool) (d : DeckId)
    (conv : Conversion) (s : State) :
    takeSampleIf endFirst named d conv s = s ∨
      takeSampleIf endFirst named d conv s = takeSample endFirst d conv s := by
  unfold takeSampleIf takeSample
  dsimp only
  split
  · split
    · exact .inr rfl
    · exact .inl rfl
  · exact .inl rfl

/-! ### The axle map -/

/-- A crossing of a map without a pass starts one at an entry boundary, or faults NOT_ENTRY. -/
theorem crossMap_outside (n j : Nat) (d : Direction) (m : AxleMap) (h : m.direction = none) :
    crossMap n j d m = .fault .notEntry ∨ (d = .forward ∧ j = 0) ∨ (d = .reverse ∧ j = n) := by
  unfold crossMap
  simp only [h]
  split
  · exact .inr (.inl ‹_›)
  · split
    · exact .inr (.inr ‹_›)
    · exact .inl rfl

/-- Moving an axle keeps the list's length. -/
theorem moveFirst_length (a b : DeckId) (l : List Axle) : (moveFirst a b l).length = l.length := by
  induction l with
  | nil => rfl
  | cons x l ih => simp only [moveFirst]; split <;> simp [ih]

theorem moveLast_length (a b : DeckId) (l : List Axle) : (moveLast a b l).length = l.length := by
  simp [moveLast, moveFirst_length]

/-- Moving an axle keeps the indices. -/
theorem moveFirst_index (a b : DeckId) (l : List Axle) :
    (moveFirst a b l).map (·.index) = l.map (·.index) := by
  induction l with
  | nil => rfl
  | cons x l ih => simp only [moveFirst]; split <;> simp [ih]

/-! ### Journal and visits -/

/-- The journal takes a ticket at its end and never holds more than 512. -/
theorem journalAppend_length (j : List Ticket) (t : Ticket) (h : j.length ≤ 512) :
    (journalAppend j t).length ≤ 512 := by
  unfold journalAppend
  split <;> simp <;> omega

theorem journalAppend_last (j : List Ticket) (t : Ticket) :
    (journalAppend j t).getLast? = some t := by
  unfold journalAppend
  split <;> simp

/-- A change of one visit keeps the numbers. -/
theorem updateVisit_numbers (n : Nat) (f : Visit → Visit) (u : VisitUnit)
    (hf : ∀ v, (f v).number = v.number) :
    (updateVisit n f u).visits.map (·.number) = u.visits.map (·.number) := by
  simp only [updateVisit, List.map_map]
  apply List.map_congr_left
  intro v _
  simp only [Function.comp]
  split
  · exact hf v
  · rfl

/-- The visit found under a number carries it. -/
theorem findVisit_number {u : VisitUnit} {n : Nat} {v : Visit} (h : findVisit u n = some v) :
    v.number = n ∧ v ∈ u.visits := by
  unfold findVisit at h
  exact ⟨by simpa using List.find?_some h, List.mem_of_find?_eq_some h⟩

end Sys2Proof.Machine
end

