-- ==== Sys2Proof/Laws/Requests.lean ====
section
/-!
SUPPORT. What taking a command and answering a request can do: the lemmas that claims about one command
start from.
-/

namespace Sys2Proof.Machine

/-! ### runCommand -/

theorem runCommand_running {f : State → State} {s : State} (h : s.power = .running) :
    runCommand f s = .next (f s).drive := by
  simp [runCommand, h]

theorem runCommand_held {f : State → State} {s : State} (h : s.power ≠ .running) :
    runCommand f s = .next s := by
  simp [runCommand, h]

/-- A command that acts only while the machine runs answers a next state. -/
theorem runCommand_next (f : State → State) (s : State) :
    runCommand f s = .next (if s.power = .running then (f s).drive else s) := rfl

/-! ### Ports -/

@[simp] theorem portState_setPort_same (s : State) (p : Port) (f : PortState → PortState) :
    (s.setPort p f).portState p = f (s.portState p) := by
  simp [State.portState]

theorem portNumber_inj {p q : Port} (h : portNumber p = portNumber q) : p = q := by
  cases p <;> cases q <;> first | rfl | (exact absurd h (by decide))

theorem portState_setPort_ne (s : State) {p q : Port} (f : PortState → PortState) (h : p ≠ q) :
    (s.setPort p f).portState q = s.portState q := by
  have : (portNumber p).val ≠ (portNumber q).val := fun e => h (portNumber_inj (Fin.ext e))
  simp [State.portState, this]

theorem takeFrame_taken {u : VisitUnit} {p : PortState} (h1 : p.receiver ≠ .answering)
    (h2 : p.overrun = false) :
    takeFrame u p =
      (true, { p with receiver := .answering, answered := some ⟨u, u.made.length⟩ }) := by
  simp [takeFrame, h1, h2]

/-! ### Requests -/

theorem setPort_eq (s : State) (p : Port) (f : PortState → PortState) :
    s.setPort p (fun _ => f (s.portState p)) = s.setPort p f := rfl

/-- A request that a port takes: the port unit's tests and the owner's answer, from the received
state. -/
theorem request_taken {h : Header} {k : ReqKind} {owner : State → State × Response} {s : State}
    (ht : TakesFrame h.port s) :
    request h k owner s = .next (routeRequest h k owner (s.received h)).drive := by
  obtain ⟨hp, hr, ho⟩ := ht
  simp only [request, runCommand_running hp, takeFrame_taken hr ho, State.received]
  rfl

/-- The port unit passes the request to its owner. -/
theorem routeRequest_passes {h : Header} {k : ReqKind} {owner : State → State × Response} {s : State}
    (hk : k.permitted h.port = true) (hf : h.formOk = true) :
    routeRequest h k owner s = answer h k.code (owner s).2 (owner s).1 := by
  simp [routeRequest, hk, hf]

theorem answer_sent {h : Header} {k : ReqKind} {st : Status} {r : Result} {s : State}
    (hs : isRefusal st = false) :
    (answer h k.code ⟨st, r⟩ s).drive = s.sent h k.code st r := by
  simp [answer, hs, State.sent]

theorem answer_refused {h : Header} {k : ReqKind} {st : Status} {r : Result} {s : State}
    (hs : isRefusal st = true) :
    (answer h k.code ⟨st, r⟩ s).drive = s.refusedWith h k.code st r := by
  simp [answer, hs, State.refusedWith]

/-- A request that passes, answered ACCEPTED or PENDING. -/
theorem request_sent {h : Header} {k : ReqKind} {owner : State → State × Response} {s t : State}
    {st : Status} {r : Result} (hp : Passes h k s) (ho : owner (s.received h) = (t, ⟨st, r⟩))
    (hs : isRefusal st = false) : request h k owner s = .next (t.sent h k.code st r) := by
  obtain ⟨ht, hk, hf⟩ := hp
  rw [request_taken ht, routeRequest_passes hk hf, ho, answer_sent hs]

/-- A request that passes, refused by its owner. -/
theorem request_refused {h : Header} {k : ReqKind} {owner : State → State × Response} {s t : State}
    {st : Status} {r : Result} (hp : Passes h k s) (ho : owner (s.received h) = (t, ⟨st, r⟩))
    (hs : isRefusal st = true) : request h k owner s = .next (t.refusedWith h k.code st r) := by
  obtain ⟨ht, hk, hf⟩ := hp
  rw [request_taken ht, routeRequest_passes hk hf, ho, answer_refused hs]

/-! ### The received state -/

@[simp] theorem touchSession_front (p : Port) (s : State) : (touchSession p s).front = s.front := by
  unfold touchSession; split <;> rfl
@[simp] theorem touchSession_decks (p : Port) (s : State) : (touchSession p s).decks = s.decks := by
  unfold touchSession; split <;> rfl
@[simp] theorem touchSession_axle (p : Port) (s : State) : (touchSession p s).axle = s.axle := by
  unfold touchSession; split <;> rfl
@[simp] theorem touchSession_order (p : Port) (s : State) : (touchSession p s).order = s.order := by
  unfold touchSession; split <;> rfl
@[simp] theorem touchSession_check (p : Port) (s : State) : (touchSession p s).check = s.check := by
  unfold touchSession; split <;> rfl
@[simp] theorem touchSession_visit (p : Port) (s : State) : (touchSession p s).visit = s.visit := by
  unfold touchSession; split <;> rfl
@[simp] theorem touchSession_ticket (p : Port) (s : State) : (touchSession p s).ticket = s.ticket := by
  unfold touchSession; split <;> rfl
@[simp] theorem touchSession_watch (p : Port) (s : State) : (touchSession p s).watch = s.watch := by
  unfold touchSession; split <;> rfl
@[simp] theorem touchSession_ports (p : Port) (s : State) : (touchSession p s).ports = s.ports := by
  unfold touchSession; split <;> rfl
@[simp] theorem touchSession_clock (p : Port) (s : State) : (touchSession p s).clock = s.clock := by
  unfold touchSession; split <;> rfl
@[simp] theorem touchSession_power (p : Port) (s : State) : (touchSession p s).power = s.power := by
  unfold touchSession; split <;> rfl
@[simp] theorem touchSession_pending (p : Port) (s : State) :
    (touchSession p s).pending = s.pending := by
  unfold touchSession; split <;> rfl
@[simp] theorem touchSession_legal (p : Port) (s : State) : (touchSession p s).legal = s.legal := by
  unfold touchSession; split <;> rfl

@[simp] theorem received_front (h : Header) (s : State) : (s.received h).front = s.front := by
  simp [State.received]
@[simp] theorem received_decks (h : Header) (s : State) : (s.received h).decks = s.decks := by
  simp [State.received]
@[simp] theorem received_axle (h : Header) (s : State) : (s.received h).axle = s.axle := by
  simp [State.received]
@[simp] theorem received_order (h : Header) (s : State) : (s.received h).order = s.order := by
  simp [State.received]
@[simp] theorem received_check (h : Header) (s : State) : (s.received h).check = s.check := by
  simp [State.received]
@[simp] theorem received_visit (h : Header) (s : State) : (s.received h).visit = s.visit := by
  simp [State.received]
@[simp] theorem received_ticket (h : Header) (s : State) : (s.received h).ticket = s.ticket := by
  simp [State.received]
@[simp] theorem received_watch (h : Header) (s : State) : (s.received h).watch = s.watch := by
  simp [State.received]
@[simp] theorem received_clock (h : Header) (s : State) : (s.received h).clock = s.clock := by
  simp [State.received]
@[simp] theorem received_power (h : Header) (s : State) : (s.received h).power = s.power := by
  simp [State.received]
@[simp] theorem received_pending (h : Header) (s : State) : (s.received h).pending = s.pending := by
  simp [State.received]
@[simp] theorem received_legal (h : Header) (s : State) : (s.received h).legal = s.legal := by
  simp [State.received]; rfl

end Sys2Proof.Machine
end

