-- ==== Sys2Proof/Tests/Slice0.lean ====
section
/-!
SUPPORT. The model's own tests: what well-formedness refuses, the worked examples of the spec, and for
each obligation with hypotheses a state and operands that meet them, clause by clause.
-/

namespace Sys2Proof.Tests

open Sys2Proof Sys2Proof.Machine

/-! ### Small states -/

def con : Header := ⟨.console, 0x11#8, true⟩
def off : Header := ⟨.office, 0x22#8, true⟩
def ins : Header := ⟨.inspection, 0x33#8, true⟩

/-- A conversion of four cells, all sensed. -/
def cells (a b c d : Int) : Conversion := ⟨#v[a, b, c, d], vrep 4 true⟩

/-- A conversion with nothing on the deck. -/
def quiet : Conversion := cells 0 0 0 0

/-- A conversion whose cell 1 lost its excitation. -/
def broken : Conversion := ⟨vrep 4 0, #v[false, true, true, true]⟩

def onDeck (f : Deck → Deck) (s : State) : State := s.setDeck 0 f

/-- A deck at rest in a settled state, nothing on it. -/
def calm (m : DeckMode) : Deck :=
  { Deck.start with
    gross := some 0
    mode := m
    zeroSet := true
    powerUpSpent := true
    window := List.replicate 20 0
    reference := some 0
    settledRun := 20 }

/-- Deck 1 at rest, its pairs clear, its status VERIFIED. -/
def still (m : DeckMode) : State :=
  ((onDeck (fun _ => calm m) State.reset).setAxle fun a =>
    { a with
      pairs := vmap (fun p => { p with decoder := some .clear, persist := none }) a.pairs }).setMetroDeck
    0 fun k => { k with status := .verified }

/-- With the map VALID and the bridge clear. -/
def clearBridge (m : DeckMode) : State := (still m).setMap fun _ => ⟨true, none, [], 0⟩

/-- With one axle on deck 1 in a forward pass. -/
def loaded : State := (still .steady).setMap fun _ => ⟨true, some .forward, [⟨1, 0⟩], 0⟩

def onPair (f : Pair → Pair) (s : State) : State := s.setPair 0 f

/-- Pair 0 with a raw state waiting to be taken. -/
def pairAt (raw dec : BeamState) (start : StartBeam) (s : State) : State :=
  onPair (fun p => { p with raw := raw, decoder := some dec, start := start, persist := some 8 }) s

def plate : Text := [0x41#8]

def visitOf (n : Nat) (k : VisitKind) (st : VisitState) : Visit :=
  ⟨n, plate, k, none, 0, [], st, none, none, none, none, none, false, false, 0, ⟨0, 0⟩⟩

def withVisits (l : List Visit) (s : State) : State := s.setVisit fun u => { u with visits := l }

def orderOf (n : Nat) (k : OrderKind) : Order := ⟨n, k, false, false, none⟩

def withActive (o : Order) (st : OrderState) (s : State) : State :=
  s.setOrder fun u => { u with active := some ⟨o, st, 0, none⟩ }

/-- An audit session of no operation. -/
def openRecord : Session := ⟨true, ⟨0, 0⟩, 600000, none, []⟩

def inSession (sw : SwitchLevel) (r : Session) (s : State) : State :=
  s.setMetro fun m => { m with session := some r, marker := true, switch := sw }

/-- A session open on the machine as it leaves reset. -/
def audit (sw : SwitchLevel) : State := inSession sw openRecord State.reset

def onPort (p : Port) (r : Receiver) : State := State.reset.setPort p fun x => { x with receiver := r }

def clockAt (sec ms : Nat) : State := State.reset.setClock fun c => { c with sec := sec, ms := ms }

/-- The state a command leaves. -/
def after (i : Instr) (s : State) : State :=
  match exec i s with
  | .next t => t
  | _ => s

/-- The status of the reply under way on a port. -/
def replyStatus (p : Port) (s : State) : Option Status := (s.portState p).reply.map (·.status)

/-! ### Well-formed commands -/

theorem test_wf_clear_events : wellFormed (.clearEvents con (List.replicate 249 (1, 0))) = false := by
  decide +kernel
theorem test_wf_clear_history :
    wellFormed (.clearDeckHistory con 1 (List.replicate 249 (none, 0))) = false := by
  decide +kernel
theorem test_wf_clear_flags :
    wellFormed (.clearWatchFlags con (List.replicate 249 (none, 0))) = false := by
  decide +kernel
theorem test_wf_set_legal :
    wellFormed (.setLegal ins (List.replicate 249 ⟨none, 0⟩)) = false := by
  decide +kernel
theorem test_wf_open_visit :
    wellFormed (.openVisit con (List.replicate 249 0x41#8) none 0 0 []) = false := by
  decide +kernel
theorem test_wf_amend_visit :
    wellFormed (.amendVisit con 1 0 (some (List.replicate 200 0)) none
      (some (List.replicate 49 0)) none) = false := by
  decide +kernel
theorem test_wf_delete_tare : wellFormed (.deleteTare off (List.replicate 249 0)) = false := by
  decide +kernel
theorem test_wf_read_tares : wellFormed (.readTares off (.plate (List.replicate 249 0))) = false := by
  decide +kernel
theorem test_wf_set_class :
    wellFormed (.setClass off 1 ⟨List.replicate 249 0, 2, [], 1000⟩) = false := by
  decide +kernel
theorem test_wf_raw_count : wellFormed (.deckSample 0 (cells 8388608 0 0 0)) = false := by decide
theorem test_wf_raw_count_low : wellFormed (.autoCaptureStart (cells 0 0 0 (-8388609))) = false := by
  decide
theorem test_wf_samples :
    [Instr.zeroDeadlineExpired 0 (cells 8388608 0 0 0), .zeroTrackingMove 0 (cells 8388608 0 0 0),
      .captureWindowEnd 0 (cells 8388608 0 0 0), .testCaptureEnd 0 (cells 8388608 0 0 0),
      .adjustZeroEnd 0 (cells 8388608 0 0 0), .adjustSpanEnd 0 (cells 8388608 0 0 0),
      .shuntPhaseEnd 0 (cells 8388608 0 0 0)].all (fun i => !wellFormed i) = true := by decide
theorem test_wf_legal_region :
    wellFormed (.restart false ⟨some ⟨factoryLegal, 65536, 0⟩, none⟩) = false := by decide
theorem test_wf_unknown_kind : wellFormed (.unknownRequest con 0x01#8) = false := by decide
theorem test_wf_accepts :
    wellFormed (.unknownRequest con 0x09#8) = true ∧
      wellFormed (.deckSample 0 (cells (-8388608) 8388607 0 0)) = true ∧
      wellFormed (.restart false ⟨some ⟨factoryLegal, 65535, 0⟩, none⟩) = true := by decide

/-! ### Worked examples of the spec -/

/-- The parameters of the example of section 1.4. -/
def exampleLegal : LegalParams :=
  { factoryLegal with
    zero := upd factoryLegal.zero 0 fun _ => #v[12300, 11940, 12775, 13010]
    factor := upd factoryLegal.factor 0 fun _ => #v[5000, 5021, 5012, 4990] }

theorem test_raw_mass : rawMass exampleLegal 0 #v[1212300, 1205040, 1209275, 1216510] = 23992878 := by
  decide
theorem test_raw_mass_negative_half : roundDiv (-2500) 1000 = -3 := by decide
theorem test_upper_rail : conditionOf true 8388607 = .saturated := by decide

/-- A class with the groups of the example of section 5.6. -/
def exampleClass : ClassEntry :=
  ⟨[0x36#8], 6, [⟨1, 1, .single, 6500⟩, ⟨2, 2, .tandem, 16500⟩, ⟨4, 3, .triaxle, 20000⟩], 42500⟩

/-- Stop 1 of that example. -/
def exampleStop : Stop :=
  ⟨#v[some (20440, some (4, 6)), some (16220, some (2, 3)), some (6180, some (1, 1)), none],
    some 42860⟩

def exampleTable : GroupTable :=
  handleStop ⟨0, 20, 20⟩ (some (7, exampleClass)) [] exampleStop .empty

theorem test_stop_verdicts :
    (summaryOf exampleTable).groups =
      [(.within, some 6180, none), (.within, some 16220, none), (.over, some 20440, some 440)] := by
  decide
theorem test_stop_consistency : exampleTable.consistency = .consistent (-20) := by decide
theorem test_stop_gross :
    exampleTable.gross = .over 360 ∧ (summaryOf exampleTable).largestExcess = 440 := by decide

/-- The capture of the example of section 4.7: its sums over 50 samples of each of three decks. -/
def exampleCapture : OrderCapture :=
  ⟨50, some .reverse, .waiting, #v[994013760, 1199486912, 0, 0], #v[50, 50, 50, 0]⟩

theorem test_captured_gross :
    capturedGross exampleCapture 0 = 19880275 ∧ capturedGross exampleCapture 1 = 23989738 ∧
      capturedGross exampleCapture 2 = 0 := by decide
theorem test_indication :
    vehicleMass exampleCapture [0, 1, 2] = 43870013 ∧
      indicated factoryLegal (vehicleMass exampleCapture [0, 1, 2]) = 43880 := by decide
theorem test_deck_masses :
    indicated factoryLegal 19880275 = 19880 ∧ indicated factoryLegal 23989738 = 23980 := by decide

/-- Crossings one after another, given as boundary and direction. -/
def cross (n : Nat) : List (Nat × Direction) → AxleMap → Option AxleMap
  | [], m => some m
  | x :: l, m =>
    match crossMap n x.1 x.2 m with
    | .applied m' _ _ => cross n l m'
    | .fault _ => none

/-- Steps 1 to 10 of the pass of section 3.7. -/
def examplePass : List (Nat × Direction) :=
  [0, 0, 0, 1, 1, 0, 1, 0, 0, 2].map fun j => (j, .forward)

theorem test_pass_step_10 :
    cross 3 examplePass ⟨true, none, [], 0⟩ = some ⟨true, some .forward,
      [⟨1, 2⟩, ⟨2, 1⟩, ⟨3, 1⟩, ⟨4, 0⟩, ⟨5, 0⟩, ⟨6, 0⟩], 0⟩ := by decide
theorem test_pass_rolls_back :
    cross 3 (examplePass ++ [(2, .reverse)]) ⟨true, none, [], 0⟩ = some ⟨true, some .forward,
      [⟨1, 1⟩, ⟨2, 1⟩, ⟨3, 1⟩, ⟨4, 0⟩, ⟨5, 0⟩, ⟨6, 0⟩], 0⟩ := by decide

/-- The parameters of the audit of section 9.9, with the example's deck in place of deck 2. -/
def auditLegal : LegalParams := exampleLegal

theorem test_new_factors :
    (List.finRange 4).map (newFactor auditLegal 0 10000 10036400) = [4982, 5003, 4994, 4972] := by
  decide
theorem test_span_ratio : spanRatioOk 10000 10036400 = true := by decide
theorem test_mpe :
    mpeOf factoryLegal .zero = 20 ∧ mpeOf factoryLegal (.load 10000 .centre) = 40 ∧
      mpeOf factoryLegal (.load 30000 .centre) = 80 := by decide
theorem test_failed_load :
    (judgeTest factoryLegal 2 57 1 (.load 10000 .centre) 10036400).pass = false ∧
      (judgeTest factoryLegal 2 57 1 (.load 10000 .centre) 10036400).error = 36 := by decide
theorem test_passed_loads :
    (judgeTest factoryLegal 4 65 1 (.load 10000 .centre) 10006000).pass = true ∧
      (judgeTest factoryLegal 5 65 1 (.load 30000 .centre) 29988000).pass = true := by decide

theorem test_no_command_words : decodeTableWord 32 7 = none ∧
    (State.reset.withFetchWord 32 7).pending = [] := by decide

/-! ### Requests on the machine as it leaves reset -/

theorem test_zero_pending :
    replyStatus .console (after (.zero con 0) State.reset) = some .pending ∧
      ((after (.zero con 0) State.reset).decks[(0 : DeckId)]).pendingZero = some 300 := by decide
theorem test_zero_not_from_office :
    replyStatus .office (after (.zero off 0) State.reset) = some .notPermitted := by decide
theorem test_rejected_write_counted :
    (after (.setLegal off [⟨some .window, 8⟩]) State.reset).metro.rejected = 1 := by decide
theorem test_mask_drops_attention :
    ((after (.setEventMask con (vrep 9 true)) State.reset).portState .console).attention = false := by
  decide
theorem test_first_sample_settles_nothing :
    (after (.deckSample 0 quiet) State.reset).decks[(0 : DeckId)].window = [0] ∧
      (after (.deckSample 0 quiet) State.reset).deckMode 0 = .settling := by decide
theorem test_lost_excitation :
    (after (.deckSample 0 broken) State.reset).front[(0 : DeckId)].budget = 31 ∧
      (after (.deckSample 0 broken) State.reset).deckMode 0 = .noSignal := by decide
/-- A SET_LEGAL whose one write is unchanged leaves a stored check value that fails (R151, R185). -/
theorem test_unchanged_write_keeps_check :
    (after (.setLegal ins [⟨some .window, 20⟩])
      ((audit .opened).setMetro fun m => { m with check := 7 })).metro.check = 7 := by decide

/-- A SESSION_END of an interrupted restart is not appended twice, a RESTORE_FAIL is (R183). -/
theorem test_interrupted_restart :
    (closeLostSession (failCheck (closeLostSession (failCheck (audit .shut))))).metro.log.map
      (fun e => e.kind) = [.restoreFail, .sessionEnd .restart, .restoreFail] := by
  decide

/-- With SET_CLOCK taken first no rollover follows from the old time (R189). -/
theorem test_no_rollover_from_replaced_time :
    (∀ sec ∈ [100, 86399], (after .dayRollover (after (.setClock off 9 sec) (clockAt 86399 0))).clock =
      { (clockAt 86399 0).clock with day := 9, sec := sec }) ∧
    (after .dayRollover (after (.setClock off 9 86399) (clockAt 100 0))).clock.day = 10 := by decide

theorem test_status_codes :
    Status.accepted.code = 0x00#8 ∧ Status.badField.code = 0x12#8 ∧
      Status.counterEnd.code = 0x23#8 := by decide

theorem test_reset_line_stops_lanes :
    (after (.resetAsserted false) (clearBridge .empty)).order.laneA = .stop := by decide

/-! ### The hypotheses of the obligations can be met

Each `witness_<Name>` meets the hypotheses of `Obligations.<Name>`, clause after clause in its order. -/

theorem witness_StepRunsFrontCommand :
    (State.reset.withPending [.dayRollover]).pending = Instr.dayRollover :: [] := rfl

def held : State := { State.reset with power := .heldReset false }

theorem witness_EveryRequestTakenIsAnswered :
    requestOf (.readEvents con) = some (con, .readEvents) ∧ TakesFrame .console State.reset := by
  decide

theorem witness_RefusedRequestChangesNoBlock :
    requestOf (.zero con 2) = some (con, .zero) ∧ Passes con .zero State.reset ∧
      exec (.zero con 2) State.reset = .next (after (.zero con 2) State.reset) ∧
      ((after (.zero con 2) State.reset).portState .console).reply =
        some ⟨con.tag, ReqKind.zero.code, .badField, .none⟩ ∧
      isRefusal .badField = true := by
  refine ⟨rfl, by decide, rfl, by decide, rfl⟩

theorem witness_RequestTaking :
    (requestOf (.zero off 0) = some (off, .zero) ∧ TakesFrame .office State.reset ∧
      ReqKind.zero.permitted .office = false) ∧
    (requestOf (.zero ⟨.console, 1, false⟩ 0) = some (⟨.console, 1, false⟩, .zero) ∧
      TakesFrame .console State.reset ∧ ReqKind.zero.permitted .console = true) ∧
    (requestOf (.zero con 0) = some (con, .zero) ∧ held.power ≠ .running) ∧
    ((onPort .console .answering).power = .running ∧
      ((onPort .console .answering).portState .console).receiver = .answering) ∧
    (TakesFrame .console State.reset ∧ kindOfCode 0x09#8 = none) := by decide

theorem witness_PortAndMetrologyReads :
    Arrives con State.reset ∧ (0 = 0 ∧ Port.console = con.port) ∧
    3 = (portNumber .inspection).val + 1 ∧ 3 < 4 ∧ (0 : DeckId).val < deckCount State.reset.legal ∧
    deckCount State.reset.legal < 2 ∧ Passes off .readLog State.reset := by decide

theorem witness_BridgeReadsReturnState :
    Arrives con State.reset ∧
    ((0 : DeckId).val < deckCount State.reset.legal ∧ deckCount State.reset.legal < 2) := by decide

theorem witness_ReadOrdersReturnsQueue : Arrives con State.reset := by decide

def aTare : TareEntry := ⟨plate, 12000, 0, 1⟩

def withTares (l : List TareEntry) : State := State.reset.setVisit fun u => { u with tares := l }

theorem witness_CheckAndTableReads :
    Arrives con State.reset ∧ 32 < 33 ∧
    (1 = (0 : DeckId).val + 1 ∧ (0 : DeckId).val < deckCount State.reset.legal ∧
      deckCount State.reset.legal < 2) ∧
    State.reset.check.table.cls = none ∧
    (Arrives con (State.reset.setCheck fun k => { k with table := exampleTable }) ∧
      exampleTable.cls = some (7, exampleClass)) ∧
    (Arrives con (withTares [aTare]) ∧ textOk plate = true ∧
      findTare (withTares [aTare]).visit plate = some aTare) ∧
    (textOk plate = true ∧ ∀ e ∈ State.reset.visit.tares, e.plate ≠ plate) := by decide

def firstContent (v : Visit) : TicketContent :=
  ⟨.first, v.number, v.kind, v.plate, v.commodity, v.grade, v.cls, .first 20000 .gross ⟨0, 0⟩,
    summaryOf .empty, ⟨false, false, false, false, false⟩, 0, .a, false⟩

def aTicket (n : Nat) : Ticket :=
  ⟨n, firstContent (visitOf 1 .receival .opened), ⟨0, 0⟩, .printed, .none, 0⟩

def withJournal (l : List Ticket) : State := State.reset.setTicket fun u => { u with journal := l }

theorem witness_VisitReadsReturnParts :
    (Arrives con (withVisits [visitOf 1 .receival .opened] State.reset) ∧
      findVisit (withVisits [visitOf 1 .receival .opened] State.reset).visit 1 =
        some (visitOf 1 .receival .opened)) ∧
    (Arrives con State.reset ∧ findVisit State.reset.visit 1 = none) := by decide

theorem witness_ReadTicketReturnsRecords :
    (Arrives con (withJournal [aTicket 999999]) ∧
      aTicket 999999 ∈ (withJournal [aTicket 999999]).ticket.journal ∧
      ((withJournal [aTicket 999999]).ticket.journal.map fun t => t.number).Nodup ∧
      (aTicket 999999).number = 999999) ∧
    (∀ t ∈ State.reset.ticket.journal, t.number ≠ 999999) ∧ 999999 < 1000000 := by decide

theorem witness_SetsAreClearedAsRead :
    Passes con .clearEvents State.reset ∧
    ((∀ x ∈ [(9, 1), (1, 1)], 1 ≤ x.1 ∧ x.1 ≤ 9) ∧ ([(9, 1), (1, 1)].map fun x => x.1).Nodup) ∧
    ¬((∀ x ∈ [(10, 1)], 1 ≤ x.1 ∧ x.1 ≤ 9) ∧ ([(10, 1)].map fun x => x.1).Nodup) ∧
    Passes con .setEventMask State.reset ∧ Passes con .clearFault State.reset ∧
    Passes con .clearDeckHistory State.reset ∧
    (1 = (0 : DeckId).val + 1 ∧ (0 : DeckId).val < deckCount State.reset.legal ∧
      [(some DeckMode.settling, (1 : BitVec 32))] =
        [(DeckMode.settling, (1 : BitVec 32))].map (fun x => (some x.1, x.2)) ∧
      ([(DeckMode.settling, (1 : BitVec 32))].map fun x => x.1).Nodup) ∧
    (0 = 0 ∧ deckCount State.reset.legal < 2) := by decide

def answering (f : PortState → PortState) : State :=
  State.reset.setPort .console fun x => f { x with receiver := .answering }

def resetWaits : State := answering fun x => { x with resetDeferred := true }

/-- An audit session whose RESET_PORT is answered. -/
def auditResetWaits : State :=
  (audit .shut).setPort .inspection fun x => { x with receiver := .answering, resetDeferred := true }

theorem witness_PortLineEvents :
    Passes con .resetPort State.reset ∧ State.reset.sessionOpen = false ∧
    ((audit .shut).power = .running ∧ (audit .shut).sessionOpen = true ∧ MapOk (audit .shut)) ∧
    (State.reset.power = .running ∧ (State.reset.portState .console).receiver ≠ .answering ∧
      (State.reset.portState .console).receiver ≠ .receiving ∧
      (State.reset.portState .console).overrun = false ∧
      (State.reset.portState .console).receiver = .hunt) ∧
    ((answering id).power = .running ∧ ((answering id).portState .console).receiver = .answering ∧
      ((answering id).portState .console).resetDeferred = false) ∧
    ((resetWaits.portState .console).receiver = .answering ∧
      (resetWaits.portState .console).resetDeferred = true ∧
      (resetWaits.portState .console).rateDeferred = false ∧ resetWaits.sessionOpen = false) ∧
    ((auditResetWaits.portState .inspection).receiver = .answering ∧
      (auditResetWaits.portState .inspection).resetDeferred = true ∧
      auditResetWaits.sessionOpen = true ∧ auditResetWaits.metro.log.length < 256 ∧
      auditResetWaits.metro.nextSeq < 4294967295 ∧ MapOk auditResetWaits) ∧
    ((onPort .console .receiving).power = .running ∧
      ((onPort .console .receiving).portState .console).receiver = .receiving) ∧
    DiscardCause.badCrc ≠ .duringAnswer := by
  unfold MapOk
  decide

/-! #### Decks, beams, orders -/

def capturing : State :=
  (withActive (orderOf 1 .firstWeigh) .capturing loaded).setOrder fun u =>
    { u with engine := some ⟨50, some .forward, .waiting, vrep 4 0, #v[49, 0, 0, 0]⟩ }

theorem witness_ZeroAndBeamFilterRequests :
    Passes con .zero State.reset ∧ (1 ≤ deckCount State.reset.legal ∧
      State.reset.orderCapture = false ∧ State.reset.testCapture = false) ∧
    (Passes con .zero capturing ∧ 1 ≤ deckCount capturing.legal ∧ capturing.orderCapture = true) ∧
    deckCount State.reset.legal < 2 ∧
    Passes con .setBeamFilter State.reset ∧
    (∀ j : Boundary, ∀ x ∈ (State.reset.axle.pairs[j].persist), x < min 50 51) ∧
    (0 : Boundary).val ≤ deckCount State.reset.legal ∧
    State.reset.axle.pairs[(0 : Boundary)].persist = some 0 ∧ min 50 0 ≤ 0 := by decide

def staged (l : List Order) : State := State.reset.setOrder fun u => { u with staged := l }

def outState : State := withVisits [visitOf 1 .outload .opened] State.reset
def inState : State := withVisits [visitOf 1 .receival .opened] State.reset

theorem witness_StageOrderTests :
    -- not the fields; fields without the class named; a full staged list
    (Passes con .stageOrder State.reset ∧ ¬(0 = 0 → OrderKind.firstWeigh = .check)) ∧
    (∀ c, some 7 = some c → ¬((classAt State.reset.check c).isSome = true)) ∧
    (Passes con .stageOrder (staged [orderOf 1 .check, orderOf 2 .check]) ∧
      2 ≤ (staged [orderOf 1 .check, orderOf 2 .check]).order.staged.length) ∧
    -- a visit in the queue; no such visit; a visit that does not suit
    (Passes con .stageOrder (staged [orderOf 1 .check]) ∧
      1 ∈ queueNumbers (staged [orderOf 1 .check]).order) ∧
    (1 ∉ queueNumbers State.reset.order ∧ findVisit State.reset.visit 1 = none) ∧
    (Passes con .stageOrder outState ∧
      findVisit outState.visit 1 = some (visitOf 1 .outload .opened) ∧
      ¬((visitOf 1 .outload .opened).state = .opened ∧
        (visitOf 1 .outload .opened).kind = .receival)) ∧
    -- no valid tare; an order that passes
    (Passes con .stageOrder inState ∧
      findVisit inState.visit 1 = some (visitOf 1 .receival .opened) ∧
      findTare inState.visit plate = none ∧ (visitOf 1 .receival .opened).held = none ∧
      (visitOf 1 .receival .opened).state = .opened) := by
  refine ⟨by decide, ?_, by decide, by decide, by decide, by decide, by decide⟩
  rintro c ⟨⟩
  decide

theorem witness_OrdersLeaveAndPromote :
    (Passes con .cancelOrder (withActive (orderOf 1 .firstWeigh) .waiting State.reset) ∧
      (withActive (orderOf 1 .firstWeigh) .waiting State.reset).order.active =
        some ⟨orderOf 1 .firstWeigh, .waiting, 0, none⟩ ∧
      (withActive (orderOf 1 .firstWeigh) .waiting State.reset).order.engine = none) ∧
    (Passes con .cancelOrder capturing ∧
      capturing.order.active = some ⟨orderOf 1 .firstWeigh, .capturing, 0, none⟩ ∧
      capturing.order.engine =
        some ⟨50, some .forward, .waiting, vrep 4 0, #v[49, 0, 0, 0]⟩) ∧
    (Passes con .cancelOrder (staged [orderOf 1 .check]) ∧
      (staged [orderOf 1 .check]).order.active = none ∧
      (staged [orderOf 1 .check]).order.staged.find? (fun x => x.visit = 1) =
        some (orderOf 1 .check)) ∧
    (Passes con .cancelOrder State.reset ∧ 1 ∉ queueNumbers State.reset.order) ∧
    ((staged [orderOf 1 .firstWeigh, orderOf 0 .check]).order.staged =
        [orderOf 1 .firstWeigh] ++ orderOf 0 .check :: [] ∧
      ((orderOf 1 .firstWeigh).visit ≠ 0 ∧
        findVisit (staged [orderOf 1 .firstWeigh, orderOf 0 .check]).visit 1 = none) ∧
      (orderOf 0 .check).visit = 0) ∧
    (∀ x ∈ (staged [orderOf 1 .firstWeigh]).order.staged, x.visit ≠ 0 ∧
      findVisit (staged [orderOf 1 .firstWeigh]).visit x.visit = none) := by decide

def inPass (st : OrderState) (k : OrderKind) : State := withActive (orderOf 1 k) st loaded

def survey : State :=
  loaded.setOrder fun u =>
    { u with
      active := some ⟨orderOf 1 .axleSurvey, .surveying, 1,
        some (some .forward, ⟨false, false, false, false, false⟩)⟩ }

/-- With the spool of the exit-end printer full. -/
def fullSurvey : State :=
  survey.setTicket fun u =>
    { u with lineB := { u.lineB with spool := List.replicate 8 ⟨.ticket 1, true, []⟩ } }

theorem witness_CaptureAndFinishSurvey :
    (Passes con .capture capturing ∧ capturing.orderCapture = true) ∧
    (Passes con .capture State.reset ∧ State.reset.orderCapture = false ∧
      State.reset.testCapture = false ∧ State.reset.order.active = none) ∧
    (Passes con .capture (inPass .complete .check) ∧
      (inPass .complete .check).order.active = some ⟨orderOf 1 .check, .complete, 0, none⟩) ∧
    (Passes con .capture (withActive (orderOf 1 .check) .waiting State.reset) ∧
      firstFailing (withActive (orderOf 1 .check) .waiting State.reset) (orderOf 1 .check) =
        some .mapInvalid) ∧
    (Passes con .capture (inPass .waiting .firstWeigh) ∧
      firstFailing (inPass .waiting .firstWeigh) (orderOf 1 .firstWeigh) = none) ∧
    (Passes con .finishSurvey State.reset ∧ Passes con .finishSurvey capturing ∧
      Passes con .finishSurvey (inPass .waiting .check) ∧ Passes con .finishSurvey survey ∧
      survey.axle.map.direction ≠ none ∧ (lineOf survey.ticket .b).spool.length < 8) ∧
    (Passes con .finishSurvey fullSurvey ∧ 8 ≤ (lineOf fullSurvey.ticket .b).spool.length) := by
  refine ⟨by decide, by decide, by decide, by decide, by decide, by decide, by decide⟩

/-! #### Settings, watch channels, classes, visits -/

theorem witness_SettingsAreClamped :
    Passes con .setCapture State.reset ∧ Passes off .setAxleCheck State.reset ∧
    Passes off .setTareRules State.reset ∧ Passes con .setPrinting State.reset ∧
    Passes con .setShuntMode State.reset ∧ (0 = 0 ∧ 4 < 5) ∧ Passes con .setPortRate State.reset ∧
    (1 = (portNumber .console).val + 1 ∧ Port.console = con.port) ∧
    (3 = (portNumber .inspection).val + 1 ∧ Port.inspection ≠ con.port) ∧ (0 = 0 ∧ 3 < 4) := by
  decide

def watchBody : WatchBody :=
  ⟨true, some .net, some .above, 200001, 0, none, some 32, some .any, some .mark⟩

theorem witness_WatchRequests :
    Passes off .setWatch State.reset ∧
    (watchBody.field = some .net ∧ watchBody.test = some .above ∧ watchBody.kind = some .any ∧
      watchBody.action = some .mark ∧ ∀ n ∈ watchBody.cls, 1 ≤ n ∧ n ≤ 32) ∧
    ({ watchBody with test := none }.test = none ∧
      { watchBody with cls := some 33 }.cls = some 33 ∧ 32 < 33) ∧
    Passes con .clearWatchFlags State.reset ∧
    ([(WatchChannel.w1, (0 : BitVec 16)), (.w2, 0)].map fun x => x.1).Nodup ∧
    ¬([(WatchChannel.w1, (0 : BitVec 16)), (.w1, 0)].map fun x => x.1).Nodup := by decide

def heavyClass : WatchConfig := ⟨true, .gross, .above, 9999, 0, none, none, .any, .hold⟩

/-- A first weighing of 20,000 kg that both channels match, W1 alone, or W2 on an armed visit. -/
def armedUnit (m : WatchMode) (armed : List Nat) : WatchUnit :=
  { State.reset.watch with w1 := heavyClass, w2 := heavyClass, mode := m, armed := armed }

def firstTicket : TicketContent := firstContent (visitOf 1 .receival .opened)

theorem witness_WatchEvaluatesTickets :
    firstTicket.masses = .first 20000 .gross ⟨0, 0⟩ ∧
    firstTicket.summary.gross = .notTested ∧ (summaryOf exampleTable).gross = .over 360 ∧
    channelMatch heavyClass firstTicket none = some 20000 ∧
    (armedUnit .independent []).mode = .independent ∧
    (armedUnit .sequential [2]).mode = .sequential ∧ firstTicket.visit ∉ [2] ∧
    (channelMatch { heavyClass with enabled := false } firstTicket none = none ∧
      firstTicket.visit ∈ (armedUnit .sequential [1]).armed) := by decide

def classBody : ClassBody := ⟨[0x36#8], 2, [⟨1, 2, some .tandem, 500⟩], 1000⟩
def classEntry : ClassEntry := ⟨[0x36#8], 2, [⟨1, 2, .tandem, 500⟩], 1000⟩

/-- The last place of the class table filled. -/
def withClass (s : State) : State :=
  s.setCheck fun k => { k with classes := k.classes.set 31 (some classEntry) }

/-- With a visit that names it. -/
def classNamed : State :=
  withClass (withVisits [{ visitOf 1 .receival .opened with cls := some 32 }] State.reset)

theorem witness_ClassEntriesAndWrites :
    (Passes (withTexts off [classBody.name]) .setClass State.reset ∧
      classEntryOf classBody = some classEntry ∧
      State.reset.check.classes[(31 : Fin 32)] = none) ∧
    (Passes (withTexts off [classBody.name]) .setClass classNamed ∧
      classNamed.check.classes[(31 : Fin 32)] ≠ none ∧
      ∃ v ∈ classNamed.visit.visits, (v.state = .opened ∨ v.state = .firstDone) ∧
        v.cls = some ((31 : Fin 32).val + 1)) ∧
    (32 < 33 ∧ classEntryOf { classBody with axleCount := 3 } = none) ∧
    (Passes off .deleteClass State.reset ∧ Passes off .deleteClass classNamed) ∧
    (Passes off .deleteClass (withClass State.reset) ∧
      (withClass State.reset).check.classes[(31 : Fin 32)] ≠ none ∧
      (withClass State.reset).visit.visits = []) := by
  refine ⟨by decide, ⟨by decide, by decide, _, List.mem_singleton.mpr rfl, by decide⟩, by decide,
    by decide, by decide⟩

def manyVisits : List Visit := (List.range 64).map fun n => visitOf (n + 1) .outload .firstDone

def fullTable : State := withVisits manyVisits State.reset

/-- Visit 64 closed, its opened time the oldest of those evictable, and named by the active order. -/
def evicting (st : Bool) : State :=
  let s := withVisits (manyVisits.dropLast ++ [visitOf 64 .outload .closed]) State.reset
  if st then withActive (orderOf 64 .check) .waiting s else s

theorem witness_OpenVisitEntersVisit :
    (Passes (withTexts off [plate, []]) .openVisit State.reset ∧
      (1 ≤ plate.length ∧ plate.length ≤ 12 ∧ 0 ≤ 32 ∧ ([] : Text).length ≤ 8) ∧
      State.reset.visit.visits.length < 64 ∧ State.reset.visit.counter ≤ 9999) ∧
    (Passes (withTexts off [[], []]) .openVisit State.reset ∧ ¬1 ≤ ([] : Text).length) ∧
    (1 ≠ 0 ∧ (classAt State.reset.check 1).isSome = false) ∧
    (Passes (withTexts off [plate, []]) .openVisit inState ∧
      (∀ v ∈ inState.visit.visits, 1 ≤ v.number) ∧
      (visitOf 1 .receival .opened ∈ inState.visit.visits ∧
        (visitOf 1 .receival .opened).plate = plate ∧
        (visitOf 1 .receival .opened).state = .opened)) ∧
    (Passes (withTexts off [[0x42#8], []]) .openVisit fullTable ∧
      (∀ v ∈ fullTable.visit.visits, v.plate ≠ [0x42#8]) ∧ 64 ≤ fullTable.visit.visits.length ∧
      ∀ v ∈ fullTable.visit.visits, v.state = .firstDone) ∧
    (∀ b : Bool, Passes (withTexts off [[0x42#8], []]) .openVisit (evicting b) ∧
      (evicting b).visit.visits = manyVisits.dropLast ++ visitOf 64 .outload .closed :: [] ∧
      ((evicting b).visit.visits.map fun v => v.number).Nodup ∧
      (evicting b).visit.visits.length = 64 ∧ capturingVisit (evicting b).order ≠ 64 ∧
      (∀ v ∈ manyVisits.dropLast, v.state = .firstDone ∧ v.plate ≠ [0x42#8])) ∧
    (evicting false).order.active = none ∧
    (evicting true).order.active = some ⟨orderOf 64 .check, .waiting, 0, none⟩ := by
  refine ⟨by decide, by decide, by decide, by decide, by decide +kernel, by decide +kernel, by decide,
    by decide⟩

def closedState : State := withVisits [visitOf 9999 .receival .closed] State.reset

/-- Visit 1 open and named by the active order. -/
def visitWaits (st : OrderState) (k : OrderKind) : State := withActive (orderOf 1 k) st inState

theorem witness_VisitChanges :
    (findVisit inState.visit 1 = some (visitOf 1 .receival .opened) ∧
      inState.order.active = none ∧ Passes off .voidVisit inState ∧
      (visitOf 1 .receival .opened).held = none ∧
      (1 : BitVec 16) ≠ (visitOf 1 .receival .opened).revision ∧
      Passes off .removeVisit inState) ∧
    (findVisit closedState.visit 9999 = some (visitOf 9999 .receival .closed) ∧
      Passes off .removeVisit closedState ∧ Passes off .voidVisit closedState ∧
      (visitOf 9999 .receival .closed).held = none) ∧
    (∀ st ∈ [OrderState.waiting, .capturing], Passes off .voidVisit (visitWaits st .firstWeigh) ∧
      Passes off .removeVisit (visitWaits st .firstWeigh) ∧
      (visitWaits st .firstWeigh).order.active = some ⟨orderOf 1 .firstWeigh, st, 0, none⟩) ∧
    (let s := withActive (orderOf 9999 .check) .waiting closedState
     Passes off .removeVisit s ∧
     s.order.active = some ⟨orderOf 9999 .check, .waiting, 0, none⟩) := by
  decide

/-- Visit 2 open under another plate. -/
def twoVisits : State :=
  withVisits [visitOf 1 .receival .opened, { visitOf 2 .receival .opened with plate := [0x42#8] }]
    State.reset

theorem witness_AmendVisitChangesFields :
    (Passes (withTexts off []) .amendVisit inState ∧
      findVisit inState.visit 1 = some (visitOf 1 .receival .opened) ∧
      findVisit State.reset.visit 1 = none ∧ inState.order.active = none ∧
      (visitOf 1 .receival .opened).revision = 0 ∧ (visitOf 1 .receival .opened).held = none) ∧
    (classAt inState.check 32 = none ∧ Passes (withTexts off [[0x42#8]]) .amendVisit twoVisits ∧
      { visitOf 2 .receival .opened with plate := [0x42#8] } ∈ twoVisits.visit.visits) ∧
    (visitOf 9999 .receival .closed).state = .closed ∧
    (∀ st ∈ [OrderState.waiting, .capturing],
      (visitWaits st .firstWeigh).order.active = some ⟨orderOf 1 .firstWeigh, st, 0, none⟩) ∧
    suitsKind (orderOf 1 .firstWeigh) (visitOf 1 .receival .opened) = true ∧
    suitsKind (orderOf 1 .secondWeigh) (visitOf 1 .receival .opened) = false := by
  decide

def tareWeighing : Weighing := ⟨12000, .tare, .captured, ⟨0, 0⟩, some 1, false, false, 0⟩

def weighedVisit : Visit := { visitOf 1 .outload .firstDone with first := some tareWeighing }

def weighed (l : List TareEntry) : State := withVisits [weighedVisit] (withTares l)

def manyTares : List TareEntry :=
  (List.range 128).map fun n => ⟨List.replicate (n + 2) 0x42#8, 1, 0, 1⟩

theorem witness_StoredTareWrites :
    (Passes off .storeTare (weighed [aTare]) ∧
      findVisit (weighed [aTare]).visit 1 = some weighedVisit ∧
      capturedTare weighedVisit = some tareWeighing ∧ weighedVisit.state ≠ .void ∧
      tareWeighing.ticket ≠ none ∧ tareWeighing.notForTrade = false ∧
      aTare ∈ (weighed [aTare]).visit.tares ∧ aTare.plate = weighedVisit.plate) ∧
    (Passes off .storeTare (weighed []) ∧ (weighed []).visit.tares.length < 128 ∧
      ∀ x ∈ (weighed []).visit.tares, x.plate ≠ weighedVisit.plate) ∧
    (Passes off .storeTare (weighed manyTares) ∧
      (∀ x ∈ (weighed manyTares).visit.tares, x.plate ≠ weighedVisit.plate) ∧
      128 ≤ (weighed manyTares).visit.tares.length) ∧
    (((weighed manyTares).visit.tares.map fun x => x.plate.length).Nodup) ∧
    (Passes off .storeTare State.reset ∧ findVisit State.reset.visit 1 = none) ∧
    (Passes (withTexts off [plate]) .deleteTare (withTares [aTare]) ∧
      Passes (withTexts off [plate]) .deleteTare State.reset) := by
  refine ⟨by decide, by decide, by decide +kernel, by decide +kernel, by decide, by decide⟩

def fullSpool : State :=
  (withJournal [aTicket 1]).setTicket fun u =>
    { u with lineA := { u.lineA with spool := List.replicate 8 ⟨.ticket 1, true, []⟩ } }

theorem witness_ReprintQueuesCopy :
    (Passes con .reprint State.reset ∧ 999999 < 1000000) ∧
    (∀ t ∈ State.reset.ticket.journal, t.number ≠ 999999) ∧
    (Passes con .reprint fullSpool ∧ findTicket fullSpool.ticket 1 = some (aTicket 1) ∧
      8 ≤ (lineOf fullSpool.ticket .a).spool.length) ∧
    (Passes con .reprint (withJournal [aTicket 1]) ∧
      findTicket (withJournal [aTicket 1]).ticket 1 = some (aTicket 1) ∧
      (lineOf (withJournal [aTicket 1]).ticket .a).spool.length < 8) := by decide

/-- A visit whose first weighing is held. -/
def heldVisit : Visit :=
  { visitOf 1 .outload .firstDone with
    first := some { tareWeighing with ticket := none }
    held := some ⟨firstContent (visitOf 1 .outload .opened), true, false, ⟨0, 0⟩⟩ }

def heldState : State := withVisits [heldVisit] loaded

theorem heldState_visits : VisitsOk heldState :=
  ⟨by unfold tableOk; decide, fun p c h => by cases p <;> exact nomatch h⟩

/-- A visit closed by a captured tare of 12,000 kg whose ticket is held with the store-tare flag. -/
def heldTare (notForTrade : Bool) : Visit :=
  { visitOf 1 .receival .closed with
    first := some ⟨30000, .gross, .captured, ⟨0, 0⟩, some 7, false, false, 0⟩
    second := some ⟨12000, .tare, .captured, ⟨0, 0⟩, none, false, notForTrade, 0⟩
    net := some 18000
    held := some ⟨{ firstContent (visitOf 1 .receival .closed) with
      kind := .final
      masses := .final 30000 12000 18000 .captured ⟨0, 0⟩ ⟨0, 0⟩
      storeTare := true }, true, false, ⟨0, 0⟩⟩ }

def heldTareState (notForTrade : Bool) (l : List TareEntry) : State :=
  (withVisits [heldTare notForTrade] loaded).setVisit fun u => { u with tares := l }

theorem heldTareState_visits (notForTrade : Bool) (l : List TareEntry) :
    VisitsOk (heldTareState notForTrade l) :=
  have h : ∀ b, tableOk (heldTareState b []).visit := by unfold tableOk; decide
  ⟨h notForTrade, fun p c h => by cases p <;> exact nomatch h⟩

/-- The table is full of the tares of other plates: the one with the oldest day is replaced (R115). -/
theorem test_release_replaces_oldest :
    (after (.releaseHold off 1) (heldTareState false manyTares)).visit.tares =
      manyTares.drop 1 ++ [⟨plate, 12000, 0, State.reset.visit.initialUses⟩] := by
  decide +kernel

/-- A HELD order for the held visit in a pass, on a clear bridge, and under an INVALID map. -/
def heldOrder (l : List Order) (m : AxleMap) : State :=
  (withActive (orderOf 1 .firstWeigh) .held (heldState.setMap fun _ => m)).setOrder fun u =>
    { u with staged := l, condRun := 5 }

theorem witness_HoldsEnd :
    Passes off .releaseHold heldState ∧ Passes off .rejectHold heldState ∧ VisitsOk heldState ∧
    findVisit heldState.visit 1 = some heldVisit ∧
    heldVisit.held = some ⟨firstContent (visitOf 1 .outload .opened), true, false, ⟨0, 0⟩⟩ ∧
    heldState.axle.map.valid = true ∧ heldState.axle.map.direction ≠ none ∧
    ((∀ b l, VisitsOk (heldTareState b l)) ∧
      (∀ b, Passes off .releaseHold (heldTareState b []) ∧
        findVisit (heldTareState b []).visit 1 = some (heldTare b) ∧
        (heldTare b).held.map (fun x => x.content.storeTare) = some true ∧
        (heldTare b).kind = .receival ∧
        (heldTare b).second.map (fun w => (w.role, w.source, w.notForTrade)) =
          some (.tare, .captured, b)) ∧
      aTare.plate = (heldTare false).plate ∧ (∀ x ∈ manyTares, x.plate ≠ (heldTare false).plate) ∧
      128 ≤ manyTares.length ∧ (manyTares.map fun x => x.plate.length).Nodup) ∧
    (∀ m ∈ [(⟨true, none, [], 0⟩ : AxleMap), ⟨false, some .forward, [⟨1, 0⟩], 0⟩], ∀ l : List Order,
      (heldOrder l m).order.active = some ⟨orderOf 1 .firstWeigh, .held, 0, none⟩ ∧
      (heldOrder l m).order.staged = l ∧
      ((heldOrder l m).axle.map.valid = false ∨ (heldOrder l m).axle.map.direction = none)) ∧
    passesExamination (heldOrder [orderOf 0 .check] ⟨true, none, [], 0⟩) (orderOf 0 .check) = true := by
  refine ⟨by decide, by decide, heldState_visits, by decide, by decide, by decide, by decide,
    ⟨heldTareState_visits, by decide, by decide, by decide +kernel, by decide +kernel,
      by decide +kernel⟩, fun m hm l => ⟨rfl, rfl, ?_⟩, by decide⟩
  change m.valid = false ∨ m.direction = none
  revert hm m
  decide

/-! #### Sessions -/

def fullLog (s : State) : State :=
  s.setMetro fun m => { m with log := List.replicate 256 ⟨0, ⟨0, 0⟩, .switchOpen, 0, none⟩ }

def busyAudit : State :=
  inSession .opened { openRecord with op := some ⟨.testZero, 0, 1, some ⟨50, 0, 0, vrep 4 0⟩⟩ }
    State.reset

theorem witness_SessionsOpenAndEnd :
    (Passes ins .openSession (audit .shut) ∧ (audit .shut).sessionOpen = true) ∧
    (Passes ins .openSession loaded ∧ loaded.sessionOpen = false ∧ loaded.orderCapture = false ∧
      loaded.axle.map.list ≠ []) ∧
    (Passes ins .openSession (fullLog State.reset) ∧ (fullLog State.reset).axle.map.list = [] ∧
      logRoom (fullLog State.reset).metro = 0) ∧
    (Passes ins .openSession State.reset ∧ State.reset.sessionOpen = false ∧
      State.reset.orderCapture = false ∧ State.reset.axle.map.list = [] ∧
      0 < logRoom State.reset.metro) ∧
    (Passes ins .closeSession State.reset ∧ State.reset.sessionOpen = false) ∧
    (Passes ins .closeSession (audit .shut) ∧
      (audit .shut).metro.session = some openRecord ∧ openRecord.isOpen = true ∧
      (audit .shut).metro.log.length < 256 ∧ (audit .shut).metro.nextSeq < 4294967295) ∧
    MapOk (audit .shut) ∧ MapOk (fullLog (audit .shut)) ∧
    256 ≤ (fullLog (audit .shut)).metro.log.length := by
  unfold MapOk
  decide +kernel

def lateCounter : State := (audit .opened).setMetro fun m => { m with cal := 65535 }

theorem witness_LegalWriteOfOneParameter :
    Passes (withWrites ins [⟨some .window, 8⟩]) .setLegal State.reset ∧
    ((audit .shut).sessionOpen = true ∧ (audit .shut).metro.switch = .shut) ∧
    (busyAudit.sessionOpen = true ∧ busyAudit.metro.switch = .opened ∧
      busyAudit.operation.isSome = true) ∧
    (Passes (withWrites ins [⟨some .window, 8⟩]) .setLegal (audit .opened) ∧
      (audit .opened).sessionOpen = true ∧ (audit .opened).operation = none ∧
      legalRange .window 7 = false ∧ legalRange .window 8 = true ∧
      resultingSetOk (audit .opened).legal (setLegalValue (audit .opened).legal .window 8) = true ∧
      legalValue (audit .opened).legal .window = 20 ∧ (audit .opened).metro.cal < 65535 ∧
      2 ≤ logRoom (audit .opened).metro) ∧
    (asksVisits .interval = true ∧ isLive (visitOf 1 .receival .opened) = true) ∧
    (resultingSetOk (audit .opened).legal
        (setLegalValue (audit .opened).legal .decks 4) = true ∧
      resultingSetOk (audit .opened).legal
        (setLegalValue (audit .opened).legal .interval 50) = true ∧
      (audit .opened).visit.visits = []) ∧
    65535 ≤ lateCounter.metro.cal ∧ logRoom (fullLog (audit .opened)).metro < 1 ∧
    (lateCounter.metro.cal ≤ 65535 ∧ legalRange .window 20 = true ∧
      legalValue lateCounter.legal .window = 20 ∧ lateCounter.operation = none ∧
      resultingSetOk lateCounter.legal (setLegalValue lateCounter.legal .window 20) = true) := by
  decide +kernel

/-- At the last value of the counter a write that is no change is accepted, by either request (R150,
R151). -/
theorem test_unchanged_write_at_counter_end :
    replyStatus .inspection (after (.setLegal ins [⟨some .window, 20⟩]) lateCounter) =
        some .accepted ∧
      replyStatus .inspection (after (.setCellFactor ins 1 (legalValue lateCounter.legal (.factor 0 0))
        (legalValue lateCounter.legal (.zero 0 0))) lateCounter) = some .accepted := by
  decide +kernel

theorem witness_LegalWritesOfSeveral :
    (let ws : List (ParamId × Int) := [(.interval, 50), (.window, 20), (.zero 0 1, 5)]
     Passes (withWrites ins (ws.map fun w => ⟨some w.1, w.2⟩)) .setLegal (audit .opened) ∧
     (ws.map fun w => w.1).Nodup ∧ (∀ w ∈ ws, legalRange w.1 w.2 = true) ∧
     resultingSetOk (audit .opened).legal
       (ws.foldl (fun p w => setLegalValue p w.1 w.2) (audit .opened).legal) = true ∧
     ws.filter (fun w => w.2 ≠ legalValue (audit .opened).legal w.1) =
       [(.interval, 50), (.zero 0 1, 5)] ∧
     (audit .opened).visit.visits = [] ∧ (audit .opened).metro.cal + 2 ≤ 65535 ∧
     7 ≤ logRoom (audit .opened).metro) ∧
    Passes ins .setCellFactor (audit .opened) ∧ (audit .opened).sessionOpen = true ∧
    (audit .opened).metro.switch = .opened ∧ (audit .opened).operation = none ∧
    (100 ≤ (100 : Int) ∧ (-8388607 : Int) ≤ -8388607) ∧
    consistentSet (audit .opened).legal = true ∧
    (100 : Int) ≠ (audit .opened).legal.factor[(3 : DeckId)][(3 : CellId)] ∧
    (-8388607 : Int) ≠ (audit .opened).legal.zero[(3 : DeckId)][(3 : CellId)] ∧
    (audit .opened).metro.cal + 2 ≤ 65535 ∧ 3 ≤ logRoom (audit .opened).metro ∧ 16 < 17 ∧
    (lateCounter.metro.cal ≤ 65535 ∧ (∀ w ∈ [((.window, 20) : ParamId × Int)],
      w.2 = legalValue lateCounter.legal w.1) ∧
      100 ≤ legalValue lateCounter.legal (.factor 0 0) ∧
      legalValue lateCounter.legal (.factor 0 0) ≤ 100000 ∧
      -8388607 ≤ legalValue lateCounter.legal (.zero 0 0) ∧
      legalValue lateCounter.legal (.zero 0 0) ≤ 8388607) := by
  decide +kernel

def auditOn (m : DeckMode) (sw : SwitchLevel) : State :=
  inSession sw openRecord (onDeck (fun _ => calm m) State.reset)

theorem witness_SessionOperationsStart :
    (Passes ins .testZero (auditOn .empty .shut) ∧
      (0 : DeckId).val < deckCount (auditOn .empty .shut).legal ∧
      (auditOn .empty .shut).metro.session = some openRecord ∧ openRecord.isOpen = true ∧
      openRecord.op = none ∧ (auditOn .empty .shut).decks[(0 : DeckId)].hold = false ∧
      openRecord.results.length < 24 ∧ 1 ≤ logRoom (auditOn .empty .shut).metro ∧
      (auditOn .empty .shut).decks[(0 : DeckId)].mode = .empty ∧
      (auditOn .empty .shut).decks[(0 : DeckId)].zeroSet = true) ∧
    (Passes ins .testLoad (auditOn .steady .shut) ∧ 1 ≤ 1 ∧
      (1 : Int) ≤ (auditOn .steady .shut).legal.maxD[(0 : DeckId)] ∧
      (auditOn .steady .shut).decks[(0 : DeckId)].mode = .steady) ∧
    (Passes ins .adjustZero (auditOn .empty .opened) ∧
      Passes ins .recordShuntRef (auditOn .empty .opened) ∧
      (auditOn .empty .opened).metro.switch = .opened ∧
      (auditOn .empty .opened).metro.cal + 4 ≤ 65535 ∧
      5 ≤ logRoom (auditOn .empty .opened).metro) ∧
    (Passes ins .adjustSpan (auditOn .steady .opened) ∧
      (auditOn .steady .opened).legal.maxD[(0 : DeckId)] ≤ (4000 : Int) * 10 ∧
      (auditOn .steady .opened).decks[(0 : DeckId)].mode = .steady) := by decide +kernel

/-- Deck 1 with its zero not set in an audit session. -/
def unsetAudit (m : DeckMode) : State :=
  inSession .shut openRecord (onDeck (fun _ => { calm m with zeroSet := false }) State.reset)

def fullResults : Session :=
  { openRecord with results := List.replicate 24 ⟨1, 0, .zero, 0, 0, 20, true, 0, false⟩ }

theorem witness_SessionOperationsRefuse :
    (Passes ins .testZero State.reset ∧ State.reset.sessionOpen = false) ∧
    (Passes ins .adjustZero busyAudit ∧ busyAudit.sessionOpen = true ∧ busyAudit.operation ≠ none) ∧
    (Passes ins .testLoad (auditOn .steady .shut) ∧ (auditOn .steady .shut).operation = none ∧
      ¬(9 : Nat) ≤ deckCount (auditOn .steady .shut).legal) ∧
    (Passes ins .adjustSpan (auditOn .steady .shut) ∧
      (auditOn .steady .shut).metro.switch = .shut ∧
      (auditOn .steady .shut).metro.session = some openRecord ∧ openRecord.op = none ∧
      (auditOn .steady .shut).legal.maxD[(0 : DeckId)] ≤ (4000 : Int) * 10) ∧
    (24 ≤ fullResults.results.length ∧ 65535 < lateCounter.metro.cal + 4 ∧
      logRoom (fullLog (audit .opened)).metro < 1) ∧
    (∀ m ∈ [DeckMode.noSignal, .noise, .motion, .empty, .steady],
      (auditOn m .shut).decks[(0 : DeckId)].mode = m ∧
      (auditOn m .shut).decks[(0 : DeckId)].hold = false) ∧
    (Passes ins .testZero (unsetAudit .empty) ∧
      (unsetAudit .empty).decks[(0 : DeckId)].mode = .empty ∧
      (unsetAudit .empty).decks[(0 : DeckId)].zeroSet = false) ∧
    (Passes ins .certifyDeck State.reset ∧ Passes ins .certifyDeck busyAudit ∧
      Passes ins .certifyDeck (audit .opened) ∧ deckCount (audit .opened).legal < 2) := by
  decide +kernel

def passed (n : Nat) (k : TestKind) : TestResult := ⟨n, 0, k, 0, 0, 20, true, 0, false⟩

def tested (l : List TestResult) : State :=
  inSession .shut { openRecord with results := l } State.reset

def threeTests : List TestResult :=
  [passed 1 .zero, passed 2 (.load 10000 .centre), passed 3 (.load 30000 .centre)]

theorem witness_CertifyDeckVerifies :
    (Passes ins .certifyDeck (audit .opened) ∧ (audit .opened).metro.session = some openRecord ∧
      (0 : DeckId).val < deckCount (audit .opened).legal ∧
      ∀ i ∈ certifyParams 0, inRange (audit .opened).legal i = true) ∧
    logRoom (fullLog (audit .shut)).metro < 2 ∧
    (Passes ins .certifyDeck (tested threeTests) ∧ 2 ≤ logRoom (tested threeTests).metro ∧
      (tested threeTests).metro.session = some { openRecord with results := threeTests } ∧
      (∀ i ∈ certifyParams 0, inRange (tested threeTests).legal i = true) ∧
      threeTests.filter (fun x => x.deck = 0 ∧ x.superseded = false) = threeTests) ∧
    (∀ x ∈ threeTests, x.pass = true) ∧
    (passed 2 (.load 10000 .centre) ∈ threeTests ∧ passed 3 (.load 30000 .centre) ∈ threeTests ∧
      passed 1 .zero ∈ threeTests ∧ 10000 ≠ 30000) ∧
    ({ passed 1 .zero with pass := false }).pass = false := by decide +kernel

/-- CERTIFY_DECK needs two sequence numbers; with one left it is LOG_FULL and the deck stays (R150). -/
theorem test_log_full_by_numbers :
    let s := (tested threeTests).setMetro fun m => { m with nextSeq := 4294967294 }
    replyStatus .inspection (after (.certifyDeck ins 1) s) = some .logFull ∧
      (after (.certifyDeck ins 1) s).metro.log = [] ∧
      (after (.certifyDeck ins 1) s).deckStatus 0 = .unverified := by decide +kernel

theorem witness_ReleaseLogAndSetClock :
    (Passes ins .releaseLog State.reset ∧ State.reset.metro.nextSeq ≤ 1 ∧
      0 < State.reset.metro.nextSeq ∧ State.reset.metro.nextSeq + 256 < 4294967295) ∧
    (Passes off .setClock State.reset ∧ 65535 < 65536 ∧ 86399 < 86400 ∧
      0 < logRoom State.reset.metro) ∧
    (Passes off .setClock (fullLog State.reset) ∧ logRoom (fullLog State.reset).metro = 0) := by
  decide +kernel

/-! #### Samples and captures -/

/-- A deck of the given status whose budget stands at 1. -/
def lastError (v : VStatus) : State :=
  ((still .steady).setMetroDeck 0 fun k => { k with status := v }).setFront 0 fun f =>
    { f with budget := 1 }

/-- The fall of the budget to 0 makes the deck SUSPECT, logged with its cause (R9, R156). -/
theorem test_budget_falls :
    (after (.deckSample 0 broken) (lastError .due)).deckStatus 0 = .suspect ∧
      (after (.deckSample 0 broken) (lastError .due)).metro.log.map (fun e => e.kind) =
        [.statusChange .due .suspect .budget] := by decide +kernel

theorem witness_SamplesReachTheDeck :
    State.reset.power = .running ∧ (0 : DeckId).val < deckCount State.reset.legal ∧
    broken.sense[(0 : CellId)] = false ∧
    (quiet.sense[(0 : CellId)] = true ∧ deckParamsBad State.reset.legal 0 = false) ∧
    (∀ i : CellId, State.reset.front[(0 : DeckId)].cells[i].shunt = false) ∧
    State.reset.decks[(0 : DeckId)].hold = false ∧ State.reset.order.engine = none ∧
    State.reset.operation = none ∧ State.reset.metro.decks[(0 : DeckId)].run = none ∧
    (clearBridge .empty).axle.map.valid = true ∧
    (∀ v ∈ [VStatus.verified, .due, .suspect, .unverified],
      (lastError v).power = .running ∧ (lastError v).front[(0 : DeckId)].budget = 1 ∧
      (lastError v).deckStatus 0 = v ∧ (lastError v).operation = none ∧
      0 < logRoom (lastError v).metro ∧ logRoom (fullLog (lastError v)).metro = 0) := by
  decide +kernel

/-- Deck 1 in a state whose last 19 samples lie alike. -/
def oneShort (m : DeckMode) : State :=
  onDeck (fun k => { k with mode := m, window := List.replicate 19 0 }) State.reset

/-- 40,180,001 g and −400,001 g, one gram past the overload and the underload limit. -/
def heavy : Conversion := cells 40180001 0 0 0
def light : Conversion := cells (-400001) 0 0 0

/-- A STEADY deck that has lost its settled state so many times. -/
def movedOften (n : Nat) : State := onDeck (fun k => { k with motionCount := n }) (still .steady)

/-- The 16th motion entry is an entry to NOISE, which raises a DECK event (R27, R35). -/
theorem test_sixteenth_motion :
    let t := after (.deckSample 0 (cells 20001 0 0 0)) (movedOften 15)
    t.deckMode 0 = .noise ∧ (t.portState .console).events[(0 : Fin 9)].latest.map (fun x => x.1) =
      some (.deckEntered 0 .noise) := by decide

theorem witness_SamplesClassifyTheDeck :
    (recordOf State.reset.legal 0 State.reset.front[(0 : DeckId)] quiet = .valid 0 ∧
      recordOf State.reset.legal 0 State.reset.front[(0 : DeckId)] heavy = .valid 40180001 ∧
      recordOf State.reset.legal 0 State.reset.front[(0 : DeckId)] light = .valid (-400001)) ∧
    ((oneShort .noSignal).decks[(0 : DeckId)].mode = .noSignal ∧
      (oneShort .noSignal).decks[(0 : DeckId)].hold = false ∧
      (oneShort .noSignal).operation = none ∧
      ((oneShort .noSignal).decks[(0 : DeckId)].window.length : Int) ≤
        (oneShort .noSignal).legal.window) ∧
    ((oneShort .overload).decks[(0 : DeckId)].mode = .overload ∧
      (oneShort .underload).decks[(0 : DeckId)].mode = .underload) ∧
    (isFaultMode (oneShort .settling).decks[(0 : DeckId)].mode = false ∧
      isSettled (oneShort .settling).decks[(0 : DeckId)].mode = false) ∧
    (isSettled (still .steady).decks[(0 : DeckId)].mode = true ∧
      (still .steady).decks[(0 : DeckId)].reference = some 0 ∧
      (20 * 20000 : Int) < ((20 * 20001 - 0 : Int).natAbs : Int) ∧
      ((20 * 20000 - 0 : Int).natAbs : Int) ≤ 20 * 20000) ∧
    (∀ n ∈ [14, 15], (movedOften n).decks[(0 : DeckId)].motionCount = n ∧
      (movedOften n).decks[(0 : DeckId)].powerUpSpent = true ∧
      (movedOften n).decks[(0 : DeckId)].pendingZero = none ∧
      (movedOften n).decks[(0 : DeckId)].trackRun < 99 ∧
      recordOf (movedOften n).legal 0 (movedOften n).front[(0 : DeckId)] (cells 20001 0 0 0) =
        .valid 20001) ∧
    ((still .steady).legal.window ≤ ((still .steady).decks[(0 : DeckId)].settledRun : Int) + 1 ∧
      (oneShort .motion).decks[(0 : DeckId)].mode = .motion ∧
      (oneShort .noise).decks[(0 : DeckId)].mode = .noise) ∧
    (∀ m ∈ [DeckMode.steady, .noSignal], (still m).deckMode 0 = m ∧
      recordOf (still m).legal 0 (still m).front[(0 : DeckId)] broken = .invalid ∧
      (still m).decks[(0 : DeckId)].hold = false ∧
      (still m).metro.decks[(0 : DeckId)].run = none ∧
      (still m).decks[(0 : DeckId)].pendingZero = none) := by decide

def deadline (n : Nat) : State := onDeck (fun k => { k with pendingZero := some n }) (still .empty)

def tracking (n : Nat) (t : Int) (m : DeckMode) : State :=
  onDeck (fun k => { k with trackRun := n, zeroOffset := t, reference := some (20 * t) })
    (clearBridge m)

/-- A pending ZERO on its last sample, under a shunt hold. -/
def zeroUnderHold : State := onDeck (fun k => { k with hold := true }) (deadline 1)

/-- A pending ZERO on a deck with an axle on it. -/
def zeroOnAxle : State := onDeck (fun k => { k with pendingZero := some 2 }) loaded

/-- A pending ZERO about to be taken on a STEADY deck that stands at its raw zero with T at 300 kg. -/
def zeroTaken : State :=
  onDeck (fun k => { k with pendingZero := some 3, zeroOffset := 300000 }) (clearBridge .steady)

/-- A deck about to settle for the first time since restart. -/
def powerUp : State :=
  onDeck (fun k => { k with
    mode := .settling
    window := List.replicate 19 0
    reference := none
    zeroSet := false
    powerUpSpent := false }) (clearBridge .empty)

/-- The ZERO takes the settled G as T and the deck is reclassified by it (R38). -/
theorem test_zero_taken :
    (after (.deckSample 0 quiet) zeroTaken).decks[(0 : DeckId)].zeroOffset = 0 ∧
      (after (.deckSample 0 quiet) zeroTaken).deckMode 0 = .empty := by decide +kernel

theorem test_power_up_zero :
    (after (.deckSample 0 quiet) powerUp).decks[(0 : DeckId)].zeroSet = true ∧
      (after (.deckSample 0 quiet) powerUp).decks[(0 : DeckId)].powerUpSpent = true := by
  decide +kernel

theorem witness_ZeroStepsOfASample :
    ((deadline 1).power = .running ∧ (0 : DeckId).val < deckCount (deadline 1).legal ∧
      (deadline 1).decks[(0 : DeckId)].pendingZero = some 1 ∧
      recordOf (deadline 1).legal 0 (deadline 1).front[(0 : DeckId)] broken = .invalid) ∧
    (deadline 2).decks[(0 : DeckId)].pendingZero = some 2 ∧
    (zeroOnAxle.decks[(0 : DeckId)].pendingZero = some 2 ∧ zeroOnAxle.operation = none ∧
      zeroOnAxle.decks[(0 : DeckId)].hold = false ∧ clearOfAxles zeroOnAxle 0 = false ∧
      recordOf zeroOnAxle.legal 0 zeroOnAxle.front[(0 : DeckId)] quiet = .valid 0) ∧
    ((onDeck (fun k => { k with pendingZero := some 1 }) capturing).order.engine ≠ none ∧
      (onDeck (fun k => { k with pendingZero := some 1 }) capturing).decks[(0 : DeckId)].powerUpSpent =
        true ∧ isFaultMode .overload = true) ∧
    (zeroUnderHold.decks[(0 : DeckId)].hold = true ∧
      zeroUnderHold.decks[(0 : DeckId)].pendingZero = some 1 ∧ zeroUnderHold.operation = none ∧
      recordOf zeroUnderHold.legal 0 zeroUnderHold.front[(0 : DeckId)] quiet ≠ .invalid) ∧
    (recordOf zeroTaken.legal 0 zeroTaken.front[(0 : DeckId)] quiet = .valid 0 ∧
      zeroTaken.decks[(0 : DeckId)].hold = false ∧ clearOfAxles zeroTaken 0 = true ∧
      zeroTaken.order.engine = none ∧ zeroTaken.operation = none ∧
      zeroTaken.metro.decks[(0 : DeckId)].run = none ∧
      zeroTaken.decks[(0 : DeckId)].trackRun < 99 ∧
      isSettled zeroTaken.decks[(0 : DeckId)].mode = true ∧
      zeroTaken.decks[(0 : DeckId)].reference = some 0 ∧
      zeroTaken.decks[(0 : DeckId)].powerUpSpent = true ∧
      zeroTaken.decks[(0 : DeckId)].pendingZero = some 3 ∧
      zeroTaken.decks[(0 : DeckId)].zeroOffset = 300000 ∧
      (zeroTaken.decks[(0 : DeckId)].window.length : Int) ≤ zeroTaken.legal.window) ∧
    (powerUp.decks[(0 : DeckId)].mode = .settling ∧
      (powerUp.decks[(0 : DeckId)].window.length : Int) + 1 = powerUp.legal.window ∧
      powerUp.decks[(0 : DeckId)].powerUpSpent = false ∧
      powerUp.decks[(0 : DeckId)].pendingZero = none ∧ clearOfAxles powerUp 0 = true) ∧
    (recordOf (tracking 99 800000 .empty).legal 0 (tracking 99 800000 .empty).front[(0 : DeckId)]
        (cells 800001 0 0 0) = .valid 800001 ∧
      (tracking 99 800000 .empty).decks[(0 : DeckId)].hold = false ∧
      (tracking 99 800000 .empty).decks[(0 : DeckId)].mode = .empty ∧
      (tracking 99 800000 .empty).decks[(0 : DeckId)].zeroSet = true ∧
      (tracking 99 800000 .empty).decks[(0 : DeckId)].powerUpSpent = true ∧
      (tracking 99 800000 .empty).decks[(0 : DeckId)].pendingZero = none ∧
      (tracking 99 800000 .empty).decks[(0 : DeckId)].trackRun = 99 ∧
      (tracking 99 800000 .empty).decks[(0 : DeckId)].reference = some 16000000 ∧
      clearOfAxles (tracking 99 800000 .empty) 0 = true ∧
      (tracking 99 800000 .empty).order.engine = none ∧
      (tracking 99 800000 .empty).operation = none ∧
      (tracking 99 800000 .empty).metro.decks[(0 : DeckId)].run = none ∧
      (tracking 99 800000 .empty).legal.maxD[(0 : DeckId)] * 20 = 800000) ∧
    (tracking 98 0 .empty).decks[(0 : DeckId)].trackRun < 99 := by decide

/-- An auto order about to reach its delay of 100 samples. -/
def autoOrder : State :=
  loaded.setOrder fun u =>
    { u with
      active := some ⟨{ orderOf 1 .firstWeigh with auto := true }, .waiting, 0, none⟩
      condRun := 99 }

/-- The same under an INVALID map. -/
def autoLost : State := autoOrder.setMap fun m => { m with valid := false }

/-- An order without its auto flag on a calm bridge of two decks, and one whose deck 2 stands NOISE. -/
def twoDecks (m : DeckMode) : State :=
  ((autoOrder.setMetro fun k => { k with legal := { k.legal with decks := 2 } }).setDeck 1 fun _ =>
    calm m).setOrder fun u => { u with active := some ⟨orderOf 1 .firstWeigh, .waiting, 0, none⟩ }

theorem loaded_rests : LeavesAtRest 0 quiet 0 loaded where
  running := rfl
  inUse := by decide
  record := by decide
  unheld := rfl
  settled := rfl
  zeroTried := rfl
  noZeroPending := rfl
  noMoveDue := by decide
  within := ⟨0, rfl, by decide⟩
  notOver := by decide
  notUnder := by decide

theorem twoDecks_rests (m : DeckMode) (h : isSettled m = true) (d : DeckId) (hd : d = 0 ∨ d = 1) :
    LeavesAtRest d quiet 0 (twoDecks m) := by
  cases m <;> first
    | exact absurd h (by decide)
    | (obtain rfl | rfl := hd <;>
        exact ⟨rfl, by decide, by decide, rfl, rfl, rfl, rfl, by decide, ⟨0, rfl, by decide⟩,
          by decide, by decide⟩)

/-- A capture of 50 samples that lacks the first or the last of deck 1. -/
def midCapture (n : Nat) : State :=
  (withActive (orderOf 1 .firstWeigh) .capturing loaded).setOrder fun u =>
    { u with engine := some ⟨50, some .forward, .waiting, vrep 4 0, #v[n, 0, 0, 0]⟩ }

/-- A test capture of 2 samples before its first. -/
def midTest : State :=
  inSession .shut { openRecord with op := some ⟨.testZero, 0, 1, some ⟨2, 0, 0, vrep 4 0⟩⟩ }
    (still .steady)

/-- A sample that unsettles its deck aborts either capture with MOTION, one past the rail with DECK_FAULT
(R71, R159). -/
theorem test_samples_abort_captures :
    (after (.deckSample 0 (cells 20001 0 0 0)) (midCapture 48)).order.engine = none ∧
      ((after (.deckSample 0 broken) (midCapture 48)).portState .console).events[(2 : Fin 9)].latest.map
        (fun x => x.1) = some (.orderAborted 1 .firstWeigh .deckFault) ∧
      (after (.deckSample 0 (cells 20001 0 0 0)) midTest).operation = none := by decide

theorem test_sample_counts :
    (after (.deckSample 0 (cells 1000 0 0 0)) (midCapture 48)).order.engine =
      some ⟨50, some .forward, .waiting, #v[1000, 0, 0, 0], #v[49, 0, 0, 0]⟩ := by decide

theorem witness_AutoCaptureStarts :
    (LeavesAtRest 0 quiet 0 autoOrder ∧
      autoOrder.metro.decks[(0 : DeckId)].run = none ∧ autoOrder.operation = none ∧
      autoOrder.order.engine = none ∧
      autoOrder.order.active =
        some ⟨{ orderOf 1 .firstWeigh with auto := true }, .waiting, 0, none⟩ ∧
      firstFailing autoOrder { orderOf 1 .firstWeigh with auto := true } = none ∧
      autoOrder.order.delay ≤ min 500 (autoOrder.order.condRun + 1)) ∧
    (State.reset.power = .running ∧ State.reset.order.engine = none ∧
      State.reset.order.active = none) ∧
    (capturing.order.engine ≠ none ∧ 1 < capturing.order.delay) ∧
    (autoLost.power = .running ∧ autoLost.order.active =
        some ⟨{ orderOf 1 .firstWeigh with auto := true }, .waiting, 0, none⟩ ∧
      firstFailing autoLost { orderOf 1 .firstWeigh with auto := true } = some .mapInvalid ∧
      autoLost.order.engine = none ∧ autoLost.operation = none ∧
      LeavesAtRest 0 quiet 0 autoLost) ∧
    ((∀ d : DeckId, d = 0 ∨ d = 1 → LeavesAtRest d quiet 0 (twoDecks .empty) ∧
        (twoDecks .empty).metro.decks[d].run = none) ∧
      (twoDecks .empty).operation = none ∧ (twoDecks .empty).order.engine = none ∧
      (twoDecks .empty).order.active = some ⟨orderOf 1 .firstWeigh, .waiting, 0, none⟩ ∧
      (orderOf 1 .firstWeigh).auto = false) ∧
    (firstFailing autoOrder (orderOf 1 .firstWeigh) = none ∧
      (after (.stuckBeam 0 .u) (pairAt .u .u .u autoOrder)).order.condRun = 0 ∧
      (after (.switchChange .opened) autoOrder).order.condRun = 0 ∧
      (after (.deckSample 0 broken) autoOrder).order.condRun = 0) ∧
    (∀ n ∈ [0, 48], (midCapture n).power = .running ∧
      (midCapture n).order.engine =
        some ⟨50, some .forward, .waiting, vrep 4 0, #v[n, 0, 0, 0]⟩ ∧
      (midCapture n).order.active = some ⟨orderOf 1 .firstWeigh, .capturing, 0, none⟩ ∧
      (midCapture n).operation = none ∧ (midCapture n).metro.decks[(0 : DeckId)].run = none ∧
      sampleW 0 quiet (midCapture n) = some 0 ∧ sampleW 0 broken (midCapture n) = none ∧
      n + 1 < 50) ∧
    (midTest.power = .running ∧ midTest.metro.session = some
        { openRecord with op := some ⟨.testZero, 0, 1, some ⟨2, 0, 0, vrep 4 0⟩⟩ } ∧
      midTest.order.engine = none ∧ midTest.metro.decks[(0 : DeckId)].run = none ∧
      sampleW 0 quiet midTest = some 0 ∧ 0 + 1 < 2) :=
  ⟨⟨{ loaded_rests with }, by decide⟩, by decide, by decide,
    ⟨by decide, by decide, by decide, by decide, by decide, { loaded_rests with }⟩,
    ⟨fun d h => ⟨twoDecks_rests .empty rfl d h, by obtain rfl | rfl := h <;> rfl⟩, by decide⟩,
    by decide, by decide, by decide⟩

/-- An order in CAPTURING whose window of 50 samples lacks the last, its sum given in g. -/
def lastSample (sum : Int) (k : OrderKind) : State :=
  withVisits [visitOf 1 .receival .opened] ((withActive (orderOf 1 k) .capturing loaded).setOrder
    fun u => { u with engine := some ⟨50, some .forward, .waiting, #v[sum, 0, 0, 0], #v[49, 0, 0, 0]⟩ })

/-- The mass in g that the sum gives on one deck. -/
def massOf (sum : Int) : Int := roundDiv (sum + (0 - 0)) 50

/-- The capture of `lastSample`, and its active order. -/
def lastCapture (sum : Int) : OrderCapture :=
  ⟨50, some .forward, .waiting, #v[sum, 0, 0, 0], #v[49, 0, 0, 0]⟩

def lastOrder (k : OrderKind) : ActiveOrder := ⟨orderOf 1 k, .capturing, 0, none⟩

theorem lastSample_ends (sum : Int) (k : OrderKind) :
    EndsWindow 0 quiet 0 (lastCapture sum) (lastOrder k) (lastSample sum k) where
  running := rfl
  inUse := by change 0 < 1; decide
  record := by
    change recordOf State.reset.legal 0 State.reset.front[(0 : DeckId)] quiet = .valid 0
    decide
  unheld := rfl
  engine := rfl
  last := rfl
  others := by
    intro b hb h
    change b.val < 1 at h
    exact absurd (Fin.ext (by omega)) hb
  active := rfl
  capturing := rfl
  noOperation := rfl
  noRun := rfl
  mapValid := rfl

def autoLast (k : OrderKind) : ActiveOrder :=
  ⟨{ orderOf 1 k with auto := true }, .capturing, 0, none⟩

/-- The same capture of an order with its auto flag. -/
def lastOfAuto (sum : Int) (k : OrderKind) : State :=
  (lastSample sum k).setOrder fun u => { u with active := some (autoLast k), delay := 1 }

theorem lastOfAuto_ends (sum : Int) (k : OrderKind) :
    EndsWindow 0 quiet 0 (lastCapture sum) (autoLast k) (lastOfAuto sum k) :=
  { lastSample_ends sum k with active := rfl }

/-- A refused result gives the order back, and the sample that tests the conditions after it starts the
capture of a delay of 1 anew (R67, notes/assumptions/16.md). -/
theorem test_auto_captured_anew :
    (after (.captureWindowEnd 0 quiet) (lastOfAuto (40180001 * 50) .check)).order.engine =
      some ⟨50, some .forward, .waiting, vrep 4 0, vrep 4 0⟩ := by decide

theorem witness_CaptureWindowEnds :
    (loaded.power = .running ∧ (0 : DeckId).val < deckCount loaded.legal ∧
      loaded.order.engine = none) ∧
    (∀ k, EndsWindow 0 quiet 0 (lastCapture 0) (lastOrder k) (lastSample 0 k) ∧
      EndsWindow 0 quiet 0 (lastCapture 0) (autoLast k) (lastOfAuto 0 k)) ∧
    ((factoryLegal.capacity + 9 * factoryLegal.interval) * 1000 < massOf (40180001 * 50) ∧
      ¬(factoryLegal.capacity + 9 * factoryLegal.interval) * 1000 < massOf (40180000 * 50) ∧
      massOf (-400001 * 50) < -(20 * factoryLegal.interval * 1000) ∧
      ¬massOf (-400000 * 50) < -(20 * factoryLegal.interval * 1000)) ∧
    ((lastSample 0 .firstWeigh).setMetro fun m => { m with switch := .opened }).metro.switch =
      .opened ∧
    (findVisit (lastSample 0 .firstWeigh).visit 1 = some (visitOf 1 .receival .opened) ∧
      (visitOf 1 .receival .opened).state = .opened ∧
      visitOk (visitOf 1 .receival .opened) = true ∧
      (lastSample 0 .firstWeigh).watch.w1.enabled = false ∧
      (lastSample 0 .firstWeigh).watch.w2.enabled = false) :=
  ⟨by decide, fun k => ⟨lastSample_ends 0 k, lastOfAuto_ends 0 k⟩, by decide, rfl, by decide⟩

/-- The same window end with the visit given, a stored tare of 10 kg for its plate, and W1 as given. -/
def weighingEnd (k : OrderKind) (x : Visit) (w : Bool) : State :=
  ((lastSample 1000000000 k).setVisit fun u =>
    { u with visits := [x], tares := [⟨plate, 10, 0, 2⟩] }).setWatch fun u =>
      { u with w1 := { heavyClass with enabled := w } }

/-- 20,000 kg at the window end, between the limits and with the deck VERIFIED. -/
theorem weighingEnd_stands (k : OrderKind) (x : Visit) (w : Bool) :
    EndsWindow 0 quiet 0 (lastCapture 1000000000) (lastOrder k) (weighingEnd k x w) ∧
      ResultStands (endMass 0 0 (lastCapture 1000000000) (weighingEnd k x w))
        (weighingEnd k x w) := by
  refine ⟨{ lastSample_ends 1000000000 k with }, ?_⟩
  have h : endMass 0 0 (lastCapture 1000000000) (weighingEnd k x w) = 20000000 := by
    change endMass 0 0 (lastCapture 1000000000) (lastSample 1000000000 .check) = 20000000
    decide
  refine ⟨?_, ?_, rfl, fun b hb => ?_⟩
  · rw [h]; change (20000000 : Int) ≤ (40000 + 9 * 20) * 1000; decide
  · rw [h]; change -(20 * 20 * 1000) ≤ (20000000 : Int); decide
  · change b.val < 1 at hb
    obtain rfl : b = 0 := Fin.ext (by omega)
    change VStatus.verified ≠ .unverified
    decide

def grossDone (mass : Int) : Visit :=
  { visitOf 1 .receival .firstDone with
    first := some ⟨mass, .gross, .captured, ⟨0, 0⟩, some 7, false, false, 0⟩ }

theorem witness_WeighingsAreIssuedOrHeld :
    (∀ k x w, EndsWindow 0 quiet 0 (lastCapture 1000000000) (lastOrder k) (weighingEnd k x w)) ∧
    (∀ x ∈ [visitOf 1 .receival .opened, grossDone 30000, grossDone 100], ∀ w,
      findVisit (weighingEnd .firstWeigh x w).visit 1 = some x ∧ visitOk x = true ∧
        x.held = none) ∧
    ((grossDone 100).state = .firstDone ∧ (100 : Int) - 20000 < 0 ∧ 0 ≤ (30000 : Int) - 20000) ∧
    (findTare (weighingEnd .storedTare (visitOf 1 .receival .opened) false).visit plate =
        some ⟨plate, 10, 0, 2⟩ ∧ 1 ≤ 2 ∧ 0 - 0 ≤ State.reset.visit.validity) ∧
    (channelMatch heavyClass firstTicket none = some 20000 ∧ heavyClass.action = .hold) :=
  ⟨fun k x w => (weighingEnd_stands k x w).1, by decide, by decide, by decide, by decide⟩

theorem witness_AxleSurveysTakeStops :
    EndsWindow 0 quiet 0 (lastCapture 1000000000) (lastOrder .axleSurvey)
      (weighingEnd .axleSurvey (grossDone 1) false) ∧
    (lastOrder .axleSurvey).order.kind = .axleSurvey ∧
    (¬4 ≤ (lastOrder .axleSurvey).stopsTaken + 1 ∧
      (tableAfter (lastOrder .axleSurvey).order (endStop 0 0 (lastCapture 1000000000) none
        (weighingEnd .axleSurvey (grossDone 1) false))
        (weighingEnd .axleSurvey (grossDone 1) false)).allResolved = false) ∧
    (4 ≤ ({ lastOrder .axleSurvey with stopsTaken := 3 } : ActiveOrder).stopsTaken + 1 ∧
      (weighingEnd .axleSurvey (grossDone 1) false).axle.map.direction ≠ none ∧
      (weighingEnd .axleSurvey (grossDone 1) false).order.staged = []) :=
  ⟨(weighingEnd_stands _ _ _).1, rfl, by decide, by decide⟩

/-- A stop whose deck 1 carries groups 1 and 2, and deck 2 group 3. -/
def unionStop : Stop :=
  ⟨#v[some (22400, some (1, 3)), some (20000, some (4, 6)), none, none], none⟩

theorem witness_StopsJudgeGroups :
    (GroupTable.empty.cls.map (fun x => x.1) ≠ (some (7, exampleClass)).map (fun x => x.1) ∧
      GroupTable.empty.stopsHandled = ([] : List Stop).length) ∧
    (GroupTable.empty.cls = none ∧ GroupTable.empty.combined = []) ∧
    (exampleTable.cls = some (7, exampleClass) ∧
      exampleTable.groups.length = exampleClass.groups.length ∧
      (exampleClass.groups.map fun g => g.firstAxle).Nodup ∧
      (exampleClass.groups.map fun g => g.firstAxle + g.axles - 1).Nodup) ∧
    (unionStop.decks[(1 : DeckId)] = some (20000, some (4, 4 + 3 - 1)) ∧
      unionStop.decks[(0 : DeckId)] = some (22400, some (1, 2 + 2 - 1)) ∧
      exampleClass.groups[0]? = some ⟨1, 1, .single, 6500⟩ ∧
      exampleClass.groups[1]? = some ⟨2, 2, .tandem, 16500⟩) := by decide

/-! #### Beams -/

/-- An INVALID map on a bridge at rest whose pair 0 is about to return to CLEAR, a pass frozen or not. -/
def frozen (dir : Option Direction) : State :=
  (pairAt .clear .u .unknown (still .empty)).setMap fun _ =>
    ⟨false, dir, if dir.isSome then [⟨1, 0⟩] else [], 0⟩

/-- The map recovers empty, and the frozen pass ends (R55). -/
theorem test_map_recovers :
    (after (.filterTimeExpired 0) (frozen (some .forward))).axle.map = ⟨true, none, [], 0⟩ := by
  decide

/-- A capture in flight whose pair 0 has a raw state to be taken. -/
def jumping (raw dec : BeamState) : State := pairAt raw dec .u capturing

/-- A phase error and a stuck beam abort the capture with AXLE_MOVED (R71). -/
theorem test_beam_errors_abort :
    ∀ x ∈ [(Instr.filterTimeExpired 0, BeamState.both, BeamState.clear),
        (.filterTimeExpired 0, .clear, .both), (.stuckBeam 0 .u, .u, .u)],
      (after x.1 (jumping x.2.1 x.2.2)).order.engine = none ∧
        ((after x.1 (jumping x.2.1 x.2.2)).portState .console).events[(2 : Fin 9)].latest.map
          (fun e => e.1) = some (.orderAborted 1 .firstWeigh .axleMoved) := by decide

theorem witness_BeamTransitions :
    (State.reset.power = .running ∧ State.reset.axle.pairs[(0 : Boundary)].raw = .clear ∧
      State.reset.axle.pairs[(0 : Boundary)].raw ≠ .both ∧ State.reset.axle.filter ≠ 0 ∧
      (State.reset.setAxle fun a => { a with filter := 0 }).axle.filter = 0 ∧
      held.power ≠ .running) ∧
    (deckCount State.reset.legal < (2 : Boundary).val ∧
      (1 : Boundary).val ≤ deckCount State.reset.legal ∧
      State.reset.axle.pairs[(1 : Boundary)].persist ≠ none ∧
      State.reset.axle.pairs[(1 : Boundary)].decoder = none) ∧
    ((pairAt .both .u .u loaded).axle.pairs[(0 : Boundary)].decoder = some .u ∧
      (pairAt .both .clear .u loaded).axle.pairs[(0 : Boundary)].decoder = some .clear ∧
      (pairAt .both .clear .u loaded).axle.pairs[(0 : Boundary)].raw = .both) ∧
    ((pairAt .clear .both .u (clearBridge .empty)).axle.pairs[(0 : Boundary)].raw = .clear ∧
      (∀ d : DeckId, d.val < deckCount factoryLegal → (clearBridge .empty).deckMode d = .empty) ∧
      (clearBridge .empty).axle.pairs[(1 : Boundary)].decoder = some .clear ∧
      loaded.deckMode 0 ≠ .empty) ∧
    ((pairAt .clear .both .u loaded).axle.pairs[(0 : Boundary)].decoder = some .both ∧
      (pairAt .clear .both .u loaded).axle.pairs[(0 : Boundary)].stuckU = false ∧
      (pairAt .clear .clear .u loaded).axle.pairs[(0 : Boundary)].decoder = some .clear) ∧
    (∀ dir ∈ [none, some Direction.forward],
      (frozen dir).axle.pairs[(0 : Boundary)].decoder = some .u ∧
      (frozen dir).axle.pairs[(0 : Boundary)].start = .unknown ∧
      (frozen dir).axle.map.valid = false ∧ (frozen dir).axle.map.direction = dir ∧
      (frozen dir).sessionOpen = false ∧ (frozen dir).deckMode 0 = .empty ∧
      (frozen dir).axle.pairs[(1 : Boundary)].decoder = some .clear ∧
      (frozen dir).order.engine = none ∧ (frozen dir).order.active = none) ∧
    ((still .empty).axle.map.valid = false ∧ (still .empty).sessionOpen = false ∧
      (after (.deckSample 0 quiet) (still .empty)).deckMode 0 = .empty ∧
      ∀ i : Boundary, (still .empty).axle.pairs[i].decoder = some .clear) ∧
    ((jumping .both .clear).order.engine =
        some ⟨50, some .forward, .waiting, vrep 4 0, #v[49, 0, 0, 0]⟩ ∧
      (jumping .both .clear).order.active =
        some ⟨orderOf 1 .firstWeigh, .capturing, 0, none⟩ ∧
      (jumping .both .clear).axle.pairs[(0 : Boundary)].raw ≠ .clear ∧
      (jumping .clear .both).axle.pairs[(0 : Boundary)].raw = .clear ∧
      (jumping .clear .both).deckMode 0 ≠ .empty ∧
      (jumping .both .u).axle.pairs[(0 : Boundary)].decoder = some .u ∧
      (jumping .both .u).axle.pairs[(0 : Boundary)].stuckU = false) := by
  decide

def entering : State := pairAt .clear .d .u (clearBridge .empty)
def leaving : State := pairAt .clear .u .d loaded

/-- The first crossing of a pass empties the stop list and the results (R88), and the deck's window (R28). -/
theorem test_pass_starts :
    let s := ((pairAt .clear .d .u (clearBridge .settling)).setOrder fun u =>
      { u with stops := [exampleStop] }).setCheck fun k => { k with table := exampleTable }
    (after (.filterTimeExpired 0) s).order.stops = [] ∧
      (after (.filterTimeExpired 0) s).check.table = .empty ∧
      (after (.filterTimeExpired 0) s).decks[(0 : DeckId)].window = [] := by decide

theorem witness_CrossingsAreHandledWhole :
    (entering.power = .running ∧ (0 : Boundary).val ≤ deckCount entering.legal ∧
      entering.axle.pairs[(0 : Boundary)].persist ≠ none ∧
      entering.axle.pairs[(0 : Boundary)].raw = .clear ∧
      entering.axle.pairs[(0 : Boundary)].decoder = some .d ∧
      entering.axle.pairs[(0 : Boundary)].start = .u ∧
      (∀ d : DeckId, entering.decks[d].hold = false) ∧ entering.axle.map.valid = true ∧
      isSettled (entering.deckMode 0) = true) ∧
    (leaving.axle.pairs[(0 : Boundary)].decoder = some .u ∧
      leaving.axle.pairs[(0 : Boundary)].start = .d) ∧
    State.reset.axle.map.valid = false ∧ isSettled (State.reset.deckMode 0) = false ∧
    (crossMap (deckCount entering.legal) 0 .forward entering.axle.map =
        .applied ⟨true, some .forward, [⟨1, 0⟩], 0⟩ true false ∧
      ∀ m ∈ [DeckMode.settling, .motion, .noise, .overload],
        (pairAt .clear .d .u (clearBridge m)).deckMode 0 = m ∧
        (pairAt .clear .d .u (clearBridge m)).decks[(0 : DeckId)].window ≠ [] ∧
        (pairAt .clear .d .u (clearBridge m)).metro.decks[(0 : DeckId)].run = none) ∧
    (capturing.order.engine.isSome = true ∧ capturing.order.active.isSome = true ∧
      capturing.axle.map.valid = true ∧
      crossMap 1 0 .reverse { capturing.axle.map with list := [] } = .fault .noAxle ∧
      crossMap 1 0 .forward capturing.axle.map =
        .applied ⟨true, some .forward, [⟨1, 0⟩, ⟨2, 0⟩], 0⟩ false false ∧
      crossMap 1 0 .reverse capturing.axle.map = .applied ⟨true, none, [], 0⟩ false true) ∧
    (∀ st ∈ [OrderState.waiting, .surveying, .complete, .held],
      let s := withActive (orderOf 1 .axleSurvey) st leaving
      s.axle.map.valid = true ∧ s.order.engine = none ∧ s.order.staged = [] ∧ st ≠ .capturing ∧
      s.order.active = some ⟨orderOf 1 .axleSurvey, st, 0, none⟩ ∧
      crossMap (deckCount s.legal) 0 .reverse s.axle.map =
        .applied ⟨true, none, [], 0⟩ false true) := by
  decide

def mapWith (l : List Axle) (departed : Nat) : AxleMap := ⟨true, some .forward, l, departed⟩

theorem witness_CrossingsMoveAxles :
    (1 ≤ 2 ∧ 2 ≤ 4 ∧ (0 : DeckId).val = 0 ∧ (1 : DeckId).val + 1 = 2) ∧
    ((mapWith [⟨1, 0⟩] 0).direction = some .forward ∧ (mapWith [⟨1, 0⟩] 0).list.length < 16 ∧
      0 + 1 + 1 ≤ 255 ∧ (mapWith [⟨1, 0⟩] 0).list = [] ++ [⟨1, 0⟩]) ∧
    (16 ≤ (mapWith (List.replicate 16 ⟨1, 0⟩) 1).list.length ∧
      1 ≤ (mapWith (List.replicate 16 ⟨1, 0⟩) 1).departed) ∧
    ((mapWith [⟨255, 1⟩] 254).list.length < 16 ∧ 255 < 254 + 1 + 1 ∧
      (mapWith [⟨255, 1⟩] 254).list = ⟨255, 1⟩ :: [] ∧ (1 : DeckId) ≠ 0) ∧
    ((mapWith [⟨2, 1⟩] 1).departed = 1 ∧ (mapWith [] 0).departed = 0) ∧
    (0 < 1 ∧ 1 < 2 ∧ (0 : DeckId).val + 1 = 1 ∧ (1 : DeckId).val = 1 ∧
      (mapWith [⟨1, 1⟩, ⟨2, 0⟩] 0).list = [⟨1, 1⟩] ++ ⟨2, 0⟩ :: []) := by decide

/-! #### Printers, the switch, the day, the ends of operations -/

def lineState (f : PrinterLine → PrinterLine) : State :=
  State.reset.setTicket fun u => { u with lineA := f u.lineA }

def sendingLine : State :=
  lineState fun l =>
    { l with
      state := .sending
      spool := [⟨.ticket 1, false, []⟩]
      answerLeft := some 1000
      retry := 9 }

theorem witness_PrinterLinesExchange :
    sendingLine.power = .running ∧
    ((lineOf sendingLine.ticket .a).state = .sending ∧
      (lineOf sendingLine.ticket .a).answerLeft ≠ none ∧
      (lineOf sendingLine.ticket .a).spool = ⟨.ticket 1, false, []⟩ :: [] ∧
      sendingLine.ticket.limit ≠ 0 ∧ sendingLine.ticket.limit ≤ min 99 (9 + 1)) ∧
    (sendingLine.setTicket fun u => { u with limit := 11 }).ticket.limit = 11 ∧
    (lineOf (lineState fun l => { l with state := .retryWait }).ticket .a).state = .retryWait ∧
    ((lineOf State.reset.ticket .a).state = .offline ∧
      (lineOf State.reset.ticket .a).answerLeft = none) ∧
    (lineOf (lineState fun l => { l with answerLeft := some 1 }).ticket .a).answerLeft = some 1 := by
  decide

/-- Times of pair 0, printer line A and the session that end with the next millisecond. -/
def timesUp (st : LineState) : State :=
  ((inSession .shut { openRecord with activity := 1 } (pairAt .both .u .unknown loaded)).setPair 0 fun p =>
    { p with persist := some 7, blockedU := 120000, stuckU := false }).setTicket fun u =>
      { u with lineA := { u.lineA with state := st, answerLeft := some 1, waitLeft := 1 } }

theorem witness_TimeSwitchAndDayRollover :
    (State.reset.pending = [] ∧ State.reset.clock.ms < 999) ∧
    ((clockAt 86398 999).pending = [] ∧ 999 ≤ (clockAt 86398 999).clock.ms ∧
      (clockAt 86398 999).clock.sec < 86399) ∧
    ((clockAt 86399 999).pending = [] ∧ 999 ≤ (clockAt 86399 999).clock.ms ∧
      86399 ≤ (clockAt 86399 999).clock.sec ∧ (clockAt 86399 999).power = .running) ∧
    (held.pending = [] ∧ held.power ≠ .running ∧ held.clock.sec < 86399) ∧
    ((clockAt 86399 999).clock.replaced = false ∧
      (after (.setClock off 9 86399) (clockAt 86399 0)).clock.replaced = true) ∧
    ((timesUp .retryWait).pending = [] ∧ (tick (timesUp .retryWait)).pending =
        [.filterTimeExpired 0, .stuckBeam 0 .u, .printerAnswerTimeout .a, .retryWaitExpired .a,
          .sessionExpiry] ∧
      (tick (timesUp .offline)).pending.contains (.offlineQueryDue .a) = true) ∧
    (State.reset.power = .running ∧ State.reset.metro.switch = .shut ∧
      State.reset.metro.switch ≠ .opened ∧ 0 < logRoom State.reset.metro ∧
      logRoom (fullLog State.reset).metro = 0) := by decide +kernel

/-- A session operation on deck 1 whose window of 2 samples lacks the last. -/
def ending (k : OpKind) (sw : SwitchLevel) : State :=
  inSession sw { openRecord with op := some ⟨k, 0, 5, some ⟨2, 1, 10000000, vrep 4 2500000⟩⟩ }
    (still .steady)

/-- 10,000 kg on factory factors. -/
def tenTonnes : Conversion := cells 2500000 2500000 2500000 2500000

theorem witness_SessionOperationsEnd :
    (∀ k ∈ [OpKind.testZero, .testLoad 10000 .centre, .adjustZero, .adjustSpan 10000],
      (ending k .opened).power = .running ∧ (0 : DeckId).val < deckCount (ending k .opened).legal ∧
      recordOf (ending k .opened).legal 0 (ending k .opened).front[(0 : DeckId)] tenTonnes =
        .valid 10000000 ∧
      (ending k .opened).decks[(0 : DeckId)].hold = false ∧
      (ending k .opened).metro.session = some
        { openRecord with op := some ⟨k, 0, 5, some ⟨2, 1, 10000000, vrep 4 2500000⟩⟩ } ∧
      (ending k .opened).metro.decks[(0 : DeckId)].run = none ∧
      (ending k .opened).order.engine = none) ∧
    (ending .adjustZero .shut).metro.switch = .shut ∧
    (((ending .testZero .opened).metro.log.length < 255 ∧
        (ending .testZero .opened).metro.nextSeq < 4294967294 ∧
        (ending .testZero .opened).deckStatus 0 = .verified) ∧
      ¬(10000 * 4 ≤ (20 : Nat)) ∧
      ((ending .testZero .opened).setMetro fun m => { m with nextSeq := 4294967294 }).metro.nextSeq =
        4294967294) ∧
    (0 < (10000000 : Int) ∧ 9 * (10000000 : Int) ≤ 10 * (10000 * 1000) ∧
      10 * (10000 * 1000) ≤ 11 * (10000000 : Int)) ∧
    (∀ i : CellId, 100 ≤ (2 * (factoryLegal.factor[(0 : DeckId)][i] * (10000 * 1000)) + 10000000) /
      (2 * 10000000)) := by decide

/-- A deck under shunt hold whose measurement stands at the given place. -/
def shunted (r : ShuntRun) : State :=
  (onDeck (fun k => { k with hold := true }) (clearBridge .empty)).setMetroDeck 0 fun k =>
    { k with run := some r }

theorem witness_ShuntPhasesEnd :
    (∀ r ∈ [(⟨false, 0, .measureOff, 31, 0, 0, []⟩ : ShuntRun), ⟨false, 0, .settleOn, 49, 0, 0, []⟩,
        ⟨false, 0, .measureOn, 31, 0, 0, []⟩, ⟨false, 2, .settleOff, 49, 0, 0, [0, 0]⟩,
        ⟨false, 3, .settleOff, 49, 0, 32, [32, 32, 32]⟩],
      (shunted r).power = .running ∧ (0 : DeckId).val < deckCount (shunted r).legal ∧
      (shunted r).decks[(0 : DeckId)].hold = true ∧
      recordOf (shunted r).legal 0 (shunted r).front[(0 : DeckId)] quiet ≠ .invalid ∧
      (shunted r).metro.decks[(0 : DeckId)].run = some r ∧ (shunted r).order.engine = none ∧
      r.forReference = false ∧ (shunted r).operation = none) ∧
    (still .empty).metro.decks[(0 : DeckId)].run = none ∧
    ((shunted ⟨false, 0, .settleOn, 48, 0, 0, []⟩).metro.decks[(0 : DeckId)].run =
      some ⟨false, 0, .settleOn, 48, 0, 0, []⟩ ∧ 48 + 1 < 50 ∧ 30 + 1 < 32) ∧
    (inSession .opened { openRecord with op := some ⟨.recordShuntRef, 0, 5, none⟩ }
      (shunted ⟨true, 3, .settleOff, 49, 0, 32, [32, 32, 32]⟩)).operation =
        some ⟨.recordShuntRef, 0, 5, none⟩ := by decide

/-- Deck 1 about to enter EMPTY, its check asked for by a period of one entry. -/
def checkDue : State :=
  (onDeck (fun k => { k with mode := .settling, window := List.replicate 19 0, reference := none })
    (clearBridge .empty)).setMetroDeck 0 fun k => { k with shuntMode := .periodic 1 }

/-- A measurement on deck 1 whose pair 0 is about to decode a crossing. -/
def measured (r : ShuntRun) : State := pairAt .clear .d .u (shunted r)

theorem witness_ShuntChecksStartAndAreAbandoned :
    (checkDue.power = .running ∧ (0 : DeckId).val < deckCount checkDue.legal ∧
      recordOf checkDue.legal 0 checkDue.front[(0 : DeckId)] quiet = .valid 0 ∧
      checkDue.decks[(0 : DeckId)].hold = false ∧
      checkDue.decks[(0 : DeckId)].mode = .settling ∧
      checkDue.decks[(0 : DeckId)].powerUpSpent = true ∧
      checkDue.decks[(0 : DeckId)].pendingZero = none ∧
      checkDue.decks[(0 : DeckId)].trackRun < 99 ∧
      checkDue.metro.decks[(0 : DeckId)].run = none ∧ checkDue.operation = none ∧
      checkDue.order.engine = none ∧ checkDue.order.active = none ∧
      (checkDue.decks[(0 : DeckId)].window.length : Int) + 1 = checkDue.legal.window) ∧
    (checkDue.metro.decks[(0 : DeckId)].shuntMode = .periodic 1 ∧
      clearOfAxles checkDue 0 = true ∧ checkDue.sessionOpen = false ∧
      (∀ i ∈ shuntParams 0, inRange checkDue.legal i = true) ∧
      clearOfAxles loaded 0 = false) ∧
    (∀ m ∈ [DeckMode.motion, .noise],
      (onDeck (fun k => { k with mode := m }) checkDue).decks[(0 : DeckId)].mode = m) ∧
    (zeroTaken.decks[(0 : DeckId)].mode = .steady ∧ clearOfAxles zeroTaken 0 = true ∧
      zeroTaken.decks[(0 : DeckId)].pendingZero ≠ none ∧
      zeroTaken.decks[(0 : DeckId)].reference = some 0 ∧ zeroTaken.order.active = none ∧
      zeroTaken.testCapture = false ∧ (zeroTaken.decks[(0 : DeckId)].window.length : Int) ≤
        zeroTaken.legal.window ∧ -(20 * 20 * 1000) ≤ 0 - zeroTaken.decks[(0 : DeckId)].zeroOffset) ∧
    (∀ r ∈ [(⟨false, 0, .settleOn, 3, 0, 0, []⟩ : ShuntRun), ⟨true, 2, .settleOff, 9, 0, 0, [0, 0]⟩],
      (measured r).power = .running ∧ (measured r).metro.decks[(0 : DeckId)].run = some r ∧
      (measured r).decks[(0 : DeckId)].hold = true ∧
      (measured r).axle.pairs[(0 : Boundary)].persist ≠ none ∧
      (measured r).axle.pairs[(0 : Boundary)].raw = .clear ∧
      (measured r).axle.pairs[(0 : Boundary)].decoder = some .d ∧
      (measured r).axle.pairs[(0 : Boundary)].start = .u ∧
      (measured r).order.engine = none ∧ (measured r).testCapture = false) ∧
    broken.sense[(0 : CellId)] = false := by decide

/-! #### Restart, and what every step keeps -/

/-- A visit opened whose reply has not been sent. -/
def opening : State := after (.openVisit off plate (some .receival) 0 0 []) State.reset

/-- R118: the restart finds it not made; after its reply it finds it made. -/
theorem test_restart_takes_back :
    opening.visit.visits.length = 1 ∧ (takeBackAll opening).visit = State.reset.visit ∧
      (takeBackAll (after (.replySent .office) opening)).visit.visits = opening.visit.visits := by
  decide +kernel

/-- An amendment of visit 5 whose reply is being sent, and a void of visit 7 answered since. -/
def overlapped : State :=
  after (.replySent .office) (after (.voidVisit off 7 0)
    (after (.amendVisit con 5 0 none (some 9) none none)
      (withVisits [visitOf 5 .receival .opened, { visitOf 7 .receival .opened with plate := [0x42#8] }]
        State.reset)))

/-- R118, R184: the amendment was not made, the void was. -/
theorem test_restart_keeps_later_changes :
    overlapped.visit.visits.map (fun v => (v.number, v.commodity, v.state, v.revision)) =
      [(5, 9, .opened, 1), (7, 0, .void, 1)] ∧
    (takeBackAll overlapped).visit.visits.map
      (fun v => (v.number, v.commodity, v.state, v.revision)) = [(5, 0, .opened, 0), (7, 0, .void, 1)] := by
  decide +kernel

/-- What the office has sent the reply to. -/
def answeredTo (i : Instr) (s : State) : State := after (.replySent .office) (after i s)

/-- A plate amended, its reply being sent, and the old one carried by a visit opened since. -/
def plateReused : State :=
  answeredTo (.openVisit off plate (some .receival) 0 0 [])
    (after (.amendVisit con 4 0 (some [0x43#8]) none none none)
      (withVisits [visitOf 4 .receival .opened] State.reset))

/-- A visit opened, its reply being sent, and amended since. -/
def amendedSince : State :=
  answeredTo (.amendVisit off 1 0 none (some 9) none none)
    (after (.openVisit con plate (some .receival) 0 0 []) State.reset)

/-- A visit removed and one opened under its number, both replies being sent. -/
def bothUnsent : State :=
  after (.openVisit con [0x44#8] (some .receival) 0 0 []) (after (.removeVisit off 4)
    ((withVisits [visitOf 4 .receival .void] State.reset).setVisit fun u => { u with counter := 3 }))

/-- Where a change answered since cannot be made without the request, both stand (R101, R184). -/
theorem test_restart_keeps_what_was_answered :
    (takeBackAll plateReused).visit.visits = plateReused.visit.visits ∧
      (plateReused.visit.visits.map fun v => v.plate) = [[0x43#8], plate] ∧
      (takeBackAll (after (.replySent .console) bothUnsent)).visit.visits =
        bothUnsent.visit.visits ∧
      (bothUnsent.visit.visits.map fun v => (v.number, v.plate)) = [(4, [0x44#8])] ∧
      (takeBackAll amendedSince).visit.visits = amendedSince.visit.visits ∧
      (amendedSince.visit.visits.map fun v => (v.number, v.commodity)) = [(1, 9)] := by
  decide +kernel

/-- An equal entry written again moves to the end of the writing order, and back when the write was not made,
also with an amendment since (R115, R118). -/
theorem test_restart_puts_tare_back :
    let s := after (.replySent .console) (after (.amendVisit con 1 0 none (some 9) none none)
      (after (.storeTare off 1) (weighed [⟨plate, 12000, 0, 30⟩, ⟨[0x45#8], 9000, 0, 30⟩])))
    (s.visit.tares.map fun e => e.plate) = [[0x45#8], plate] ∧
      ((takeBackAll s).visit.tares.map fun e => e.plate) = [plate, [0x45#8]] ∧
      ((takeBackAll s).visit.visits.map fun v => v.commodity) = [9] := by
  decide +kernel

/-- The check passes on the machine as it leaves reset, and fails on a value it cannot be. -/
theorem witness_ResetAndRestart :
    State.reset.metro.check = Config.legalCheck State.reset.metro.legal State.reset.metro.cal ∧
    Config.legalCheck factoryLegal 0 + 1 ≠ Config.legalCheck factoryLegal 0 ∧
    (audit .shut).metro.marker = true ∧ (audit .shut).metro.log.length + 6 ≤ 256 ∧
    (audit .shut).metro.nextSeq + 6 ≤ 4294967295 ∧
    (some (⟨.metrology, true⟩ : RestartCut)).map (fun c => c.done) ≠ some .restore ∧
    ((opening.portState .office).receiver = .answering ∧
      (opening.portState .office).answered = some ⟨State.reset.visit, 1⟩ ∧
      (opening.portState .office).reply.map (fun r => r.kind) = some 0x30#8 ∧
      ((opening.portState .console).receiver ≠ .answering ∧
        (opening.portState .inspection).receiver ≠ .answering) ∧
      (withVisits [] opening).visit ≠ opening.visit) ∧
    ((overlapped.portState .console).answered.map (fun c =>
        (overlapped.visit.made.drop c.upTo, soundTables c.before,
          (makeAll c.before (overlapped.visit.made.drop c.upTo)).map soundTables)) =
        some ([.voided 7], true, some true) ∧
      (overlapped.portState .office).answered = none) ∧
    ((amendedSince.portState .console).answered.map (fun c =>
        makeAll c.before (amendedSince.visit.made.drop c.upTo)) = some none ∧
      (plateReused.portState .console).answered.map (fun c =>
        (makeAll c.before (plateReused.visit.made.drop c.upTo)).map soundTables) =
          some (some false)) ∧
    ((bothUnsent.portState .office).answered.map (fun c => (c.before.made.length, c.upTo)) =
        some (0, 1) ∧
      (bothUnsent.portState .console).answered.map (fun c => (c.before.made.length, c.upTo)) =
        some (1, 2) ∧ bothUnsent.visit.made.length = 2 ∧
      (takeBackAll bothUnsent).visit.visits = [visitOf 4 .receival .void]) := by
  refine ⟨rfl, by omega, by decide, by decide, by decide, by decide, by decide, ?_, ?_, ?_⟩ <;>
    decide +kernel

theorem witness_StepKeepsPins :
    (PinsFollow State.reset ∧ step State.reset = .next (tick State.reset) ∧
      State.reset.power = .running ∧ State.reset.order.active = none) ∧
    (let s := (withActive (orderOf 1 .check) .complete loaded).drive
     PinsFollow s ∧ s.sessionOpen = false ∧ s.axle.map.valid = true ∧
     s.axle.map.direction = some .forward ∧ s.order.laneB = .go) :=
  ⟨⟨rfl, rfl, rfl, rfl⟩, rfl, rfl, rfl, rfl, rfl⟩

theorem witness_StepKeepsMap :
    MapOk (clearBridge .empty) ∧
      step ((entering.withPending [.filterTimeExpired 0])) =
        .next (after (.filterTimeExpired 0) (entering.withPending [])) := by
  refine ⟨?_, rfl⟩
  unfold MapOk
  decide

theorem witness_StepKeepsJournal :
    JournalOk (((withJournal [aTicket 1]).setTicket fun u => { u with counter := 1 })) ∧
      ∃ t, step ((withJournal [aTicket 1]).setTicket fun u => { u with counter := 1 }) = .next t := by
  unfold JournalOk
  exact ⟨⟨by decide, by decide, by decide, rfl⟩, _, rfl⟩

theorem witness_StepKeepsVisits : VisitsOk heldState ∧ ∃ t, step heldState = .next t := by
  exact ⟨heldState_visits, _, rfl⟩

/-- RECORD_SHUNT_REF on deck 1 with the counter as given, its command queue holding a RESTART. -/
def recording (cal : Nat) : State :=
  ((inSession .opened { openRecord with op := some ⟨.recordShuntRef, 0, 5, none⟩ }
    (shunted ⟨true, 3, .settleOff, 49, 0, 32, [32, 32, 32]⟩)).setMetro fun m =>
      { m with cal := cal }).withPending [.restart false ⟨some ⟨factoryLegal, 65535, 0⟩, none⟩]

theorem witness_StepKeepsLog :
    (LogOk ((audit .shut).logProtective .switchOpen) ∧
      ∃ t, step ((audit .shut).logProtective .switchOpen) = .next t) ∧
    (CounterOk (recording 65531) ∧
      (∀ c, (recording 65531).pending.head? = some c → wellFormed c = true) ∧
      ∃ t, step (recording 65531) = .next t) := by
  refine ⟨⟨?_, _, rfl⟩, ⟨by decide, ?_, ?_⟩, ?_, _, rfl⟩
  · unfold LogOk
    decide
  · rintro o ⟨⟩ -
    decide
  · intro d r h hr
    match d with
    | 0 => exact ⟨5, rfl⟩
    | 1 | 2 | 3 => exact nomatch h
  · rintro c ⟨⟩
    decide

theorem witness_StepKeepsOrders : OrdersOk capturing ∧ ∃ t, step capturing = .next t := by
  unfold OrdersOk
  exact ⟨⟨by decide, by decide, by decide, ⟨rfl, by decide, .inl rfl⟩, by decide⟩, _, rfl⟩

def spent : State := State.reset.setFront 0 fun f => { f with budget := 0 }

theorem witness_StepKeepsBudgets : BudgetsOk spent ∧ ∃ t, step spent = .next t := by
  unfold BudgetsOk
  exact ⟨by decide, _, rfl⟩

end Sys2Proof.Tests
end

/-!
What each operation of the order side (orders, visits, tickets, printers, watch channels, map recovery)
leaves as it is: the cell front ends, the deck monitors, the metrology unit, the clock and the METROLOGY
events of the ports.
-/

namespace Sys2Proof.Machine

/-! ### Views of the state -/

/-- What the conversions of a deck have left: the budget, the validity of the latest record and, per channel,
the latest sample with its condition and the tally. The shunt switches and the excitation are no part of it. -/
def FrontEnd.measured (f : FrontEnd) :
    Nat × Option Bool × Vector (Option (Int × Condition) × Nat) 4 :=
  (f.budget, f.lastValid, vmap (fun c => (c.latest, c.tally)) f.cells)

/-- What the samples of a deck have left: its front end's part and its gross W. -/
def State.records (s : State) (d : DeckId) :
    (Nat × Option Bool × Vector (Option (Int × Condition) × Nat) 4) × Option Int :=
  (s.front[d].measured, s.decks[d].gross)

/-- The METROLOGY category of each port's event set. -/
def State.metroEvents (s : State) (p : Port) : EventCell := (s.portState p).events[(6 : Fin 9)]

/-- Nothing that samples or status changes write differs. -/
@[simp] abbrev SameStanding (t s : State) : Prop :=
  t.records = s.records ∧ t.deckStatus = s.deckStatus

/-- Only the order side, the map and the other events differ. -/
@[simp] abbrev SameBridge (t s : State) : Prop :=
  t.front = s.front ∧ t.decks = s.decks ∧ t.metro = s.metro ∧ t.clock = s.clock ∧
    t.metroEvents = s.metroEvents ∧ SameStanding t s

/-! ### The setters -/

section
variable (s : State)

@[simp] theorem setOrder_bridge (f : OrderUnit → OrderUnit) : SameBridge (s.setOrder f) s :=
  ⟨rfl, rfl, rfl, rfl, rfl, rfl, rfl⟩

@[simp] theorem setCheck_bridge (f : AxleCheck → AxleCheck) : SameBridge (s.setCheck f) s :=
  ⟨rfl, rfl, rfl, rfl, rfl, rfl, rfl⟩

@[simp] theorem setVisit_bridge (f : VisitUnit → VisitUnit) : SameBridge (s.setVisit f) s :=
  ⟨rfl, rfl, rfl, rfl, rfl, rfl, rfl⟩

@[simp] theorem setTicket_bridge (f : TicketUnit → TicketUnit) : SameBridge (s.setTicket f) s :=
  ⟨rfl, rfl, rfl, rfl, rfl, rfl, rfl⟩

theorem setTicket_standing (f : TicketUnit → TicketUnit) : SameStanding (s.setTicket f) s :=
  ⟨rfl, rfl⟩

@[simp] theorem setWatch_bridge (f : WatchUnit → WatchUnit) : SameBridge (s.setWatch f) s :=
  ⟨rfl, rfl, rfl, rfl, rfl, rfl, rfl⟩

@[simp] theorem setAxle_bridge (f : AxleUnit → AxleUnit) : SameBridge (s.setAxle f) s :=
  ⟨rfl, rfl, rfl, rfl, rfl, rfl, rfl⟩

@[simp] theorem setPair_bridge (j : Boundary) (f : Pair → Pair) : SameBridge (s.setPair j f) s :=
  ⟨rfl, rfl, rfl, rfl, rfl, rfl, rfl⟩

@[simp] theorem setMap_bridge (f : AxleMap → AxleMap) : SameBridge (s.setMap f) s :=
  ⟨rfl, rfl, rfl, rfl, rfl, rfl, rfl⟩

@[simp] theorem setPort_standing (p : Port) (f : PortState → PortState) :
    SameStanding (s.setPort p f) s := ⟨rfl, rfl⟩

@[simp] theorem setClock_standing (f : Clock → Clock) : SameStanding (s.setClock f) s := ⟨rfl, rfl⟩

@[simp] theorem raise_standing (c : Cause) : SameStanding (s.raise c) s := ⟨rfl, rfl⟩

@[simp] theorem raise_metroEvents {c : Cause} (h : ¬categoryOf c = 6) :
    (s.raise c).metroEvents = s.metroEvents := by
  have hc : ¬(categoryOf c).val = 6 := fun e => h (Fin.ext e)
  funext p
  simp [State.metroEvents, State.portState, State.raise, countEvent, hc]

/-- Raising events that are none of METROLOGY. -/
theorem raiseAll_bridge {cs : List Cause} (h : ∀ c ∈ cs, ¬categoryOf c = 6) :
    SameBridge (s.raiseAll cs) s := by
  unfold State.raiseAll
  induction cs generalizing s with
  | nil => simp
  | cons c cs ih =>
    have hc := h c (.head _)
    have := ih (s.raise c) fun x hx => h x (.tail _ hx)
    simp_all

end

/-! ### The order queue -/

section
variable (s : State)

@[simp] theorem noticeConditions_bridge : SameBridge (noticeConditions s) s := by
  obtain ⟨n, h⟩ := noticeConditions_eq s
  simp [h]

@[simp] theorem raiseLeft_bridge (o : Order) (r : OrderResult) : SameBridge (raiseLeft o r s) s := by
  simp [raiseLeft, categoryOf]

@[simp] theorem activate_bridge (o : Order) : SameBridge (activate o s) s := by
  simp [activate]

@[simp] theorem promoteFrom_bridge (l : List Order) : SameBridge (promoteFrom l s) s := by
  induction l generalizing s with
  | nil => simp [promoteFrom]
  | cons o l ih =>
    unfold promoteFrom
    split
    · simp
    · have := ih (raiseLeft o .stale s)
      simp_all

@[simp] theorem leaveActive_bridge (r : OrderResult) : SameBridge (leaveActive r s) s := by
  unfold leaveActive
  split
  · simp
  · simp [promote]

@[simp] theorem examineActive_bridge (n : Nat) : SameBridge (examineActive n s) s := by
  unfold examineActive
  split
  · split <;> simp
  · simp

@[simp] theorem disarm_bridge (n : Nat) : SameBridge (disarm n s) s := by
  simp [disarm]

@[simp] theorem reportAmended_bridge (n : Nat) : SameBridge (reportAmended n s) s := by
  simp [reportAmended]

@[simp] theorem reportGone_bridge (n : Nat) : SameBridge (reportGone n s) s := by
  simp [reportGone]

@[simp] theorem abortCapture_bridge (c : AbortCause) : SameBridge (abortCapture c s) s := by
  rcases abortCapture_cases c s with h | ⟨e, a, -, -, h⟩ <;> simp [h, categoryOf]

@[simp] theorem setActiveState_bridge (st : OrderState) : SameBridge (setActiveState st s) s := by
  simp [setActiveState]

@[simp] theorem completeActive_bridge (n : Option Nat) : SameBridge (completeActive n s) s := by
  unfold completeActive
  split <;> simp [categoryOf]

@[simp] theorem queueSlip_bridge (e : BridgeEnd) (k : SlipKind) (content : List PrintField) :
    SameBridge (queueSlip e k content s) s := by
  unfold queueSlip
  split <;> simp [categoryOf]

@[simp] theorem finishSurvey_bridge : SameBridge (finishSurvey s) s := by
  unfold finishSurvey
  split <;> simp

@[simp] theorem leaveWithoutPass_bridge : SameBridge (leaveWithoutPass s) s := by
  unfold leaveWithoutPass
  split <;> simp

@[simp] theorem emptyStops_bridge : SameBridge (emptyStops s) s := by
  simp [emptyStops]

@[simp] theorem passEndActive_bridge : SameBridge (passEndActive s) s := by
  unfold passEndActive
  split
  · simp
  · split <;> simp

@[simp] theorem passEnd_bridge : SameBridge (passEnd s) s := by
  simp [passEnd]

@[simp] theorem axleMoved_bridge : SameBridge (axleMoved s) s := by
  simp [axleMoved]

@[simp] theorem recoverMap_bridge : SameBridge (recoverMap s) s := by
  unfold recoverMap
  split
  · dsimp only
    split <;> simp [categoryOf]
  · simp

/-- A VALID map has nothing to recover from. -/
theorem recoverMap_valid {s : State} (h : s.axle.map.valid = true) : recoverMap s = s := by
  simp [recoverMap, mapCanRecover, h]

end

/-! ### Tickets and the weighing step -/

section
variable (s : State)

@[simp] theorem queueTicket_bridge (t : Ticket) (e : BridgeEnd) : SameBridge (queueTicket t e s) s := by
  unfold queueTicket
  split <;> simp [categoryOf]

@[simp] theorem reportTicket_bridge (t : Ticket) : SameBridge (reportTicket t s) s := by
  simp [reportTicket, categoryOf]

theorem armStep_notes (c : TicketContent) (m : Option Int) (u : WatchUnit) :
    ∀ x ∈ (armStep c m u).2, categoryOf x = 5 := by
  intro x hx
  unfold armStep at hx
  split at hx
  · simp only [List.mem_append, List.mem_singleton] at hx
    rcases hx with hx | rfl
    · split at hx <;> simp_all [categoryOf]
    · rfl
  · simp at hx

theorem applyChannel_notes (ch : WatchChannel) (w : WatchConfig) (c : TicketContent)
    (m : Option Int) (u : WatchUnit) : ∀ x ∈ (applyChannel ch w c m u).2, categoryOf x = 5 := by
  intro x hx
  unfold applyChannel at hx
  split at hx <;> simp_all [matchEvent, categoryOf]

/-- An evaluation gives WATCH events alone (R147). -/
theorem evaluate_notes (c : TicketContent) (entry : Option Int) (u : WatchUnit) :
    ∀ x ∈ (evaluate c entry u).notes, categoryOf x = 5 := by
  intro x hx
  unfold evaluate at hx
  split at hx
  · simp only [evaluateIndependent, List.mem_append] at hx
    rcases hx with hx | hx
    · exact applyChannel_notes _ _ _ _ _ _ hx
    · exact applyChannel_notes _ _ _ _ _ _ hx
  · have := armStep_notes c (channelMatch u.w1 c entry) u x
    unfold evaluateSequential at hx
    dsimp only at hx
    split at hx
    · split at hx
      · simp only [List.mem_append, List.mem_singleton] at hx
        rcases hx with hx | rfl
        · exact this hx
        · rfl
      · exact this hx
    · exact this hx

@[simp] theorem reportClosed_bridge (v : Visit) : SameBridge (reportClosed v s) s := by
  unfold reportClosed
  split <;> simp

theorem holdResult_bridge {e : Evaluation} (h : ∀ c ∈ e.notes, ¬categoryOf c = 6)
    (r : CaptureResult) (v : Visit) : SameBridge (holdResult e r v s) s := by
  simp [holdResult, raiseAll_bridge _ h]

theorem issueResult_bridge {e : Evaluation} (h : ∀ c ∈ e.notes, ¬categoryOf c = 6)
    (r : CaptureResult) (v : Visit) : SameBridge (issueResult e r v s) s := by
  simp [issueResult, raiseAll_bridge _ h]

@[simp] theorem weighingStep_bridge (r : CaptureResult) : SameBridge (weighingStep r s).2 s := by
  unfold weighingStep
  split
  · simp
  · split
    · simp
    · have h : ∀ c entry u, ∀ x ∈ (evaluate c entry u).notes, ¬categoryOf x = 6 := by
        intro c entry u x hx
        rw [evaluate_notes c entry u x hx]
        decide
      dsimp only
      split
      · exact holdResult_bridge s (h _ _ _) _ _
      · exact issueResult_bridge s (h _ _ _) _ _

@[simp] theorem releaseHeld_bridge (v : Visit) (h : HeldTicket) :
    SameBridge (releaseHeld v h s).2 s := by
  simp [releaseHeld]

@[simp] theorem orderReleased_bridge (n k : Nat) : SameBridge (orderReleased n k s) s := by
  unfold orderReleased
  split <;> simp

@[simp] theorem orderRejected_bridge (n : Nat) : SameBridge (orderRejected n s) s := by
  unfold orderRejected
  split
  · split <;> simp
  · simp

end

/-! ### Captures -/

section
variable (s : State)

@[simp] theorem startCapture_bridge : SameBridge (startCapture s) s := by
  unfold startCapture
  split <;> simp

@[simp] theorem captureSample_bridge (d : DeckId) (w : Int) : SameBridge (captureSample d w s) s := by
  simp [captureSample]

@[simp] theorem takeStop_bridge (o : Order) (st : Stop) : SameBridge (takeStop o st s) s := by
  unfold takeStop
  split <;> simp

@[simp] theorem returnOrder_bridge (e : OrderCapture) (c : NotCompleted) :
    SameBridge (returnOrder e c s) s := by
  unfold returnOrder
  split <;> simp [categoryOf]

@[simp] theorem weighOrder_bridge (e : OrderCapture) (o : Order) (mass : Int) (m : Marks) :
    SameBridge (weighOrder e o mass m s) s := by
  unfold weighOrder
  dsimp only
  split
  · next h =>
    have hw := h ▸ weighingStep_bridge s _
    simp_all
  · next h =>
    have hw := h ▸ weighingStep_bridge s _
    simp_all
  · next h =>
    have hw := h ▸ weighingStep_bridge s _
    simp_all [categoryOf]

@[simp] theorem surveyStop_bridge (e : OrderCapture) (m : Marks) (reported : Bool) :
    SameBridge (surveyStop e m reported s) s := by
  unfold surveyStop
  dsimp only
  split
  · simp
  · split <;> simp

@[simp] theorem finishCheck_bridge (e : OrderCapture) (o : Order) (mass : Int) (m : Marks) :
    SameBridge (finishCheck e o mass m s) s := by
  simp [finishCheck]

@[simp] theorem completeStop_bridge (e : OrderCapture) (o : Order) :
    SameBridge (completeStop e o s) s := by
  unfold completeStop
  dsimp only
  split <;> simp

@[simp] theorem completeCapture_bridge : SameBridge (completeCapture s) s := by
  unfold completeCapture
  split
  · dsimp only
    split <;> simp
  · simp

@[simp] theorem testOnSample_bridge : SameBridge (testOnSample s).1 s := by
  unfold testOnSample
  split
  · dsimp only
    split <;> simp [countTest]
  · simp

@[simp] theorem abortOnDeck_bridge (d : DeckId) : SameBridge (abortOnDeck d s) s := by
  unfold abortOnDeck
  split <;> simp

@[simp] theorem captureStep_bridge (endFirst : Bool) (d : DeckId) :
    SameBridge (captureStep endFirst d s) s := by
  unfold captureStep
  dsimp only
  split <;> split <;> simp

/-- Without a capture in flight a sample neither ends nor aborts one. -/
theorem captureStep_none {s : State} (h : s.order.engine = none) (endFirst : Bool) (d : DeckId) :
    captureStep endFirst d s = s := by
  simp [captureStep, abortOnDeck, windowEnded, State.orderCapture, h]

end
end Sys2Proof.Machine

/-!
What the operations on statuses, deck monitors, shunt measurements and session operations leave as it is,
and that each status they change becomes SUSPECT or UNVERIFIED.
-/

namespace Sys2Proof.Machine

/-! ### Lowered statuses -/

/-- SUSPECT or UNVERIFIED. -/
abbrev isLow (v : VStatus) : Prop := v = .suspect ∨ v = .unverified

/-- From `s` to `t` each deck keeps its status or is lowered. -/
structure Lowers (s t : State) : Prop where
  each : ∀ d, t.deckStatus d = s.deckStatus d ∨ isLow (t.deckStatus d)

theorem Lowers.of_eq {s t : State} (h : t.deckStatus = s.deckStatus) : Lowers s t :=
  ⟨fun d => .inl (by rw [h])⟩

theorem Lowers.trans {s t u : State} (h : Lowers s t) (h' : Lowers t u) : Lowers s u := by
  refine ⟨fun d => ?_⟩
  rcases h'.each d with e | e
  · rw [e]
    exact h.each d
  · exact .inr e

theorem Lowers.foldl {α : Type} {f : State → α → State} (h : ∀ s a, Lowers s (f s a)) (l : List α)
    (s : State) : Lowers s (l.foldl f s) := by
  induction l generalizing s with
  | nil => exact .of_eq rfl
  | cons a l ih => exact (h s a).trans (ih _)

/-- Where one deck's status is lowered and no other changes. -/
theorem Lowers.of_update {s t : State} {d : DeckId} {v : VStatus}
    (h : t.deckStatus = Function.update s.deckStatus d v) (hv : isLow v) : Lowers s t := by
  refine ⟨fun e => ?_⟩
  rw [h]
  by_cases he : e = d
  · subst he
    simpa using .inr hv
  · exact .inl (Function.update_of_ne he _ _)

/-- The records stand, and each status stands or is lowered. -/
structure Carries (s t : State) : Prop where
  records : t.records = s.records
  lowers : Lowers s t

theorem Carries.of_same {s t : State} (h : SameStanding t s) : Carries s t :=
  ⟨h.1, .of_eq h.2⟩

theorem Carries.trans {s t u : State} (h : Carries s t) (h' : Carries t u) : Carries s u :=
  ⟨h'.records.trans h.records, h.lowers.trans h'.lowers⟩

/-- A view that each step of a fold keeps is kept by the fold. -/
theorem foldl_keeps {α β : Type} {view : State → β} {f : State → α → State}
    (h : ∀ s a, view (f s a) = view s) (l : List α) (s : State) :
    view (l.foldl f s) = view s := by
  induction l generalizing s with
  | nil => rfl
  | cons a l ih => exact (ih _).trans (h s a)

theorem foldl_standing {α : Type} {f : State → α → State} (h : ∀ s a, SameStanding (f s a) s)
    (l : List α) (s : State) : SameStanding (l.foldl f s) s :=
  ⟨foldl_keeps (view := State.records) (fun s a => (h s a).1) l s,
    foldl_keeps (view := State.deckStatus) (fun s a => (h s a).2) l s⟩

theorem downgraded_isLow (v : VStatus) : isLow (downgraded v) := by
  cases v <;> simp [downgraded, isLow]

section
variable (s : State)

/-! ### The setters of the decks and the metrology unit -/

theorem setFront_records {d : DeckId} {f : FrontEnd → FrontEnd}
    (h : (f s.front[d]).measured = s.front[d].measured) : (s.setFront d f).records = s.records := by
  funext e
  by_cases he : d = e
  · subst he
    simpa [State.records] using h
  · simp [State.records, Fin.val_ne_of_ne he]

theorem setDeck_records_at {d : DeckId} {f : Deck → Deck}
    (h : (f s.decks[d]).gross = s.decks[d].gross) : (s.setDeck d f).records = s.records := by
  funext e
  by_cases he : d = e
  · subst he
    simpa [State.records] using h
  · simp [State.records, Fin.val_ne_of_ne he]

@[simp] theorem setDeck_records {d : DeckId} {f : Deck → Deck} (h : ∀ k, (f k).gross = k.gross) :
    (s.setDeck d f).records = s.records := setDeck_records_at s (h _)

@[simp] theorem setFront_deckStatus (d : DeckId) (f : FrontEnd → FrontEnd) :
    (s.setFront d f).deckStatus = s.deckStatus := rfl

@[simp] theorem setDeck_deckStatus (d : DeckId) (f : Deck → Deck) :
    (s.setDeck d f).deckStatus = s.deckStatus := rfl

@[simp] theorem setFront_metroEvents (d : DeckId) (f : FrontEnd → FrontEnd) :
    (s.setFront d f).metroEvents = s.metroEvents := rfl

@[simp] theorem setDeck_metroEvents (d : DeckId) (f : Deck → Deck) :
    (s.setDeck d f).metroEvents = s.metroEvents := rfl

@[simp] theorem setMetro_records (f : Metrology → Metrology) :
    (s.setMetro f).records = s.records := rfl

@[simp] theorem setMetro_metroEvents (f : Metrology → Metrology) :
    (s.setMetro f).metroEvents = s.metroEvents := rfl

@[simp] theorem setMetroDeck_records (d : DeckId) (f : MetroDeck → MetroDeck) :
    (s.setMetroDeck d f).records = s.records := rfl

@[simp] theorem setMetroDeck_metroEvents (d : DeckId) (f : MetroDeck → MetroDeck) :
    (s.setMetroDeck d f).metroEvents = s.metroEvents := rfl

theorem setMetro_deckStatus {f : Metrology → Metrology} (h : (f s.metro).decks = s.metro.decks) :
    (s.setMetro f).deckStatus = s.deckStatus := by
  funext e
  simp [State.deckStatus, h]

@[simp] theorem setMetroDeck_deckStatus {d : DeckId} {f : MetroDeck → MetroDeck}
    (h : ∀ m, (f m).status = m.status) : (s.setMetroDeck d f).deckStatus = s.deckStatus := by
  funext e
  simp only [State.deckStatus, State.setMetroDeck_metro, upd_get]
  split
  · exact h _
  · rfl

/-! ### The log and the session record -/

@[simp] theorem protectiveEntry_keeps (m : Metrology) (t : Stamp) (k : LogKind)
    (d : Option DeckId) :
    (protectiveEntry m t k d).decks = m.decks ∧ (protectiveEntry m t k d).legal = m.legal ∧
      (protectiveEntry m t k d).cal = m.cal ∧ (protectiveEntry m t k d).session = m.session := by
  rcases protectiveEntry_cases m t k d with ⟨-, h⟩ | ⟨-, h⟩ <;> simp [h, appendEntry]

@[simp] theorem logProtective_keeps (k : LogKind) (d : Option DeckId) :
    (s.logProtective k d).front = s.front ∧ (s.logProtective k d).decks = s.decks ∧
      (s.logProtective k d).metro.legal = s.metro.legal ∧
      (s.logProtective k d).metroEvents = s.metroEvents ∧ SameStanding (s.logProtective k d) s :=
  ⟨rfl, rfl, by simp [State.logProtective], rfl, rfl, setMetro_deckStatus s (by simp)⟩

@[simp] theorem logDeliberate_eq (k : LogKind) (d : Option DeckId) :
    s.logDeliberate k d = s.logProtective k d := rfl

@[simp] theorem setSession_keeps (f : Session → Session) :
    (setSession f s).front = s.front ∧ (setSession f s).decks = s.decks ∧
      (setSession f s).metro = { s.metro with session := s.metro.session.map f } ∧
      (setSession f s).metroEvents = s.metroEvents ∧ SameStanding (setSession f s) s :=
  ⟨rfl, rfl, rfl, rfl, rfl, rfl⟩

@[simp] theorem clearOperation_keeps :
    (clearOperation s).front = s.front ∧ (clearOperation s).decks = s.decks ∧
      (clearOperation s).metro =
        { s.metro with session := s.metro.session.map fun r => { r with op := none } } ∧
      (clearOperation s).metroEvents = s.metroEvents ∧ SameStanding (clearOperation s) s :=
  ⟨rfl, rfl, rfl, rfl, rfl, rfl⟩

/-! ### Status changes -/

@[simp] theorem changeStatus_keeps (p : Bool) (d : DeckId) (v : VStatus) (c : StatusCause) :
    (changeStatus p d v c s).front = s.front ∧ (changeStatus p d v c s).decks = s.decks ∧
      (changeStatus p d v c s).metro.legal = s.metro.legal ∧
      (changeStatus p d v c s).records = s.records := by
  rcases changeStatus_cases p d v c s with ⟨-, h⟩ | ⟨-, m, h, -, hl, -⟩
  · simp [h]
  · simp [h, hl]

/-- A status change sets the status of its deck alone (R154). -/
@[simp] theorem changeStatus_deckStatus (p : Bool) (d : DeckId) (v : VStatus) (c : StatusCause) :
    (changeStatus p d v c s).deckStatus = Function.update s.deckStatus d v := by
  rcases changeStatus_cases p d v c s with ⟨hv, h⟩ | ⟨-, m, h, hd, -⟩ <;> rw [h]
  · rw [← hv, Function.update_eq_self]
  · funext e
    by_cases he : d = e
    · subst he
      simp [State.deckStatus, hd]
    · simp [State.deckStatus, hd, Fin.val_ne_of_ne he, Function.update_of_ne (Ne.symm he)]

@[simp] theorem changeStatusWithEvent_keeps (p : Bool) (d : DeckId) (v : VStatus) (c : StatusCause) :
    (changeStatusWithEvent p d v c s).front = s.front ∧
      (changeStatusWithEvent p d v c s).decks = s.decks ∧
      (changeStatusWithEvent p d v c s).metro.legal = s.metro.legal ∧
      (changeStatusWithEvent p d v c s).records = s.records ∧
      (changeStatusWithEvent p d v c s).deckStatus = Function.update s.deckStatus d v := by
  unfold changeStatusWithEvent
  dsimp only
  split
  · rename_i h
    simp [← h]
  · simp

/-- A report of a downgrade lowers its deck (R156). -/
@[simp] theorem reportDowngrade_keeps (c : StatusCause) (d : DeckId) :
    (reportDowngrade c d s).front = s.front ∧ (reportDowngrade c d s).decks = s.decks ∧
      (reportDowngrade c d s).metro.legal = s.metro.legal ∧
      (reportDowngrade c d s).records = s.records ∧
      (reportDowngrade c d s).deckStatus =
        Function.update s.deckStatus d (downgraded (s.deckStatus d)) := by
  simp [reportDowngrade]

theorem reportDowngrade_lowers (c : StatusCause) (d : DeckId) : Lowers s (reportDowngrade c d s) :=
  .of_update (d := d) (by simp) (downgraded_isLow (s.deckStatus d))

/-! ### What a deck monitor's notes bring about -/

/-- A note that is not ZERO_LIMIT raises a DECK event at most. -/
theorem handleNote_cases (d : DeckId) (n : DeckNote) (h : n ≠ .zero .zeroLimit) :
    handleNote d s n = s ∨ ∃ c, categoryOf c = 0 ∧ handleNote d s n = s.raise c := by
  unfold handleNote
  split
  · split
    · exact .inr ⟨_, rfl, rfl⟩
    · exact .inl rfl
  · exact absurd rfl h
  · exact .inr ⟨_, rfl, rfl⟩

theorem handleNote_bridge (d : DeckId) (n : DeckNote) (h : n ≠ .zero .zeroLimit) :
    SameBridge (handleNote d s n) s := by
  rcases handleNote_cases s d n h with e | ⟨c, hc, e⟩ <;> simp [*]

@[simp] theorem handleNote_keeps (d : DeckId) (n : DeckNote) :
    (handleNote d s n).front = s.front ∧ (handleNote d s n).decks = s.decks ∧
      (handleNote d s n).metro.legal = s.metro.legal ∧ (handleNote d s n).records = s.records := by
  by_cases h : n = .zero .zeroLimit
  · simp [h, handleNote]
  · have := handleNote_bridge s d n h
    simp_all

theorem handleNote_lowers (d : DeckId) (n : DeckNote) : Lowers s (handleNote d s n) := by
  by_cases h : n = .zero .zeroLimit
  · subst h
    have hr : Lowers s (s.raise (.deckZero d .zeroLimit)) := .of_eq rfl
    exact hr.trans (reportDowngrade_lowers _ .zeroLimit d)
  · have := handleNote_bridge s d n h
    exact .of_eq (by simp_all)

theorem handleNotes_bridge (d : DeckId) {ns : List DeckNote} (h : .zero .zeroLimit ∉ ns) :
    SameBridge (ns.foldl (handleNote d) s) s := by
  induction ns generalizing s with
  | nil => simp
  | cons n ns ih =>
    have hn := handleNote_bridge s d n fun e => h (e ▸ .head _)
    have := ih (handleNote d s n) fun hx => h (.tail _ hx)
    simp_all

/-- Only its count changes of a deck's metrology record. -/
@[simp] theorem countEntries_keeps (n : Nat) (m : MetroDeck) :
    (countEntries n m).status = m.status ∧ (countEntries n m).run = m.run := by
  unfold countEntries
  split <;> exact ⟨rfl, rfl⟩

variable (d : DeckId) (x : Monitor)

@[simp] theorem applyMonitor_front : (applyMonitor d x s).front = s.front := by
  unfold applyMonitor
  exact foldl_keeps (view := State.front) (fun s n => by simp) ..

/-- The monitor's deck takes its place; the other decks stand. -/
@[simp] theorem applyMonitor_decks :
    (applyMonitor d x s).decks = upd s.decks d fun _ => x.deck := by
  unfold applyMonitor
  exact foldl_keeps (view := State.decks) (fun s n => by simp) ..

@[simp] theorem applyMonitor_legal : (applyMonitor d x s).metro.legal = s.metro.legal := by
  unfold applyMonitor
  exact foldl_keeps (view := fun s => s.metro.legal) (fun s n => by simp) ..

/-- A monitor that leaves W as it is leaves the records. -/
theorem applyMonitor_records (h : x.deck.gross = s.decks[d].gross) :
    (applyMonitor d x s).records = s.records := by
  funext e
  have he := congrFun (setDeck_records_at s (f := fun _ => x.deck) h) e
  simpa [State.records] using he

theorem applyMonitor_lowers : Lowers s (applyMonitor d x s) := by
  unfold applyMonitor
  refine Lowers.trans (.of_eq ?_) (Lowers.foldl (fun s n => handleNote_lowers s d n) _ _)
  simp

/-- A monitor without ZERO_LIMIT changes its deck and its count of entries alone. -/
theorem applyMonitor_quiet (h : .zero .zeroLimit ∉ x.notes) :
    (applyMonitor d x s).metro = { s.metro with
      decks := upd s.metro.decks d (countEntries (emptyEntries x.notes)) } ∧
      (applyMonitor d x s).deckStatus = s.deckStatus ∧
      (applyMonitor d x s).metroEvents = s.metroEvents := by
  have := handleNotes_bridge ((s.setDeck d fun _ => x.deck).setMetroDeck d
    (countEntries (emptyEntries x.notes))) d h
  unfold applyMonitor
  simp_all

end
end Sys2Proof.Machine

/-!
What shunt measurements, session operations, the ends of sessions and legal writes leave as it is.
-/

namespace Sys2Proof.Machine

/-! ### Monitors that leave W -/

/-- Of a deck that a measurement holds or leaves W and the state stand (R30). -/
@[simp] theorem holdDeck_keeps (k : Deck) :
    (holdDeck k).gross = k.gross ∧ (holdDeck k).mode = k.mode ∧ (holdDeck k).window = k.window :=
  ⟨rfl, rfl, rfl⟩

@[simp] theorem completeHold_keeps (k : Deck) :
    (completeHold k).gross = k.gross ∧ (completeHold k).mode = k.mode ∧
      (completeHold k).window = [] := ⟨rfl, rfl, rfl⟩

@[simp] theorem forgetZero_keeps (k : Deck) :
    (forgetZero k).gross = k.gross ∧ (forgetZero k).mode = k.mode ∧
      (forgetZero k).window = k.window := ⟨rfl, rfl, rfl⟩

@[simp] theorem enter_keeps (m : DeckMode) (x : Monitor) :
    (x.enter m).deck.gross = x.deck.gross ∧ (x.enter m).deck.window = x.deck.window ∧
      (x.enter m).deck.mode = m ∧ (x.enter m).notes = x.notes ++ [.entered m] :=
  ⟨rfl, rfl, rfl, rfl⟩

@[simp] theorem mod_keeps (f : Deck → Deck) (x : Monitor) :
    (x.mod f).deck = f x.deck ∧ (x.mod f).notes = x.notes := ⟨rfl, rfl⟩

@[simp] theorem note_keeps (n : DeckNote) (x : Monitor) :
    (x.note n).deck = x.deck ∧ (x.note n).notes = x.notes ++ [n] := ⟨rfl, rfl⟩

@[simp] theorem of_keeps (k : Deck) : (Monitor.of k).deck = k ∧ (Monitor.of k).notes = [] :=
  ⟨rfl, rfl⟩

@[simp] theorem abandonHold_keeps (k : Deck) :
    (abandonHold k).deck.gross = k.gross ∧ .zero .zeroLimit ∉ (abandonHold k).notes := by
  unfold abandonHold
  dsimp only
  split <;> simp [dropReference]

@[simp] theorem crossDeck_keeps (k : Deck) :
    (crossDeck k).deck.gross = k.gross ∧ .zero .zeroLimit ∉ (crossDeck k).notes := by
  unfold crossDeck
  split
  · simp
  · split
    · simp [dropReference]
    · split <;> simp

@[simp] theorem restartWindow_keeps (k : Deck) :
    (restartWindow k).deck.gross = k.gross ∧ .zero .zeroLimit ∉ (restartWindow k).notes := by
  unfold restartWindow
  dsimp only
  split <;> simp [dropReference]

@[simp] theorem reclassify_keeps (p : LegalParams) (x : Monitor) :
    (reclassify p x).deck.gross = x.deck.gross := by
  unfold reclassify
  split <;> simp

@[simp] theorem adjustedZero_keeps (p : LegalParams) (k : Deck) :
    (adjustedZero p k).deck.gross = k.gross := by
  unfold adjustedZero
  dsimp only
  split <;> simp

section
variable (s : State)

/-! ### Shunt measurements -/

@[simp] theorem switchShunt_keeps (d : DeckId) (c : CellId) (on : Bool) :
    (switchShunt d c on s).decks = s.decks ∧ (switchShunt d c on s).metro = s.metro ∧
      (switchShunt d c on s).metroEvents = s.metroEvents ∧
      SameStanding (switchShunt d c on s) s := by
  refine ⟨rfl, rfl, rfl, setFront_records s ?_, rfl⟩
  simp only [FrontEnd.measured]
  congr 2
  apply Vector.ext
  intro i hi
  simp only [vmap_getElem, upd_getElem]
  split <;> rfl

@[simp] theorem startRun_keeps (b : Bool) (d : DeckId) : SameStanding (startRun b d s) s := by
  simp [startRun]

@[simp] theorem startCheck_keeps (d : DeckId) : SameStanding (startCheck d s) s := by
  have h := setMetroDeck_deckStatus s (d := d) (f := fun m =>
    match m.shuntMode with
    | .periodic _ => { m with entryCount := 0 }
    | _ => m) fun m => by split <;> rfl
  simp only [startCheck, SameStanding, startRun_keeps, setMetroDeck_records, true_and]
  exact h

/-- The abandonment of a measurement logs nothing and lowers nothing (R166). -/
@[simp] theorem abandonRun_keeps (d : DeckId) :
    (abandonRun d s).metro.legal = s.metro.legal ∧ (abandonRun d s).metro.log = s.metro.log ∧
      (abandonRun d s).metro.lost = s.metro.lost ∧
      (abandonRun d s).metro.session = s.metro.session ∧
      (abandonRun d s).metroEvents = s.metroEvents ∧ SameStanding (abandonRun d s) s := by
  unfold abandonRun
  split
  · simp
  · simp [applyMonitor_quiet, applyMonitor_records]

/-- After it no measurement is in progress on the deck. -/
theorem abandonRun_run (d : DeckId) : (abandonRun d s).metro.decks[d].run = none := by
  unfold abandonRun
  split
  · assumption
  · simp [applyMonitor_quiet]

theorem abandonRun_none {d : DeckId} (h : s.metro.decks[d].run = none) : abandonRun d s = s := by
  simp only [abandonRun, h]

/-! ### Session operations -/

@[simp] theorem raiseOutcome_keeps (o : Operation) (r : OpOutcome) :
    (raiseOutcome o r s).front = s.front ∧ (raiseOutcome o r s).decks = s.decks ∧
      (raiseOutcome o r s).metro = s.metro ∧ SameStanding (raiseOutcome o r s) s := by
  simp [raiseOutcome]

theorem abortOperation_none {c : AbortCause} (h : s.operation = none) : abortOperation c s = s := by
  simp only [abortOperation, h]

/-- An operation that ends ABORTED leaves no change but the session's (R159). -/
@[simp] theorem abortOperation_keeps (c : AbortCause) :
    (abortOperation c s).front = s.front ∧ (abortOperation c s).decks = s.decks ∧
      (abortOperation c s).metro.decks = s.metro.decks ∧
      (abortOperation c s).metro.log = s.metro.log ∧
      (abortOperation c s).metro.lost = s.metro.lost ∧
      SameStanding (abortOperation c s) s := by
  unfold abortOperation
  split <;> simp

/-- No operation is in flight then. -/
theorem abortOperation_operation (c : AbortCause) : (abortOperation c s).operation = none := by
  unfold abortOperation
  split
  · assumption
  · simp only [State.operation, raiseOutcome_keeps, clearOperation_keeps]
    cases s.metro.session <;> simp

@[simp] theorem abandonOn_keeps (c : AbortCause) (d : DeckId) :
    (abandonOn c d s).metro.log = s.metro.log ∧ (abandonOn c d s).metro.lost = s.metro.lost ∧
      SameStanding (abandonOn c d s) s := by
  unfold abandonOn
  split
  · simp
  · split <;> simp

theorem abandonOn_run (c : AbortCause) (d : DeckId) :
    (abandonOn c d s).metro.decks[d].run = none := by
  unfold abandonOn
  split
  · assumption
  · split <;> simpa using abandonRun_run s d

theorem abandonOn_none {c : AbortCause} {d : DeckId} (h : s.metro.decks[d].run = none) :
    abandonOn c d s = s := by
  simp only [abandonOn, h]

theorem abandonRun_operation (d : DeckId) : (abandonRun d s).operation = s.operation := by
  simp [State.operation]

/-- Without an operation in flight an abandonment has no METROLOGY event. -/
theorem abandonOn_metroEvents {c : AbortCause} {d : DeckId} (h : s.operation = none) :
    (abandonOn c d s).operation = none ∧ (abandonOn c d s).metroEvents = s.metroEvents := by
  have hr := (abandonRun_operation s d).trans h
  unfold abandonOn
  split
  · exact ⟨h, rfl⟩
  · split <;> simp [abortOperation_none, hr]

@[simp] theorem abortTestCapture_keeps (d : DeckId) :
    (abortTestCapture d s).front = s.front ∧ (abortTestCapture d s).decks = s.decks ∧
      (abortTestCapture d s).metro.decks = s.metro.decks ∧
      (abortTestCapture d s).metro.log = s.metro.log ∧
      (abortTestCapture d s).metro.lost = s.metro.lost ∧
      SameStanding (abortTestCapture d s) s := by
  unfold abortTestCapture
  split <;> simp

/-! ### The end of a session -/

@[simp] theorem abandonOperation_keeps : SameStanding (abandonOperation s) s := by
  unfold abandonOperation
  split
  · simp
  · split <;> simp

@[simp] theorem endSession_keeps (c : SessionEndCause) : SameStanding (endSession c s) s := by
  unfold endSession
  split
  · simp [setMetro_deckStatus]
  · simp

@[simp] theorem resetPort_keeps (p : Port) (c : ResetCause) : SameStanding (resetPort p c s) s := by
  unfold resetPort
  dsimp only
  split <;> simp

/-! ### Ends of operations -/

@[simp] theorem endRefused_keeps (o : Operation) (c : Status) :
    (endRefused o c s).front = s.front ∧ (endRefused o c s).decks = s.decks ∧
      SameStanding (endRefused o c s) s := by
  simp [endRefused]

@[simp] theorem endAdjusted_keeps (o : Operation) (l : List Int) :
    (endAdjusted o l s).front = s.front ∧ (endAdjusted o l s).decks = s.decks ∧
      SameStanding (endAdjusted o l s) s := by
  simp [endAdjusted]

@[simp] theorem endTest_decks (o : Operation) (k : TestKind) (c : TestCapture) :
    (endTest o k c s).decks = s.decks := by
  unfold endTest
  dsimp only
  split <;> simp

/-- A test that fails lowers its deck (R160). -/
theorem endTest_carries (o : Operation) (k : TestKind) (c : TestCapture) :
    Carries s (endTest o k c s) := by
  unfold endTest
  dsimp only
  split
  · exact .of_same (by simp)
  · exact ⟨by simp, .of_update (d := o.deck) (v := .unverified) (by simp) (.inr rfl)⟩

@[simp] theorem endRun_keeps (d : DeckId) :
    (endRun d s).front = s.front ∧ SameStanding (endRun d s) s := by
  simp [endRun]

theorem completeCheck_decks (d : DeckId) (diffs : List Int) :
    (completeCheck d diffs s).decks = upd s.decks d completeHold := by
  unfold completeCheck
  dsimp only
  split <;> simp [endRun]

/-- A check that fails lowers its deck (R165). -/
theorem completeCheck_carries (d : DeckId) (diffs : List Int) :
    Carries s (completeCheck d diffs s) := by
  unfold completeCheck
  dsimp only
  split
  · exact .of_same (by simp)
  · exact ⟨by simp, .of_update (d := d) (by simp) (downgraded_isLow (s.deckStatus d))⟩

/-! ### Legal writes -/

@[simp] theorem clearTables_bridge : SameBridge (clearTables s) s := by
  have h : ∀ (l : List Nat) (s : State), SameBridge (l.foldl (fun s n => reportGone n s) s) s := by
    intro l
    induction l with
    | nil => simp
    | cons n l ih =>
      intro s
      have := ih (reportGone n s)
      simp_all
  simp [clearTables, h]

/-- A change sets its parameter and lowers nothing by itself. -/
@[simp] theorem makeChange_keeps (w : Write) :
    (makeChange s w).front = s.front ∧ (makeChange s w).decks = s.decks ∧
      (makeChange s w).metro.legal = setLegalValue s.metro.legal w.1 w.2 ∧
      SameStanding (makeChange s w) s := by
  unfold makeChange
  dsimp only
  split <;> simp [setMetro_deckStatus]

@[simp] theorem lowerDecks_keeps (ds : List DeckId) :
    (lowerDecks ds s).front = s.front ∧ (lowerDecks ds s).decks = s.decks ∧
      (lowerDecks ds s).metro.legal = s.metro.legal ∧ (lowerDecks ds s).records = s.records := by
  refine ⟨?_, ?_, ?_, ?_⟩
  · exact foldl_keeps (view := State.front) (fun s d => by simp) ds s
  · exact foldl_keeps (view := State.decks) (fun s d => by simp) ds s
  · exact foldl_keeps (view := fun s => s.metro.legal) (fun s d => by simp) ds s
  · exact foldl_keeps (view := State.records) (fun s d => by simp) ds s

theorem lowerDecks_lowers (ds : List DeckId) : Lowers s (lowerDecks ds s) :=
  .foldl (fun s d => .of_update (d := d) (v := .unverified) (by simp) (.inr rfl)) ds s

@[simp] theorem rewriteCheck_keeps (ws : List Write) (m : Metrology) :
    (rewriteCheck ws m).decks = m.decks ∧ (rewriteCheck ws m).legal = m.legal := by
  cases ws <;> exact ⟨rfl, rfl⟩

@[simp] theorem writeLegal_keeps (ws : List Write) (ds : List DeckId) :
    (writeLegal ws ds s).front = s.front ∧ (writeLegal ws ds s).decks = s.decks ∧
      (writeLegal ws ds s).metro.legal = resultingSet s.metro.legal ws ∧
      (writeLegal ws ds s).records = s.records := by
  have hl : ∀ (ws : List Write) (s : State),
      (ws.foldl makeChange s).metro.legal = resultingSet s.metro.legal ws := by
    intro ws
    induction ws with
    | nil => intro s; rfl
    | cons w ws ih =>
      intro s
      simp [ih, resultingSet]
  have hf := foldl_keeps (view := State.front) (fun s w => by simp) ws s (f := makeChange)
  have hd := foldl_keeps (view := State.decks) (fun s w => by simp) ws s (f := makeChange)
  have hr := foldl_keeps (view := State.records) (fun s w => by simp) ws s (f := makeChange)
  simp [writeLegal, *]

theorem writeLegal_lowers (ws : List Write) (ds : List DeckId) :
    Lowers s (writeLegal ws ds s) := by
  have h := foldl_keeps (view := State.deckStatus) (fun s w => by simp) ws s (f := makeChange)
  refine Lowers.trans (.of_eq ?_) (lowerDecks_lowers _ ds)
  simp [setMetro_deckStatus, h]

@[simp] theorem applyWindows_keeps :
    (applyWindows s).front = s.front ∧ (applyWindows s).metro.legal = s.metro.legal ∧
      SameStanding (applyWindows s) s := by
  unfold applyWindows
  refine ⟨?_, ?_, ?_, ?_⟩
  · exact foldl_keeps (view := State.front) (fun s d => by simp) ..
  · exact foldl_keeps (view := fun s => s.metro.legal) (fun s d => by simp) ..
  · exact foldl_keeps (view := State.records)
      (fun s d => applyMonitor_records s d _ (by simp)) ..
  · exact foldl_keeps (view := State.deckStatus)
      (fun s d => by simp [applyMonitor_quiet]) ..

@[simp] theorem applyZeros_keeps (ws : List Write) :
    (applyZeros ws s).front = s.front ∧ (applyZeros ws s).metro.legal = s.metro.legal ∧
      SameStanding (applyZeros ws s) s := by
  unfold applyZeros
  refine ⟨?_, ?_, ?_, ?_⟩
  · exact foldl_keeps (view := State.front) (fun s d => by simp) ..
  · exact foldl_keeps (view := fun s => s.metro.legal) (fun s d => by simp) ..
  · exact foldl_keeps (view := State.records) (fun s d => by simp) ..
  · exact foldl_keeps (view := State.deckStatus) (fun s d => by simp) ..

/-- A write of neither N nor the threshold leaves the records. -/
theorem legalWrite_carries {ws : List Write} (hn : ∀ w ∈ ws, w.1 ≠ .decks)
    (ht : ∀ w ∈ ws, w.1 ≠ .threshold) : Carries s (legalWrite ws s) := by
  have hn' : ws.any (·.1 = .decks) = false := by simpa using hn
  have ht' : ws.any (·.1 = .threshold) = false := by simpa using ht
  unfold legalWrite applyEffects
  split
  · exact .of_same ⟨rfl, rfl⟩
  · refine .trans (t := writeLegal ws (decksLowered s ws) s)
      ⟨by simp, writeLegal_lowers ..⟩ (.of_same ?_)
    simp only [hn', ht', Bool.false_eq_true, if_false]
    split <;> simp

/-- A write of shunt parameters leaves the deck monitors. -/
theorem legalWrite_decks {ws : List Write} (h : ∀ w ∈ ws, ∃ d i, w.1 = .shuntD d i) :
    (legalWrite ws s).decks = s.decks := by
  have hn : ws.any (·.1 = .decks) = false := by
    simp only [List.any_eq_false, decide_eq_true_eq]
    rintro w hw e
    obtain ⟨d, i, hi⟩ := h w hw
    exact nomatch hi.symm.trans e
  have ht : ws.any (·.1 = .threshold) = false := by
    simp only [List.any_eq_false, decide_eq_true_eq]
    rintro w hw e
    obtain ⟨d, i, hi⟩ := h w hw
    exact nomatch hi.symm.trans e
  have hw : (ws.any fun w => isWindowParam w.1) = false := by
    simp only [List.any_eq_false]
    intro w hw
    obtain ⟨d, i, hi⟩ := h w hw
    simp [hi, isWindowParam]
  have hf : ∀ d, (ws.any fun w => forgets d w.1) = false := by
    intro d
    simp only [List.any_eq_false]
    intro w hw
    obtain ⟨d, i, hi⟩ := h w hw
    simp [hi, forgets]
  unfold legalWrite applyEffects
  split
  · rfl
  · simp [hn, ht, hw, hf, applyZeros]

/-- The writes of four cells of a deck name those cells' parameters. -/
theorem mem_cellWrites {p : LegalParams} {f : CellId → ParamId} {v : CellId → Int} {w : Write}
    (h : w ∈ changesOf p (cellWrites f v)) : ∃ i, w.1 = f i := by
  simp only [changesOf, cellWrites, List.mem_filter, List.mem_map] at h
  obtain ⟨⟨i, -, rfl⟩, -⟩ := h
  exact ⟨i, rfl⟩

end
end Sys2Proof.Machine

/-!
A sample of a deck up to its monitor, and all that follows it in the same handling (`sampleTail`).
-/

namespace Sys2Proof.Machine

/-! ### The parts of a sample -/

/-- The captures in flight take the W of a sample that has one. -/
def takeGross (d : DeckId) (raw : Vector Int 4) (w : Option Int) (s : State) : State :=
  match w with
  | some w => testSample d w raw (captureSample d w s)
  | none => s

/-- The capture window's end or abort, and on deck 1 the condition test. -/
def orderStep (endFirst : Bool) (d : DeckId) (s : State) : State :=
  let s4 := noticeConditions (captureStep endFirst d s)
  if d = 0 then (testOnSample s4).1 else s4

/-- What follows the deck monitor's part of a sample. -/
def sampleTail (endFirst : Bool) (d : DeckId) (raw : Vector Int 4) (w : Option Int) (entered : Bool)
    (s : State) : State :=
  let s5 := testCaptureStep endFirst d (orderStep endFirst d (takeGross d raw w s))
  noticeConditions (recoverMap (schedule entered d (shuntSample d raw s5).1))

/-- The state in which the deck monitor takes the record of a sample. -/
def sampleHead (d : DeckId) (conv : Conversion) (s : State) : State :=
  abandonOnError d conv (frontEndStep d conv s)

/-- The deck monitor's part of a sample. -/
def sampleMonitor (d : DeckId) (conv : Conversion) (s : State) : Monitor :=
  let s1 := sampleHead d conv s
  sampleDeck s1.legal d (surroundings s1 d) (recordOf s.legal d s.front[d] conv) s1.decks[d]

theorem sampleWhole_fst (endFirst : Bool) (d : DeckId) (conv : Conversion) (s : State) :
    (sampleWhole endFirst d conv s).1 =
      sampleTail endFirst d conv.raw
        (sampleGross (recordOf s.legal d s.front[d] conv) (sampleHead d conv s).decks[d])
        ((sampleMonitor d conv s).notes.contains (.entered .empty))
        (applyMonitor d (sampleMonitor d conv s) (sampleHead d conv s)) := by
  unfold sampleWhole sampleTail sampleMonitor sampleHead orderStep takeGross
  dsimp only
  generalize sampleGross _ _ = w
  by_cases h : d = 0 <;> cases w <;> simp only [h, if_true, if_false]

section
variable (s : State)

/-! ### After the monitor -/

@[simp] theorem testSample_keeps (d : DeckId) (w : Int) (raw : Vector Int 4) :
    (testSample d w raw s).front = s.front ∧ (testSample d w raw s).decks = s.decks ∧
      (testSample d w raw s).metro.decks = s.metro.decks ∧
      SameStanding (testSample d w raw s) s := by
  unfold testSample
  split <;> simp

theorem endAdjusted_carries (o : Operation) (l : List Int) : Carries s (endAdjusted o l s) :=
  .of_same (by simp)

theorem noticeConditions_carries : Carries s (noticeConditions s) := .of_same (by simp)

theorem clearOperation_carries : Carries s (clearOperation s) := .of_same (by simp)

theorem endRun_carries (d : DeckId) : Carries s (endRun d s) := .of_same (by simp)

theorem writeLegal_carries (ws : List Write) (ds : List DeckId) : Carries s (writeLegal ws ds s) :=
  ⟨by simp, writeLegal_lowers ..⟩

theorem applyMonitor_carries {d : DeckId} {x : Monitor} (h : x.deck.gross = s.decks[d].gross) :
    Carries s (applyMonitor d x s) :=
  ⟨applyMonitor_records s d x h, applyMonitor_lowers ..⟩

/-- ADJUST_ZERO lowers its deck and leaves every W (R161). -/
theorem endAdjustZero_carries (o : Operation) (c : TestCapture) :
    Carries s (endAdjustZero o c s) := by
  unfold endAdjustZero
  dsimp only
  split
  · exact .of_same (by simp)
  · exact ((((clearOperation_carries s).trans (writeLegal_carries ..)).trans
      (applyMonitor_carries _ (by simp))).trans (noticeConditions_carries _)).trans
      (endAdjusted_carries ..)

theorem legalWrite_cellWrites (p : LegalParams) (f : CellId → ParamId) (v : CellId → Int)
    (hn : ∀ i, f i ≠ .decks) (ht : ∀ i, f i ≠ .threshold) :
    Carries s (legalWrite (changesOf p (cellWrites f v)) s) := by
  apply legalWrite_carries
  · intro w hw
    obtain ⟨i, hi⟩ := mem_cellWrites hw
    exact hi ▸ hn i
  · intro w hw
    obtain ⟨i, hi⟩ := mem_cellWrites hw
    exact hi ▸ ht i

theorem endAdjustSpan_carries (o : Operation) (ref : Nat) (c : TestCapture) :
    Carries s (endAdjustSpan o ref c s) := by
  unfold endAdjustSpan
  dsimp only
  split
  · exact .of_same (by simp)
  · split
    · exact .of_same (by simp)
    · split
      · exact .of_same (by simp)
      · exact ((clearOperation_carries s).trans
          (legalWrite_cellWrites _ _ (.factor o.deck) _ (by simp) (by simp))).trans
          (endAdjusted_carries ..)

theorem endTestCapture_carries : Carries s (endTestCapture s) := by
  unfold endTestCapture
  split
  · exact .of_same ⟨rfl, rfl⟩
  · split
    · exact .of_same ⟨rfl, rfl⟩
    · split
      · exact endTest_carries ..
      · exact endTest_carries ..
      · exact endAdjustZero_carries ..
      · exact endAdjustSpan_carries ..
      · exact .of_same ⟨rfl, rfl⟩

theorem testCaptureStep_carries (endFirst : Bool) (d : DeckId) :
    Carries s (testCaptureStep endFirst d s) := by
  have hend : ∀ s, Carries s (if testWindowEnded d s then endTestCapture s else s) := by
    intro s
    split
    · exact endTestCapture_carries s
    · exact .of_same ⟨rfl, rfl⟩
  unfold testCaptureStep
  dsimp only
  split
  · exact (hend s).trans (.of_same (by simp))
  · exact .trans (.of_same (by simp)) (hend (abortTestCapture d s))

theorem completeReference_carries (d : DeckId) (diffs : List Int) :
    Carries s (completeReference d diffs s) := by
  unfold completeReference
  dsimp only
  split
  · exact .of_same (by simp)
  · split
    · exact .of_same (by simp)
    · split
      · exact .of_same (by simp)
      · exact (((endRun_carries s d).trans (clearOperation_carries _)).trans
          (legalWrite_cellWrites _ _ (.shuntD d) _ (by simp) (by simp))).trans
          (endAdjusted_carries ..)

theorem shuntSample_carries (d : DeckId) (raw : Vector Int 4) :
    Carries s (shuntSample d raw s).1 := by
  unfold shuntSample
  split
  · exact .of_same ⟨rfl, rfl⟩
  · dsimp only
    split
    · exact .of_same (by simp)
    · split
      · split <;> exact .of_same (by simp)
      · dsimp only
        split
        · exact completeReference_carries ..
        · exact completeCheck_carries ..

/-- Without a measurement on the deck a sample adds to none. -/
theorem shuntSample_none {d : DeckId} (h : s.metro.decks[d].run = none) (raw : Vector Int 4) :
    shuntSample d raw s = (s, false) := by
  simp only [shuntSample, h]

@[simp] theorem schedule_keeps (entered : Bool) (d : DeckId) :
    SameStanding (schedule entered d s) s := by
  unfold schedule
  split <;> simp

@[simp] theorem takeGross_keeps (d : DeckId) (raw : Vector Int 4) (w : Option Int) :
    (takeGross d raw w s).front = s.front ∧ (takeGross d raw w s).decks = s.decks ∧
      (takeGross d raw w s).metro.decks = s.metro.decks ∧
      SameStanding (takeGross d raw w s) s := by
  cases w <;> simp [takeGross]

@[simp] theorem orderStep_bridge (endFirst : Bool) (d : DeckId) :
    SameBridge (orderStep endFirst d s) s := by
  unfold orderStep
  dsimp only
  split <;> simp

/-- What follows the monitor leaves the records, and lowers statuses at most. -/
theorem sampleTail_carries (endFirst : Bool) (d : DeckId) (raw : Vector Int 4) (w : Option Int)
    (entered : Bool) : Carries s (sampleTail endFirst d raw w entered s) := by
  have h4 : Carries s (orderStep endFirst d (takeGross d raw w s)) := .of_same (by simp)
  have h6 := (h4.trans (testCaptureStep_carries _ endFirst d)).trans (shuntSample_carries _ d raw)
  exact h6.trans (.of_same (by simp [sampleTail]))

end
end Sys2Proof.Machine

/-!
A deck whose budget is 0 stays SUSPECT or UNVERIFIED (R9): what each command does to budgets and statuses.
-/

namespace Sys2Proof.Machine

/-! ### Keeping the invariant -/

/-- The budgets stand and the statuses are lowered at most. -/
theorem BudgetsOk.of_lowers {s t : State} (h : BudgetsOk s)
    (hb : ∀ d : DeckId, t.front[d].budget = s.front[d].budget) (hl : Lowers s t) : BudgetsOk t := by
  intro d hd
  rcases hl.each d with e | e
  · rw [e]
    exact h d (hb d ▸ hd)
  · exact e

theorem State.budget_of_records {s t : State} (h : t.records = s.records) (d : DeckId) :
    t.front[d].budget = s.front[d].budget :=
  congrArg (fun r => r.1.1) (congrFun h d)

theorem BudgetsOk.carry {s t : State} (h : BudgetsOk s) (hc : Carries s t) : BudgetsOk t :=
  h.of_lowers (State.budget_of_records hc.records) hc.lowers

theorem BudgetsOk.same {s t : State} (h : BudgetsOk s) (ht : SameStanding t s) : BudgetsOk t :=
  h.carry (.of_same ht)

/-- A fold of steps that keep the invariant keeps it. -/
theorem BudgetsOk.foldl {α : Type} {f : State → α → State}
    (hf : ∀ s a, BudgetsOk s → BudgetsOk (f s a)) (l : List α) {s : State} (h : BudgetsOk s) :
    BudgetsOk (l.foldl f s) := by
  induction l generalizing s with
  | nil => exact h
  | cons a l ih => exact ih (hf s a h)

/-! ### Taking and answering a request -/

section
variable (s : State)

@[simp] theorem drive_standing : SameStanding s.drive s := by
  refine ⟨?_, rfl⟩
  funext d
  simp only [State.records, State.drive, Fin.getElem_fin, vgen_getElem, FrontEnd.measured]
  congr 3
  apply Vector.ext
  intro i hi
  simp

theorem runCommand_budgets {f : State → State} (hf : ∀ s, BudgetsOk s → BudgetsOk (f s)) {s t : State}
    (hs : BudgetsOk s) (h : runCommand f s = .next t) : BudgetsOk t := by
  rw [runCommand_next] at h
  cases h
  split
  · exact (hf s hs).same (drive_standing _)
  · exact hs

@[simp] theorem touchSession_standing (p : Port) : SameStanding (touchSession p s) s := by
  unfold touchSession
  split <;> simp [setMetro_deckStatus]

@[simp] theorem recordRefusal_standing (h : Header) (k : Byte) (c : Status) :
    SameStanding (recordRefusal h k c s) s := by
  unfold recordRefusal
  split <;> simp

@[simp] theorem answer_standing (h : Header) (k : Byte) (r : Response) :
    SameStanding (answer h k r s) s := by
  unfold answer
  dsimp only
  split <;> simp

@[simp] theorem countRejection_standing (k : ReqKind) : SameStanding (countRejection k s) s := by
  unfold countRejection
  split <;> simp [setMetro_deckStatus]

end

theorem routeRequest_budgets {h : Header} {k : ReqKind} {owner : State → State × Response}
    (ho : ∀ s, BudgetsOk s → BudgetsOk (owner s).1) {s : State} (hs : BudgetsOk s) :
    BudgetsOk (routeRequest h k owner s) := by
  unfold routeRequest
  split
  · exact hs.same (by simp)
  · split
    · exact hs.same (by simp)
    · exact (ho s hs).same (answer_standing ..)

/-- A request keeps the invariant as its owner does. -/
theorem request_budgets {h : Header} {k : ReqKind} {owner : State → State × Response}
    (ho : ∀ s, BudgetsOk s → BudgetsOk (owner s).1) {s t : State} (hs : BudgetsOk s)
    (he : request h k owner s = .next t) : BudgetsOk t := by
  refine runCommand_budgets (fun s hs => ?_) hs he
  dsimp only
  split
  · exact routeRequest_budgets ho (hs.same (by simp))
  · exact hs.same (by simp)

theorem readOnly_budgets {f : State → Response} (s : State) (hs : BudgetsOk s) :
    BudgetsOk (readOnly f s).1 := hs

section
variable (s : State)

@[simp] theorem refuse_fst (c : Status) (r : Result) : (refuse s c r).1 = s := rfl

@[simp] theorem accept_fst (r : Result) : (accept s r).1 = s := rfl

/-! ### Requests to the port unit, the deck monitors and the axle sensor unit -/

theorem ownClearEvents_standing (h : Header) (l : List (Nat × Nat)) :
    SameStanding (ownClearEvents h l s).1 s := by
  unfold ownClearEvents
  split <;> simp

theorem ownSetPortRate_standing (h : Header) (n c : Nat) :
    SameStanding (ownSetPortRate h n c s).1 s := by
  unfold ownSetPortRate
  split
  · simp
  · dsimp only
    split <;> simp

theorem ownClearDeckHistory_standing (n : Nat) (l : List (Choice DeckMode × BitVec 32)) :
    SameStanding (ownClearDeckHistory n l s).1 s := by
  have h : ∀ l k, (clearHistory l k).gross = k.gross := fun _ _ => rfl
  unfold ownClearDeckHistory
  split
  · split <;> simp [h]
  · simp

theorem ownZero_standing (n : Nat) : SameStanding (ownZero n s).1 s := by
  have h : ∀ k, (takeZero k).gross = k.gross := fun _ => rfl
  unfold ownZero
  split
  · simp
  · split
    · simp
    · exact foldl_standing (fun s d => by simp [h]) ..

/-! ### Crossings and beams -/

theorem crossOnMap_bridge (j : Boundary) (d : Direction) : SameBridge (crossOnMap j d s).1 s := by
  unfold crossOnMap
  split
  · split <;> simp [invalidateMap, categoryOf]
  · simp

@[simp] theorem crossOnDeck_standing (d : DeckId) : SameStanding (crossOnDeck s d) s := by
  simp [crossOnDeck, applyMonitor_records, applyMonitor_quiet]

@[simp] theorem reportApplied_bridge : SameBridge (reportApplied s) s := by
  simp [reportApplied]

@[simp] theorem reportCrossing_bridge (a b : Bool) : SameBridge (reportCrossing a b s) s := by
  unfold reportCrossing
  dsimp only
  split <;> split <;> simp

@[simp] theorem handleCrossing_standing (j : Boundary) (d : Direction) :
    SameStanding (handleCrossing j d s) s := by
  have hm := crossOnMap_bridge s j d
  have h2 := foldl_standing crossOnDeck_standing (decksBeside s j)
  have h3 := foldl_standing (f := fun s d => abandonOn .motion d s) (fun s d => by simp)
    (decksBeside s j)
  have h5 := foldl_standing (f := fun s d => abortTestCapture d s) (fun s d => by simp)
    (decksBeside s j)
  unfold handleCrossing
  generalize crossOnMap j d s = x at hm
  obtain ⟨s1, applied⟩ := x
  cases applied <;> simp_all

@[simp] theorem handlePhaseError_bridge (j : Boundary) (a b : BeamState) :
    SameBridge (handlePhaseError j a b s) s := by
  simp [handlePhaseError, invalidateMap, categoryOf]

theorem handleStuck_standing (j : Boundary) (b : Beam) : SameStanding (handleStuck j b s) s := by
  unfold handleStuck
  dsimp only
  split <;> simp [invalidateMap]

@[simp] theorem handleDecoded_standing (j : Boundary) (a b : BeamState) (x : Decoded) :
    SameStanding (handleDecoded j a b x s) s := by
  cases x <;> simp [handleDecoded]

@[simp] theorem takeTransition_standing (j : Boundary) : SameStanding (takeTransition j s) s := by
  unfold takeTransition
  dsimp only
  split
  · simp
  · split <;> simp

@[simp] theorem filterExpired_standing (j : Boundary) : SameStanding (filterExpired j s) s := by
  unfold filterExpired
  split <;> simp

theorem rawChange_standing (j : Boundary) (raw : BeamState) :
    SameStanding (rawChange j raw s) s := by
  unfold rawChange
  split
  · simp
  · dsimp only
    split <;> simp [setRaw]

theorem takeDue_standing : SameStanding (takeDue s) s := by
  have h : ∀ s (j : Boundary), SameStanding (match s.axle.pairs[j].persist with
      | some t => if s.axle.filter ≤ t then filterExpired j s else s
      | none => s) s := by
    intro s j
    split
    · split <;> simp
    · simp
  exact foldl_standing h _ s

theorem ownSetBeamFilter_standing (n : Nat) : SameStanding (ownSetBeamFilter n s).1 s := by
  have := takeDue_standing (s.setAxle fun a => { a with filter := clamp 0 50 n })
  simp_all [ownSetBeamFilter]

/-! ### Requests to the order controller and the axle check unit -/

theorem ownStageOrder_standing (v : Nat) (k : Choice OrderKind) (st auto : Bool) (c : Option Nat) :
    SameStanding (ownStageOrder v k st auto c s).1 s := by
  unfold ownStageOrder
  split
  · simp
  · dsimp only
    split
    · simp
    · unfold enqueue
      split <;> simp

theorem ownCancelOrder_standing (v : Nat) : SameStanding (ownCancelOrder v s).1 s := by
  unfold ownCancelOrder
  split
  · unfold cancelActive
    split <;> simp
  · split <;> simp [cancelStaged]

theorem ownCapture_standing : SameStanding (ownCapture s).1 s := by
  unfold ownCapture
  split
  · simp
  · split
    · simp
    · split
      · simp
      · split <;> simp

theorem ownFinishSurvey_standing : SameStanding (ownFinishSurvey s).1 s := by
  unfold ownFinishSurvey
  split
  · simp
  · split
    · simp
    · split <;> simp

theorem ownSetClass_standing (c : Nat) (b : ClassBody) : SameStanding (ownSetClass c b s).1 s := by
  unfold ownSetClass
  split
  · dsimp only
    split <;> simp
  · simp

theorem ownDeleteClass_standing (c : Nat) : SameStanding (ownDeleteClass c s).1 s := by
  unfold ownDeleteClass
  split
  · simp
  · split
    · simp
    · split <;> simp

/-! ### Requests to the visit table unit -/

theorem ownOpenVisit_standing (plate : Text) (k : Choice VisitKind) (c : Nat) (g : Byte)
    (grade : Text) : SameStanding (ownOpenVisit plate k c g grade s).1 s := by
  have he : ∀ e, SameStanding (evict e s) s := by
    intro e
    cases e <;> simp [evict]
  unfold ownOpenVisit
  split
  · simp
  · split
    · simp
    · split
      · simp
      · split
        · simp
        · split
          · simp
          · simpa using he _

theorem ownAmendVisit_standing (n : Nat) (r : BitVec 16) (a : Amendment) :
    SameStanding (ownAmendVisit n r a s).1 s := by
  unfold ownAmendVisit
  split
  · simp
  · split
    · simp
    · split
      · simp
      · split <;> simp

theorem ownVoidVisit_standing (n : Nat) (r : BitVec 16) :
    SameStanding (ownVoidVisit n r s).1 s := by
  unfold ownVoidVisit
  split
  · simp
  · split
    · simp
    · split
      · simp
      · split <;> simp

theorem ownRemoveVisit_standing (n : Nat) : SameStanding (ownRemoveVisit n s).1 s := by
  unfold ownRemoveVisit
  split
  · simp
  · split
    · simp
    · split <;> simp

theorem ownStoreTare_standing (n : Nat) : SameStanding (ownStoreTare n s).1 s := by
  unfold ownStoreTare
  split
  · simp
  · split
    · simp
    · split <;> simp

theorem ownDeleteTare_standing (plate : Text) : SameStanding (ownDeleteTare plate s).1 s := by
  unfold ownDeleteTare
  split <;> simp

/-! ### Requests to the ticket unit and the watch unit, the printer lines -/

theorem ownReprint_standing (n : Nat) (p : Choice BridgeEnd) :
    SameStanding (ownReprint n p s).1 s := by
  unfold ownReprint
  split
  · simp
  · split
    · simp
    · split
      · simp
      · split <;> simp

theorem ownSetPrinting_standing (c : Choice Bool) (i l : Nat) :
    SameStanding (ownSetPrinting c i l s).1 s := by
  unfold ownSetPrinting
  split <;> simp

theorem ownSetWatch_standing (w : Choice WatchTarget) : SameStanding (ownSetWatch w s).1 s := by
  unfold ownSetWatch
  split
  · simp
  · split <;> simp
  · simp
  · simp

theorem ownClearWatchFlags_standing (l : List (Choice WatchChannel × BitVec 16)) :
    SameStanding (ownClearWatchFlags l s).1 s := by
  unfold ownClearWatchFlags
  split
  · simp
  · split <;> simp

theorem ownReleaseHold_standing (n : Nat) : SameStanding (ownReleaseHold n s).1 s := by
  unfold ownReleaseHold
  split
  · simp
  · split
    · simp
    · simp

theorem ownRejectHold_standing (n : Nat) : SameStanding (ownRejectHold n s).1 s := by
  unfold ownRejectHold
  split
  · simp
  · split <;> simp

@[simp] theorem failHead_standing (e : BridgeEnd) : SameStanding (failHead e s) s := by
  unfold failHead
  split <;> simp

@[simp] theorem printRefused_standing (e : BridgeEnd) : SameStanding (printRefused e s) s := by
  unfold printRefused
  dsimp only
  split <;> simp

@[simp] theorem printTaken_standing (e : BridgeEnd) : SameStanding (printTaken e s) s := by
  unfold printTaken
  split <;> simp

theorem printAnswered_standing (e : BridgeEnd) (a : PrintReply) :
    SameStanding (printAnswered e a s) s := by
  unfold printAnswered
  split
  · split <;> simp [printerFails]
  · simp

theorem statusAnswered_standing (e : BridgeEnd) (a : QueryReply) :
    SameStanding (statusAnswered e a s) s := by
  unfold statusAnswered
  split
  · split <;> simp [lineReady, endQuery]
  · simp

theorem answerTimedOut_standing (e : BridgeEnd) : SameStanding (answerTimedOut e s) s := by
  unfold answerTimedOut
  split
  · simp
  · split <;> simp [endQuery]

/-! ### Requests to the metrology unit -/

theorem ownOpenSession_standing : SameStanding (ownOpenSession s).1 s := by
  have hc : ∀ s, SameStanding (closeMap s) s := by
    intro s
    unfold closeMap
    split <;> simp
  have ha : ∀ s, SameStanding (abandonChecks s) s := fun s =>
    foldl_standing (f := fun s d => abandonRun d s) (fun s d => by simp) _ s
  unfold ownOpenSession
  split
  · simp
  · simp [openSession, hc, ha, setMetro_deckStatus]

theorem ownCloseSession_standing : SameStanding (ownCloseSession s).1 s := by
  unfold ownCloseSession
  split <;> simp

theorem startOperation_standing (k : OpKind) (d : DeckId) :
    SameStanding (startOperation k d s) s := by
  unfold startOperation
  dsimp only
  split <;> simp

theorem ownOperation_standing (k : Option OpKind) (n : Nat) :
    SameStanding (ownOperation k n s).1 s := by
  unfold ownOperation
  split
  · simp
  · split
    · simp
    · split
      · split
        · simp
        · split
          · simp
          · split
            · simp
            · exact startOperation_standing ..
      · simp

theorem ownSetShuntMode_standing (n : Nat) (m : Choice ShuntModeName) (p : Nat) :
    SameStanding (ownSetShuntMode n m p s).1 s := by
  unfold ownSetShuntMode
  split <;> simp

theorem ownReleaseLog_standing (q l r : Nat) : SameStanding (ownReleaseLog q l r s).1 s := by
  unfold ownReleaseLog
  split
  · simp
  · exact ⟨rfl, setMetro_deckStatus s rfl⟩

theorem ownSetClock_standing (d n : Nat) : SameStanding (ownSetClock d n s).1 s := by
  unfold ownSetClock
  split
  · simp
  · split <;> simp

end

/-! ### CERTIFY_DECK -/

theorem inRange_threshold {p : LegalParams} (h : inRange p .threshold = true) : 1 ≤ p.threshold := by
  have hr : 1 ≤ p.threshold ∧ p.threshold ≤ 255 := of_decide_eq_true h
  exact hr.1

/-- A certified deck is given the whole threshold, which is at least 1 in range (R8, R163). -/
theorem certify_budgets {d : DeckId} {s : State} (ht : 1 ≤ s.legal.threshold) (hs : BudgetsOk s) :
    BudgetsOk (certify d s) := by
  intro e he
  unfold certify at he ⊢
  dsimp only at he ⊢
  by_cases hd : e = d
  · subst hd
    simp at he
    omega
  · have hf : ¬d.val = e.val := fun h => hd (Fin.ext h.symm)
    simp [hf] at he
    simpa [Function.update_of_ne hd] using hs e he

theorem ownCertifyDeck_budgets (n : Nat) (s : State) (hs : BudgetsOk s) :
    BudgetsOk (ownCertifyDeck n s).1 := by
  unfold ownCertifyDeck
  split
  · exact hs
  · split
    · exact hs
    · split
      · exact hs
      · split
        · exact hs
        · rename_i d _ hr
          split
          · exact hs
          · split
            · exact hs
            · split
              · exact hs
              · refine certify_budgets (inRange_threshold ?_) hs
                simp only [Bool.not_eq_true', Bool.not_eq_false, List.all_eq_true] at hr
                exact hr _ (by simp [certifyParams, bridgeParams])

/-! ### Legal writes -/

/-- After writes that are each in range the threshold is in range when one of them sets it. -/
theorem resultingSet_threshold {ws : List Write} (hw : ∀ w ∈ ws, legalRange w.1 w.2 = true)
    {p : LegalParams} (h : 1 ≤ p.threshold ∨ ∃ w ∈ ws, w.1 = .threshold) :
    1 ≤ (resultingSet p ws).threshold := by
  unfold resultingSet
  induction ws generalizing p with
  | nil => simpa using h
  | cons w ws ih =>
    obtain ⟨i, v⟩ := w
    refine ih (fun x hx => hw x (.tail _ hx)) ?_
    by_cases hi : i = .threshold
    · subst hi
      have hv : 1 ≤ v ∧ v ≤ 255 := of_decide_eq_true (hw _ (.head _))
      exact .inl hv.1
    · have hp : (setLegalValue p i v).threshold = p.threshold := by
        cases i with
        | threshold => exact absurd rfl hi
        | _ => rfl
      rw [hp]
      rcases h with h | ⟨x, hx, he⟩
      · exact .inl h
      · rcases List.mem_cons.mp hx with rfl | hx
        · exact absurd he hi
        · exact .inr ⟨x, hx, he⟩

/-- A budget set to a threshold of at least 1 is 0 only when it was 0. -/
theorem capBudgets_budgets {s : State} (ht : 1 ≤ s.legal.threshold) (hs : BudgetsOk s) :
    BudgetsOk (capBudgets s) := by
  intro d hd
  refine hs d ?_
  simp only [capBudgets, Fin.getElem_fin, vmap_getElem] at hd
  have : s.front[d.val].budget = 0 := by omega
  exact this

theorem renewDeck_budgets (d : DeckId) {s : State} (hs : BudgetsOk s) : BudgetsOk (renewDeck d s) := by
  refine hs.of_lowers (fun e => ?_) (.of_eq rfl)
  simp only [renewDeck, State.setFront_front, State.setDeck_front, upd_get]
  split <;> rfl

/-- A change of N starts channels and monitors anew, which leaves budgets and statuses (R11). -/
theorem applyDecks_budgets (old : LegalParams) {s : State} (hs : BudgetsOk s) :
    BudgetsOk (applyDecks old s) ∧ (applyDecks old s).metro.legal = s.metro.legal := by
  unfold applyDecks
  dsimp only
  constructor
  · refine .foldl (fun s j hs => ?_) _ (.foldl (fun s d hs => ?_) _ hs)
    · split
      · exact hs
      · exact hs.same (by simp)
    · split
      · exact hs
      · exact renewDeck_budgets d hs
  · refine (foldl_keeps (view := fun s => s.metro.legal) (fun s j => ?_) ..).trans
      (foldl_keeps (view := fun s => s.metro.legal) (fun s d => ?_) ..)
    · split <;> rfl
    · split <;> rfl

/-- A legal write of values in range keeps the invariant (R11, R154). -/
theorem legalWrite_budgets {ws : List Write} (hw : ∀ w ∈ ws, legalRange w.1 w.2 = true) {s : State}
    (hs : BudgetsOk s) : BudgetsOk (legalWrite ws s) := by
  have h1 : BudgetsOk (writeLegal ws (decksLowered s ws) s) := hs.carry (writeLegal_carries ..)
  have hl1 : (writeLegal ws (decksLowered s ws) s).metro.legal = resultingSet s.metro.legal ws := by
    simp
  unfold legalWrite
  split
  · exact hs
  · refine BudgetsOk.carry ?_ (noticeConditions_carries _)
    generalize writeLegal ws (decksLowered s ws) s = s1 at h1 hl1
    unfold applyEffects
    dsimp only
    have h2 : ∀ s2, s2 = (if ws.any (·.1 = .decks) then applyDecks s.legal s1 else s1) →
        BudgetsOk s2 ∧ s2.metro.legal = s1.metro.legal := by
      rintro s2 rfl
      split
      · exact applyDecks_budgets _ h1
      · exact ⟨h1, rfl⟩
    generalize (if ws.any (·.1 = .decks) then applyDecks s.legal s1 else s1) = s2 at h2
    obtain ⟨hb2, hl2⟩ := h2 s2 rfl
    have h3 : ∀ s3, s3 = (if ws.any fun w => isWindowParam w.1 then applyWindows s2 else s2) →
        BudgetsOk s3 ∧ s3.metro.legal = s2.metro.legal := by
      rintro s3 rfl
      split
      · exact ⟨hb2.same (by simp), by simp⟩
      · exact ⟨hb2, rfl⟩
    generalize (if ws.any fun w => isWindowParam w.1 then applyWindows s2 else s2) = s3 at h3
    obtain ⟨hb3, hl3⟩ := h3 s3 rfl
    have h4 : BudgetsOk (applyZeros ws s3) := hb3.same (by simp)
    split
    · rename_i ht
      refine capBudgets_budgets ?_ h4
      have hl : (applyZeros ws s3).legal = resultingSet s.metro.legal ws := by
        simp [State.legal, hl1, hl2, hl3]
      rw [hl]
      exact resultingSet_threshold hw (.inr (by simpa using ht))
    · exact h4

theorem ownSetLegal_budgets (l : List LegalWrite) (s : State) (hs : BudgetsOk s) :
    BudgetsOk (ownSetLegal l s).1 := by
  unfold ownSetLegal
  split
  · exact hs
  · exact hs
  · rename_i ws _ _
    split
    · exact hs
    · rename_i hok
      dsimp only
      split
      · exact hs
      · refine legalWrite_budgets (fun w hw => ?_) hs
        simp only [writesOk, Bool.not_eq_true', Bool.not_eq_false, Bool.and_eq_true,
          List.all_eq_true] at hok
        exact hok.1.2 w (List.mem_of_mem_filter hw)

/-! ### Samples -/

/-- A budget that reaches 0 lowers its deck in the same handling (R9). -/
theorem frontEndStep_budgets (d : DeckId) (conv : Conversion) {s : State} (hs : BudgetsOk s) :
    BudgetsOk (frontEndStep d conv s) := by
  intro e he
  unfold frontEndStep at he ⊢
  dsimp only at he ⊢
  by_cases hd : e = d
  · subst hd
    split at he <;> rename_i hc
    · rw [if_pos hc]
      simpa using downgraded_isLow (s.deckStatus e)
    · rw [if_neg hc]
      have h0 : s.front[e].budget = 0 := by
        by_contra hne
        exact hc ⟨by omega, he⟩
      exact hs e h0
  · have hf : ¬d.val = e.val := fun h => hd (Fin.ext h.symm)
    have he' : s.front[e].budget = 0 := by
      split at he <;> simpa [hf] using he
    split
    · simpa [Function.update_of_ne hd] using hs e he'
    · exact hs e he'

theorem sampleWhole_budgets (endFirst : Bool) (d : DeckId) (conv : Conversion) {s : State}
    (hs : BudgetsOk s) : BudgetsOk (sampleWhole endFirst d conv s).1 := by
  have h1 : BudgetsOk (sampleHead d conv s) := by
    unfold sampleHead abandonOnError
    split
    · exact (frontEndStep_budgets d conv hs).same (by simp)
    · exact frontEndStep_budgets d conv hs
  rw [sampleWhole_fst]
  refine BudgetsOk.carry ?_ (sampleTail_carries ..)
  exact h1.of_lowers (fun e => by simp) (applyMonitor_lowers ..)

theorem takeSample_budgets (endFirst : Bool) (d : DeckId) (conv : Conversion) (s : State)
    (hs : BudgetsOk s) : BudgetsOk (takeSample endFirst d conv s) := by
  unfold takeSample
  split
  · exact sampleWhole_budgets endFirst d conv hs
  · exact hs

theorem takeSampleIf_budgets (endFirst : Bool) (named : Happened → Bool) (d : DeckId)
    (conv : Conversion) (s : State) (hs : BudgetsOk s) :
    BudgetsOk (takeSampleIf endFirst named d conv s) := by
  rcases takeSampleIf_cases endFirst named d conv s with h | h <;> rw [h]
  · exact hs
  · exact takeSample_budgets endFirst d conv s hs

/-! ### The day, the reset and the restart -/

/-- A budget is raised only from above 0 (R10). -/
theorem regainAll_budgets {s : State} (hs : BudgetsOk s) : BudgetsOk (regainAll s) := by
  intro d hd
  refine hs d ?_
  simp only [regainAll, Fin.getElem_fin, vgen_getElem, regain] at hd
  split at hd
  · simp at hd
  · exact hd

/-- DUE follows VERIFIED, which a deck without budget is not (R9, R155). -/
theorem dueTest_budgets {s : State} (hs : BudgetsOk s) : BudgetsOk (dueTest s) := by
  refine hs.foldl (fun s d hs => ?_) _
  split
  · rename_i hp
    have hv : s.deckStatus d = .verified := by
      simp only [periodOut, Bool.and_eq_true, decide_eq_true_eq] at hp
      exact hp.1
    intro e he
    simp only [changeStatusWithEvent_keeps] at he ⊢
    by_cases hd : e = d
    · subst hd
      simpa [hv] using hs e he
    · simpa [Function.update_of_ne hd] using hs e he
  · exact hs

theorem execDayRollover_budgets {s t : State} (hs : BudgetsOk s)
    (h : execDayRollover s = .next t) : BudgetsOk t := by
  have hr : BudgetsOk (rollClock s) := hs.same (by simp [rollClock])
  have hd : BudgetsOk (dropRollover s) := hs.same (by simp [dropRollover])
  unfold execDayRollover at h
  cases h
  split
  · refine BudgetsOk.same ?_ (drive_standing _)
    split
    · exact dueTest_budgets (regainAll_budgets hr)
    · exact hd
  · split
    · exact hr
    · exact hd

theorem execResetAsserted_budgets (b : Bool) {s t : State} (hs : BudgetsOk s)
    (h : execResetAsserted b s = .next t) : BudgetsOk t := by
  cases h
  refine BudgetsOk.same ?_ (drive_standing _)
  exact hs.of_lowers (fun d => by simp [shuntsOff]) (.of_eq rfl)

theorem failCheck_carries (s : State) : Carries s (failCheck s) := by
  unfold failCheck
  have h : Carries s (s.logProtective .restoreFail) := .of_same (by simp)
  exact h.trans ⟨foldl_keeps (view := State.records) (fun s d => by simp) ..,
    .foldl (fun s d => .of_update (d := d) (v := .unverified) (by simp) (.inr rfl)) ..⟩

theorem restore_budgets (r : Option LegalRead) {s : State} (hs : BudgetsOk s) :
    BudgetsOk (restore r s) := by
  obtain ⟨u, ps, htake⟩ := takeBackAll_frame s
  have h1 : BudgetsOk ((takeBackAll s).setMetro fun m => readLegal r (restartMetro m)) := by
    rw [htake]
    refine hs.of_lowers (fun d => rfl) (.of_eq ?_)
    funext d
    cases r <;> simp [State.deckStatus, readLegal, restartMetro]
  unfold restore
  dsimp only
  generalize (takeBackAll s).setMetro (fun m => readLegal r (restartMetro m)) = s1 at h1
  have h2 : ∀ s2, s2 = (if checkPasses s1.metro then s1 else failCheck s1) → BudgetsOk s2 := by
    rintro s2 rfl
    split
    · exact h1
    · exact h1.carry (failCheck_carries s1)
  generalize (if checkPasses s1.metro then s1 else failCheck s1) = s2 at h2
  intro d hd
  refine h2 s2 rfl d ?_
  simp only [Fin.getElem_fin, vmap_getElem, restoreBudget] at hd
  split at hd
  · rename_i hc
    have := inRange_threshold hc.1
    simp at hd
    omega
  · exact hd

theorem closeLostSession_standing (s : State) : SameStanding (closeLostSession s) s := by
  unfold closeLostSession
  split <;> simp [setMetro_deckStatus]

theorem durableSteps_budgets (x : RestartStep) (r : Option LegalRead) {s : State}
    (hs : BudgetsOk s) : BudgetsOk (durableSteps x r s) := by
  have h1 := restore_budgets r hs
  have h2 := h1.same (closeLostSession_standing _)
  cases x with
  | restore => exact h1
  | metrology => exact h2
  | journal => exact h2.same ⟨rfl, rfl⟩

theorem restartBlocks_budgets {s : State} (hs : BudgetsOk s) : BudgetsOk (restartBlocks s) :=
  hs.of_lowers (fun d => by simp [restartBlocks]) (.of_eq rfl)

/-- A restart, whole or cut short, keeps the budgets and lowers statuses at most (R18, R185). -/
theorem execRestart_budgets (b : Bool) (r : RestartRun) {s t : State} (hs : BudgetsOk s)
    (h : execRestart b r s = .next t) : BudgetsOk t := by
  have hc : BudgetsOk (startClock b s) := hs.same (by simp [startClock])
  rcases execRestart_cases b r s with ⟨-, e⟩ | ⟨x, -, e⟩ <;> rw [e] at h <;> cases h <;>
    refine BudgetsOk.same ?_ (drive_standing _)
  · have h1 := restartBlocks_budgets (durableSteps_budgets .journal r.asRead hc)
    exact h1.of_lowers (fun d => rfl) (.of_eq rfl)
  · have h1 := restartBlocks_budgets (durableSteps_budgets x.done r.asRead hc)
    exact h1.of_lowers (fun d => rfl) (.of_eq rfl)

theorem tick_budgets {s : State} (hs : BudgetsOk s) : BudgetsOk (tick s) := by
  refine hs.of_lowers (fun d => ?_) (.of_eq ?_) <;> unfold tick <;> dsimp only <;> split <;> rfl

end Sys2Proof.Machine

/-!
Every command and every step keeps a deck with a budget of 0 SUSPECT or UNVERIFIED (O60).
-/

namespace Sys2Proof.Machine

/-! ### Every command, every step -/

/-- A request whose owner leaves records and statuses. -/
theorem request_standing {h : Header} {k : ReqKind} {owner : State → State × Response} {s t : State}
    (hs : BudgetsOk s) (ho : ∀ s, SameStanding (owner s).1 s) (he : request h k owner s = .next t) :
    BudgetsOk t :=
  request_budgets (fun s hs => hs.same (ho s)) hs he

/-- An event that leaves records and statuses. -/
theorem runCommand_standing {f : State → State} {s t : State} (hs : BudgetsOk s)
    (hf : ∀ s, SameStanding (f s) s) (he : runCommand f s = .next t) : BudgetsOk t :=
  runCommand_budgets (fun s hs => hs.same (hf s)) hs he

theorem execUnknownRequest_budgets (h : Header) (code : Byte) {s t : State} (hs : BudgetsOk s)
    (he : execUnknownRequest h code s = .next t) : BudgetsOk t := by
  refine runCommand_budgets (fun s hs => ?_) hs he
  dsimp only
  split
  · unfold answerUnknown
    split
    · exact hs.same (by simp)
    · exact routeRequest_budgets (fun s hs => hs) (hs.same (by simp))
  · exact hs.same (by simp)

theorem replyEnds_standing (p : Port) (s : State) : SameStanding (replyEnds p s) s := by
  unfold replyEnds
  split
  · unfold takeDeferred
    dsimp only
    split <;> split <;> simp
  · simp

theorem switchTaken_standing (l : SwitchLevel) (s : State) : SameStanding (switchTaken l s) s := by
  unfold switchTaken
  split <;> simp [setMetro_deckStatus]

theorem execBeamRawChange_budgets (j : Boundary) (raw : BeamState) {s t : State} (hs : BudgetsOk s)
    (he : execBeamRawChange j raw s = .next t) : BudgetsOk t := by
  cases he
  split
  · exact (hs.same (rawChange_standing s j raw)).same (drive_standing _)
  · exact hs.same (by simp)

/-- Each command keeps the invariant: most change no budget and no status. -/
theorem exec_budgets {i : Instr} {s t : State} (hs : BudgetsOk s) (he : exec i s = .next t) :
    BudgetsOk t := by
  cases i with
  | readEvents | readFault | readPort | readCells | readDecks | readAxles | readOrders | readClass
  | readGroups | readVisit | listVisits | readTares | readTicket | readPrinters | readWatch
  | readMetrology | readSession | readLog | readClock =>
    exact request_budgets readOnly_budgets hs he
  | clearEvents => exact request_standing hs (ownClearEvents_standing · ..) he
  | setEventMask => exact request_standing hs (fun s => by simp [ownSetEventMask]) he
  | clearFault => exact request_standing hs (fun s => by simp [ownClearFault]) he
  | resetPort => exact request_standing hs (fun s => by simp [ownResetPort]) he
  | setPortRate => exact request_standing hs (ownSetPortRate_standing · ..) he
  | unknownRequest h c => exact execUnknownRequest_budgets h c hs he
  | clearDeckHistory => exact request_standing hs (ownClearDeckHistory_standing · ..) he
  | zero => exact request_standing hs (ownZero_standing · ..) he
  | setBeamFilter => exact request_standing hs (ownSetBeamFilter_standing · ..) he
  | stageOrder => exact request_standing hs (ownStageOrder_standing · ..) he
  | cancelOrder => exact request_standing hs (ownCancelOrder_standing · ..) he
  | capture => exact request_standing hs ownCapture_standing he
  | finishSurvey => exact request_standing hs ownFinishSurvey_standing he
  | setCapture => exact request_standing hs (fun s => by simp [ownSetCapture]) he
  | setClass => exact request_standing hs (ownSetClass_standing · ..) he
  | deleteClass => exact request_standing hs (ownDeleteClass_standing · ..) he
  | setAxleCheck => exact request_standing hs (fun s => by simp [ownSetAxleCheck]) he
  | openVisit => exact request_standing hs (ownOpenVisit_standing · ..) he
  | amendVisit => exact request_standing hs (ownAmendVisit_standing · ..) he
  | voidVisit => exact request_standing hs (ownVoidVisit_standing · ..) he
  | removeVisit => exact request_standing hs (ownRemoveVisit_standing · ..) he
  | storeTare => exact request_standing hs (ownStoreTare_standing · ..) he
  | deleteTare => exact request_standing hs (ownDeleteTare_standing · ..) he
  | setTareRules => exact request_standing hs (fun s => by simp [ownSetTareRules]) he
  | reprint => exact request_standing hs (ownReprint_standing · ..) he
  | setPrinting => exact request_standing hs (ownSetPrinting_standing · ..) he
  | setWatch => exact request_standing hs (ownSetWatch_standing · ..) he
  | clearWatchFlags => exact request_standing hs (ownClearWatchFlags_standing · ..) he
  | releaseHold => exact request_standing hs (ownReleaseHold_standing · ..) he
  | rejectHold => exact request_standing hs (ownRejectHold_standing · ..) he
  | openSession => exact request_standing hs ownOpenSession_standing he
  | closeSession => exact request_standing hs ownCloseSession_standing he
  | setLegal => exact request_budgets (ownSetLegal_budgets _) hs he
  | setCellFactor => exact request_budgets (ownSetLegal_budgets _) hs he
  | testZero | testLoad | adjustZero | adjustSpan | recordShuntRef =>
    exact request_standing hs (ownOperation_standing · ..) he
  | certifyDeck => exact request_budgets (ownCertifyDeck_budgets _) hs he
  | setShuntMode => exact request_standing hs (ownSetShuntMode_standing · ..) he
  | releaseLog => exact request_standing hs (ownReleaseLog_standing · ..) he
  | setClock => exact request_standing hs (ownSetClock_standing · ..) he
  | frameDiscarded | byteGapTimeout | frameSyncReceived =>
    exact runCommand_standing hs (setPort_standing · ..) he
  | replySent p => exact runCommand_standing hs (replyEnds_standing p) he
  | lineBreak => exact runCommand_standing hs (fun s => by simp) he
  | deckSample d conv => exact runCommand_budgets (takeSample_budgets false d conv) hs he
  | zeroDeadlineExpired d conv | zeroTrackingMove d conv | captureWindowEnd d conv
  | testCaptureEnd d conv | adjustZeroEnd d conv | adjustSpanEnd d conv | shuntPhaseEnd d conv =>
    exact runCommand_budgets (takeSampleIf_budgets _ _ d conv) hs he
  | autoCaptureStart conv => exact runCommand_budgets (takeSampleIf_budgets _ _ 0 conv) hs he
  | beamRawChange j raw => exact execBeamRawChange_budgets j raw hs he
  | filterTimeExpired => exact runCommand_standing hs (fun s => by simp) he
  | stuckBeam j b => exact runCommand_standing hs (handleStuck_standing · j b) he
  | printAnswer => exact runCommand_standing hs (printAnswered_standing · ..) he
  | printerAnswerTimeout => exact runCommand_standing hs (answerTimedOut_standing · ..) he
  | retryWaitExpired | offlineQueryDue =>
    exact runCommand_standing hs (setTicket_standing · _) he
  | statusAnswer => exact runCommand_standing hs (statusAnswered_standing · ..) he
  | switchChange l => exact runCommand_standing hs (switchTaken_standing l) he
  | sessionExpiry => exact runCommand_standing hs (fun s => by simp) he
  | dayRollover => exact execDayRollover_budgets hs he
  | resetAsserted b => exact execResetAsserted_budgets b hs he
  | restart b r => exact execRestart_budgets b r hs he

/-- Settles O60: each command keeps the invariant, and so does a millisecond. -/
theorem stepKeepsBudgets : Obligations.StepKeepsBudgets := by
  intro s t hs h
  rcases step_cases h with ⟨-, rfl⟩ | ⟨c, rest, -, he⟩
  · exact tick_budgets hs
  · exact exec_budgets (hs.same ⟨rfl, rfl⟩ : BudgetsOk (s.withPending rest)) he

end Sys2Proof.Machine

/-!
What a sample brings about, part by part: the cell front end with the fall of its budget, the deck monitor's W,
a record that is invalid, and a sample with nothing in flight.
-/

namespace Sys2Proof.Machine

/-! ### The cell front end (R3 to R9) -/

section
variable (d : DeckId) (conv : Conversion) (s : State)

/-- The errors of a conversion bring a budget from above 0 to 0. -/
abbrev BudgetFalls : Prop := 0 < s.front[d].budget ∧ s.front[d].budget ≤ cellErrors conv

/-- The front end converts, and reports the fall of its budget (R9). -/
theorem frontEndStep_eq : frontEndStep d conv s =
    if BudgetFalls d conv s then
      reportDowngrade .budget d (s.setFront d (convertDeck s.legal d conv))
    else s.setFront d (convertDeck s.legal d conv) := by
  have hb : (s.setFront d (convertDeck s.legal d conv)).front[d].budget =
      s.front[d].budget - cellErrors conv := by
    simp [convertDeck]
  unfold frontEndStep
  dsimp only
  rw [hb]
  simp only [BudgetFalls, Nat.sub_eq_zero_iff_le]

@[simp] theorem frontEndStep_front :
    (frontEndStep d conv s).front = upd s.front d (convertDeck s.legal d conv) := by
  rw [frontEndStep_eq]
  split <;> simp

@[simp] theorem frontEndStep_decks : (frontEndStep d conv s).decks = s.decks := by
  rw [frontEndStep_eq]
  split <;> simp

/-- No error, no fall. -/
theorem frontEndStep_clean (h : cellErrors conv = 0) :
    frontEndStep d conv s = s.setFront d (convertDeck s.legal d conv) := by
  rw [frontEndStep_eq, if_neg]
  rintro ⟨h0, h1⟩
  omega

theorem sampleHead_clean (h : cellErrors conv = 0) :
    sampleHead d conv s = s.setFront d (convertDeck s.legal d conv) := by
  simp [sampleHead, abandonOnError, h, frontEndStep_clean]

/-- With an error the measurement on the deck is abandoned (R166, R167). -/
theorem sampleHead_error (h : 0 < cellErrors conv) :
    sampleHead d conv s = abandonOn .deckFault d (frontEndStep d conv s) := by
  simp [sampleHead, abandonOnError, h]

/-- Up to the monitor a sample writes the front end's part of the records alone. -/
theorem sampleHead_records : (sampleHead d conv s).records =
    fun e => ((upd s.front d (convertDeck s.legal d conv))[e].measured, s.decks[e].gross) := by
  have h : (sampleHead d conv s).records = (frontEndStep d conv s).records := by
    unfold sampleHead abandonOnError
    split <;> simp
  rw [h]
  funext e
  simp only [State.records, frontEndStep_front, frontEndStep_decks]

end

/-! ### The report of a fall (R9, R156) -/

theorem changeStatus_ports (p : Bool) (d : DeckId) (v : VStatus) (c : StatusCause) (s : State) :
    (changeStatus p d v c s).ports = s.ports ∧ (changeStatus p d v c s).clock = s.clock := by
  rcases changeStatus_cases p d v c s with ⟨-, h⟩ | ⟨-, m, h, -⟩ <;> rw [h] <;> exact ⟨rfl, rfl⟩

/-- A status change logs its entry, or counts it as lost (R154, R168). -/
theorem changeStatus_metro {d : DeckId} {v : VStatus} (c : StatusCause) {s : State}
    (h : s.deckStatus d ≠ v) :
    (0 < logRoom s.metro →
      (changeStatus true d v c s).metro.lost = s.metro.lost ∧
      (changeStatus true d v c s).metro.log = s.metro.log ++
        [⟨s.metro.nextSeq, s.now, .statusChange (s.deckStatus d) v c, s.metro.cal, some d⟩]) ∧
    (logRoom s.metro = 0 →
      (changeStatus true d v c s).metro.log = s.metro.log ∧
      (changeStatus true d v c s).metro.lost = min 65535 (s.metro.lost + 1)) := by
  have hc : changeStatus true d v c s = (s.setMetroDeck d fun m => { m with status := v }).logProtective
      (.statusChange (s.deckStatus d) v c) (some d) := by
    simp [changeStatus, h]
  have hroom : logRoom (s.setMetroDeck d fun m => { m with status := v }).metro = logRoom s.metro :=
    rfl
  rw [hc]
  simp only [State.logProtective, State.setMetro_metro, protectiveEntry, hroom]
  constructor
  · intro h0
    rw [if_pos h0]
    exact ⟨rfl, rfl⟩
  · intro h0
    rw [if_neg (by omega)]
    exact ⟨rfl, satInc_eq_min _ _⟩

theorem changeStatus_unchanged {p : Bool} {d : DeckId} {v : VStatus} (c : StatusCause) {s : State}
    (h : s.deckStatus d = v) : changeStatus p d v c s = s := by
  simp [changeStatus, h]

theorem reportDowngrade_metro (c : StatusCause) (d : DeckId) (s : State) :
    (reportDowngrade c d s).metro = (changeStatus true d (downgraded (s.deckStatus d)) c s).metro := by
  simp [reportDowngrade]

/-- A report raises the METROLOGY event of the downgrade. -/
theorem reportDowngrade_metroEvents (c : StatusCause) (d : DeckId) (s : State) (x : Port) :
    (reportDowngrade c d s).metroEvents x =
      withEvent (.downgradeReport c d (s.deckStatus d) (downgraded (s.deckStatus d))) s
        (s.metroEvents x) := by
  obtain ⟨hp, hclock⟩ := changeStatus_ports true d (downgraded (s.deckStatus d)) c s
  simp only [reportDowngrade, noticeConditions_bridge]
  simp [State.metroEvents, State.portState, State.raise, countEvent, categoryOf, hp, State.now,
    hclock, withEvent, satInc_eq_min]

/-! ### The deck monitor -/

section
variable (p : LegalParams) (d : DeckId) (e : Surroundings)

@[simp] theorem countDeadline_keeps (x : Monitor) :
    (countDeadline x).deck.gross = x.deck.gross ∧ (countDeadline x).deck.window = x.deck.window ∧
      (countDeadline x).deck.mode = x.deck.mode ∧
      (.zero .zeroLimit ∈ (countDeadline x).notes ↔ .zero .zeroLimit ∈ x.notes) := by
  unfold countDeadline
  split
  · simp
  · split <;> simp

/-- An invalid record: NOSIGNAL, an empty window, W as it was, no ZERO_LIMIT (R22). -/
theorem classifyInvalid_keeps (k : Deck) :
    (classifyInvalid (.of k)).deck.gross = k.gross ∧ (classifyInvalid (.of k)).deck.window = [] ∧
      (classifyInvalid (.of k)).deck.mode = .noSignal ∧
      .zero .zeroLimit ∉ (classifyInvalid (.of k)).notes := by
  unfold classifyInvalid
  dsimp only
  split
  · rename_i h
    simpa [dropReference] using h
  · simp [dropReference]

theorem sampleDeck_invalid (k : Deck) :
    (sampleDeck p d e .invalid k).deck.gross = k.gross ∧
      (sampleDeck p d e .invalid k).deck.window = [] ∧
      (sampleDeck p d e .invalid k).deck.mode = .noSignal ∧
      .zero .zeroLimit ∉ (sampleDeck p d e .invalid k).notes := by
  have h : sampleDeck p d e .invalid k = countDeadline (classifyInvalid (.of k)) := by
    unfold sampleDeck
    cases k.hold <;> rfl
  simpa [h] using classifyInvalid_keeps k

/-- A shunted record leaves W (R19). -/
theorem sampleDeck_shunted (k : Deck) : (sampleDeck p d e .shunted k).deck.gross = k.gross := by
  unfold sampleDeck
  cases k.hold <;> simp

theorem settleTest_gross (x : Monitor) : (settleTest p x).deck.gross = x.deck.gross := by
  unfold settleTest
  dsimp only
  split <;> simp

theorem bandTest_gross (g : Int) (x : Monitor) : (bandTest p g x).deck.gross = x.deck.gross := by
  unfold bandTest
  dsimp only
  split <;> simp [dropReference]

theorem classifyValid_gross (g w : Int) (x : Monitor) :
    (classifyValid p d g w x).deck.gross = x.deck.gross := by
  unfold classifyValid
  split
  · split <;> simp
  · dsimp only
    split <;> simp [countRuns]
  · dsimp only
    split <;> simp [countRuns]
  · dsimp only
    split
    · simp [countRuns, dropReference]
    · split
      · simp [countRuns, dropReference]
      · split <;> simp [bandTest_gross, settleTest_gross, countRuns]

theorem powerUpZero_gross (clear : Bool) (x : Monitor) :
    (powerUpZero p d clear x).deck.gross = x.deck.gross := by
  unfold powerUpZero
  dsimp only
  split
  · split <;> simp
  · rfl

theorem pendingZeroTest_gross (clear capturing : Bool) (x : Monitor) :
    (pendingZeroTest p d clear capturing x).deck.gross = x.deck.gross := by
  unfold pendingZeroTest
  dsimp only
  split
  · split <;> simp
  · simp

theorem trackZero_gross (clear busy : Bool) (g w : Int) (x : Monitor) :
    (trackZero p d clear busy g w x).deck.gross = x.deck.gross := by
  unfold trackZero
  dsimp only
  split
  · split
    · simp
    · split
      · simp
      · split <;> simp
  · simp

/-- A valid record on a deck without a hold gives W = G − T, T as it stood (R19). -/
theorem sampleDeck_valid {k : Deck} (h : k.hold = false) (g : Int) :
    (sampleDeck p d e (.valid g) k).deck.gross = some (g - k.zeroOffset) := by
  simp [sampleDeck, h, trackZero_gross, beforeTracking, pendingZeroTest_gross, powerUpZero_gross,
    classifyValid_gross, takeMass]

end

/-! ### The sample as a command -/

section
variable (d : DeckId) (conv : Conversion) (s : State)

/-- The state after a DECK_SAMPLE of a deck in use. -/
def sampled : State := (sampleWhole false d conv s).1.drive

theorem exec_deckSample {d : DeckId} {s : State} (hp : s.power = .running)
    (hd : d.val < deckCount s.legal) :
    exec (.deckSample d conv) s = .next (sampled d conv s) := by
  have hu : deckInUse s.legal d = true := by simpa [deckInUse] using hd
  show runCommand (takeSample false d conv) s = _
  rw [runCommand_running hp, takeSample, if_pos hu, sampled]

/-- The monitor's deck has taken its place. -/
abbrev afterMonitor : State := applyMonitor d (sampleMonitor d conv s) (sampleHead d conv s)

theorem sampled_carries : Carries (afterMonitor d conv s) (sampled d conv s) := by
  rw [sampled, sampleWhole_fst]
  exact (sampleTail_carries ..).trans (.of_same (drive_standing _))

/-- The front ends after a sample, switches and pins apart (R3 to R8). -/
theorem sampled_measured (e : DeckId) : (sampled d conv s).front[e].measured =
    (upd s.front d (convertDeck s.legal d conv))[e].measured := by
  have h1 := congrArg Prod.fst (congrFun (sampled_carries d conv s).records e)
  have h2 := congrArg Prod.fst (congrFun (sampleHead_records d conv s) e)
  simp only [State.records, applyMonitor_front] at h1 h2
  exact h1.trans h2

/-- W of the deck after a sample is what its monitor left. -/
theorem sampled_gross :
    (sampled d conv s).decks[d].gross = (sampleMonitor d conv s).deck.gross := by
  have h1 := congrArg Prod.snd (congrFun (sampled_carries d conv s).records d)
  simpa [State.records] using h1

/-- The monitor takes the deck with the W that it had. -/
theorem sampleHead_gross : (sampleHead d conv s).decks[d].gross = s.decks[d].gross :=
  congrArg Prod.snd (congrFun (sampleHead_records d conv s) d)

end

/-! ### An invalid record -/

/-- On a deck that is not settled no test capture is left to reach its window's end (R159). -/
theorem testCaptureStep_unsettled {d : DeckId} {s : State} (h : isSettled (s.deckMode d) = false) :
    testCaptureStep false d s = abortTestCapture d s := by
  have he : testWindowEnded d (abortTestCapture d s) = false := by
    unfold abortTestCapture
    by_cases hc : s.testCaptureOn d = true
    · rw [if_pos ⟨hc, by simp [h]⟩]
      simp only [testWindowEnded, abortOperation_operation]
    · rw [if_neg (fun hh => hc hh.1)]
      unfold State.testCaptureOn at hc
      unfold testWindowEnded
      cases ho : s.operation with
      | none => rfl
      | some o =>
        simp only [ho] at hc ⊢
        cases hcap : o.capture with
        | none => rfl
        | some c =>
          simp only [hcap] at hc ⊢
          simp_all
  simp [testCaptureStep, he]

/-- A shunt measurement leaves the decks, or ends the hold of its own (R30). -/
theorem shuntSample_decks (d : DeckId) (raw : Vector Int 4) (s : State) :
    (shuntSample d raw s).1.decks = s.decks ∨
      (shuntSample d raw s).1.decks = upd s.decks d completeHold := by
  have href : ∀ diffs, (completeReference d diffs s).decks = upd s.decks d completeHold := by
    intro diffs
    have hw : ∀ s, (legalWrite (changesOf (clearOperation (endRun d s)).legal
        (cellWrites (.shuntD d) (deflection diffs))) (clearOperation (endRun d s))).decks =
          (clearOperation (endRun d s)).decks := fun s =>
      legalWrite_decks _ fun w hw => by
        obtain ⟨i, hi⟩ := mem_cellWrites hw
        exact ⟨d, i, hi⟩
    unfold completeReference
    dsimp only
    split
    · rfl
    · split
      · simp [endRun]
      · split
        · simp [endRun]
        · rw [(endAdjusted_keeps ..).2.1, hw]
          rfl
  unfold shuntSample
  split
  · exact .inl rfl
  · dsimp only
    split
    · exact .inl rfl
    · split
      · split <;> exact .inl rfl
      · dsimp only
        split
        · exact .inr (href _)
        · exact .inr (completeCheck_decks ..)

section
variable {d : DeckId} {s : State}

/-- What follows the monitor on a deck in NOSIGNAL: aborts, but no window end and no new check. -/
theorem sampleTail_noSignal (raw : Vector Int 4) (entered : Bool) (h : s.deckMode d = .noSignal) :
    sampleTail false d raw none entered s = noticeConditions (recoverMap
      (shuntSample d raw (abortTestCapture d (orderStep false d s))).1) := by
  have h4 : isSettled ((orderStep false d s).deckMode d) = false := by
    have hm : (orderStep false d s).deckMode d = .noSignal := by
      rw [← h]
      simp [State.deckMode]
    rw [hm]
    rfl
  have hs : ∀ s', s'.deckMode d = .noSignal → schedule entered d s' = s' := by
    intro s' h'
    simp [schedule, checkDue, h']
  have h6 : (shuntSample d raw (abortTestCapture d (orderStep false d s))).1.deckMode d =
      .noSignal := by
    rw [State.deckMode] at h ⊢
    rcases shuntSample_decks d raw (abortTestCapture d (orderStep false d s)) with e | e <;>
      simpa [e] using h
  simp only [sampleTail, takeGross, testCaptureStep_unsettled h4, hs _ h6]

/-- There the deck stays, its window empty (R22). -/
theorem sampleTail_noSignal_deck (raw : Vector Int 4) (entered : Bool)
    (h : s.deckMode d = .noSignal) (hw : s.decks[d].window = []) :
    (sampleTail false d raw none entered s).deckMode d = .noSignal ∧
      (sampleTail false d raw none entered s).decks[d].window = [] := by
  rw [sampleTail_noSignal raw entered h]
  rw [State.deckMode] at h ⊢
  rcases shuntSample_decks d raw (abortTestCapture d (orderStep false d s)) with e | e
  · simpa [e] using And.intro h hw
  · simpa [e] using h

/-- With no measurement on it either, statuses and log stand; and so do the METROLOGY events when no
operation is in flight. -/
theorem sampleTail_noSignal_metro (raw : Vector Int 4) (entered : Bool)
    (h : s.deckMode d = .noSignal) (hr : s.metro.decks[d].run = none) :
    (sampleTail false d raw none entered s).deckStatus = s.deckStatus ∧
      (sampleTail false d raw none entered s).metro.log = s.metro.log ∧
      (sampleTail false d raw none entered s).metro.lost = s.metro.lost ∧
      (s.operation = none →
        (sampleTail false d raw none entered s).metroEvents = s.metroEvents) := by
  have hr' : (abortTestCapture d (orderStep false d s)).metro.decks[d].run = none := by
    simpa using hr
  rw [sampleTail_noSignal raw entered h, shuntSample_none _ hr']
  refine ⟨by simp, by simp, by simp, fun ho => ?_⟩
  have hc : (orderStep false d s).testCaptureOn d = false := by
    have : (orderStep false d s).operation = none := by simpa [State.operation] using ho
    simp only [State.testCaptureOn, this]
  simp [abortTestCapture, hc]

end
end Sys2Proof.Machine

/-!
A sample with no capture, no operation and no measurement in flight, under a VALID map: what it leaves of the
other blocks, the other decks and the shunt switches.
-/

namespace Sys2Proof.Machine

/-- From `s` to `t` only the front ends' conversions, deck `d` with its metrology record, the log, the condition run
with the capture that starts on it, and ports and pins may differ. -/
structure RestStands (d : DeckId) (s t : State) : Prop where
  blocks : (t.axle, t.check, t.visit, t.ticket, t.watch, t.clock) =
    (s.axle, s.check, s.visit, s.ticket, s.watch, s.clock)
  orders : (t.order.staged, t.order.stops) = (s.order.staged, s.order.stops)
  metro : (t.metro.legal, t.metro.cal, t.metro.session) =
    (s.metro.legal, s.metro.cal, s.metro.session)
  decks : ∀ e, e ≠ d → t.decks[e] = s.decks[e] ∧ t.deckStatus e = s.deckStatus e
  shunts : ∀ (e : DeckId) (i : CellId), t.front[e].cells[i].shunt = s.front[e].cells[i].shunt

namespace RestStands

theorem refl (d : DeckId) (s : State) : RestStands d s s :=
  ⟨rfl, rfl, rfl, fun _ _ => ⟨rfl, rfl⟩, fun _ _ => rfl⟩

theorem trans {d : DeckId} {s t u : State} (h : RestStands d s t) (h' : RestStands d t u) :
    RestStands d s u where
  blocks := h'.blocks.trans h.blocks
  orders := h'.orders.trans h.orders
  metro := h'.metro.trans h.metro
  decks e he := ⟨(h'.decks e he).1.trans (h.decks e he).1, (h'.decks e he).2.trans (h.decks e he).2⟩
  shunts e i := (h'.shunts e i).trans (h.shunts e i)

/-- Steps that each leave the rest. -/
theorem foldl {d : DeckId} {α : Type} {f : State → α → State} (h : ∀ s a, RestStands d s (f s a))
    (l : List α) (s : State) : RestStands d s (l.foldl f s) := by
  induction l generalizing s with
  | nil => exact refl d s
  | cons a l ih => exact (h s a).trans (ih _)

variable (d : DeckId) (s : State)

theorem raise (c : Cause) : RestStands d s (s.raise c) :=
  ⟨rfl, rfl, rfl, fun _ _ => ⟨rfl, rfl⟩, fun _ _ => rfl⟩

theorem setOrder {f : OrderUnit → OrderUnit}
    (h : ((f s.order).staged, (f s.order).stops) = (s.order.staged, s.order.stops)) :
    RestStands d s (s.setOrder f) :=
  ⟨rfl, h, rfl, fun _ _ => ⟨rfl, rfl⟩, fun _ _ => rfl⟩

theorem setDeck (f : Deck → Deck) : RestStands d s (s.setDeck d f) where
  blocks := rfl
  orders := rfl
  metro := rfl
  decks e he := by simp [Fin.val_ne_of_ne he.symm]
  shunts _ _ := rfl

theorem setMetroDeck (f : MetroDeck → MetroDeck) : RestStands d s (s.setMetroDeck d f) where
  blocks := rfl
  orders := rfl
  metro := rfl
  decks e he := by simp [State.deckStatus, Fin.val_ne_of_ne he.symm]
  shunts _ _ := rfl

theorem noticeConditions : RestStands d s (noticeConditions s) := by
  obtain ⟨n, h⟩ := noticeConditions_eq s
  rw [h]
  exact setOrder d s rfl

theorem changeStatus (p : Bool) (v : VStatus) (c : StatusCause) :
    RestStands d s (changeStatus p d v c s) := by
  rcases changeStatus_cases p d v c s with ⟨-, h⟩ | ⟨-, m, h, hd, hl, hc, hs, -⟩ <;> rw [h]
  · exact refl d s
  · refine ⟨rfl, rfl, by simp [hl, hc, hs], fun e he => ⟨rfl, ?_⟩, fun _ _ => rfl⟩
    simp [State.deckStatus, hd, Fin.val_ne_of_ne he.symm]

theorem reportDowngrade (c : StatusCause) : RestStands d s (reportDowngrade c d s) :=
  ((changeStatus d s _ _ _).trans (raise d _ _)).trans (noticeConditions d _)

theorem handleNote (n : DeckNote) : RestStands d s (handleNote d s n) := by
  by_cases h : n = .zero .zeroLimit
  · subst h
    exact (raise d s _).trans (reportDowngrade d _ _)
  · rcases handleNote_cases s d n h with e | ⟨c, -, e⟩ <;> rw [e]
    · exact refl d s
    · exact raise d s c

theorem applyMonitor (x : Monitor) : RestStands d s (applyMonitor d x s) :=
  ((setDeck d s _).trans (setMetroDeck d _ _)).trans (foldl (fun s n => handleNote d s n) _ _)

theorem frontEndStep (conv : Conversion) : RestStands d s (frontEndStep d conv s) := by
  have h : RestStands d s (s.setFront d (convertDeck s.legal d conv)) := by
    refine ⟨rfl, rfl, rfl, fun _ _ => ⟨rfl, rfl⟩, fun e i => ?_⟩
    simp only [State.setFront_front, upd_get]
    split
    · simp [convertDeck, convertCell]
    · rfl
  rw [frontEndStep_eq]
  split
  · exact h.trans (reportDowngrade d _ _)
  · exact h

theorem testOnSample : RestStands d s (testOnSample s).1 := by
  have hs : ∀ s, RestStands d s (startCapture s) := by
    intro s
    unfold startCapture
    split
    · exact refl d s
    · exact setOrder d s rfl
  unfold Machine.testOnSample
  split
  · have hc : RestStands d s (countTest s) := setOrder d s rfl
    dsimp only
    split
    · exact hc.trans (hs _)
    · exact hc
  · exact refl d s

theorem schedule (entered : Bool) : RestStands d s (schedule entered d s) := by
  unfold Machine.schedule
  split
  · exact (setMetroDeck d s _).trans ((setDeck d _ _).trans (setMetroDeck d _ _))
  · exact refl d s

theorem drive : RestStands d s s.drive := by
  refine ⟨rfl, rfl, rfl, fun _ _ => ⟨rfl, rfl⟩, fun e i => ?_⟩
  simp [State.drive]

end RestStands

/-! ### Nothing in flight -/

section
variable (d : DeckId) (s : State)

theorem noticeConditions_engine : (noticeConditions s).order.engine = s.order.engine := by
  obtain ⟨n, h⟩ := noticeConditions_eq s
  rw [h]
  rfl

/-- What a report of a downgrade leaves of a capture and of a measurement. -/
theorem reportDowngrade_flight (c : StatusCause) :
    (reportDowngrade c d s).order.engine = s.order.engine ∧
      (reportDowngrade c d s).metro.decks[d].run = s.metro.decks[d].run := by
  have hc : ∀ v, (changeStatus true d v c s).order.engine = s.order.engine ∧
      (changeStatus true d v c s).metro.decks[d].run = s.metro.decks[d].run := by
    intro v
    rcases changeStatus_cases true d v c s with ⟨-, h⟩ | ⟨-, m, h, hd, -⟩ <;> rw [h]
    · exact ⟨rfl, rfl⟩
    · exact ⟨rfl, by simp [hd]⟩
  constructor
  · rw [reportDowngrade, noticeConditions_engine]
    exact (hc _).1
  · simpa [reportDowngrade] using (hc _).2

theorem handleNote_flight (n : DeckNote) :
    (handleNote d s n).order.engine = s.order.engine ∧
      (handleNote d s n).metro.decks[d].run = s.metro.decks[d].run := by
  by_cases h : n = .zero .zeroLimit
  · subst h
    exact reportDowngrade_flight d (s.raise (.deckZero d .zeroLimit)) _
  · rcases handleNote_cases s d n h with e | ⟨c, -, e⟩ <;> rw [e] <;> exact ⟨rfl, rfl⟩

theorem applyMonitor_flight (x : Monitor) :
    (applyMonitor d x s).order.engine = s.order.engine ∧
      (applyMonitor d x s).metro.decks[d].run = s.metro.decks[d].run := by
  have he := foldl_keeps (view := fun s => s.order.engine) (f := handleNote d)
    (fun s n => (handleNote_flight d s n).1) x.notes
      ((s.setDeck d fun _ => x.deck).setMetroDeck d (countEntries (emptyEntries x.notes)))
  have hr := foldl_keeps (view := fun s => s.metro.decks[d].run) (f := handleNote d)
    (fun s n => (handleNote_flight d s n).2) x.notes
      ((s.setDeck d fun _ => x.deck).setMetroDeck d (countEntries (emptyEntries x.notes)))
  exact ⟨he, hr.trans (by simp)⟩

theorem frontEndStep_flight (conv : Conversion) :
    (frontEndStep d conv s).order.engine = s.order.engine ∧
      (frontEndStep d conv s).metro.decks[d].run = s.metro.decks[d].run := by
  rw [frontEndStep_eq]
  split
  · exact reportDowngrade_flight d (s.setFront d (convertDeck s.legal d conv)) _
  · exact ⟨rfl, rfl⟩

variable {d s}

/-- Without an operation in flight no test capture takes, ends or is aborted by a sample. -/
theorem testCaptureStep_none (h : s.operation = none) (endFirst : Bool) :
    testCaptureStep endFirst d s = s := by
  have hc : s.testCaptureOn d = false := by simp only [State.testCaptureOn, h]
  have he : testWindowEnded d s = false := by simp only [testWindowEnded, h]
  cases endFirst <;> simp [testCaptureStep, abortTestCapture, hc, he]

theorem takeGross_none (h : s.order.engine = none) (ho : s.operation = none) (raw : Vector Int 4)
    (w : Option Int) : RestStands d s (takeGross d raw w s) ∧
      (takeGross d raw w s).order.engine = none := by
  cases w with
  | none => exact ⟨.refl d s, h⟩
  | some w =>
    have hc : (captureSample d w s).testCaptureOn d = false := by
      have hop : (captureSample d w s).operation = none := ho
      simp only [State.testCaptureOn, hop]
    have ht : takeGross d raw (some w) s = captureSample d w s := by
      simp [takeGross, testSample, hc]
    rw [ht]
    exact ⟨.setOrder d s rfl, by simp [captureSample, h]⟩

theorem orderStep_none (h : s.order.engine = none) (endFirst : Bool) :
    RestStands d s (orderStep endFirst d s) := by
  unfold orderStep
  rw [captureStep_none h]
  dsimp only
  split
  · exact (RestStands.noticeConditions d s).trans (.testOnSample d _)
  · exact .noticeConditions d s

theorem RestStands.operation {t : State} (h : RestStands d s t) : t.operation = s.operation := by
  have := h.metro
  simp only [Prod.mk.injEq] at this
  simp only [State.operation, this]

theorem RestStands.axle {t : State} (h : RestStands d s t) : t.axle = s.axle :=
  congrArg Prod.fst h.blocks

/-- With nothing in flight and a VALID map what follows the monitor leaves the rest. -/
theorem sampleTail_quiet (he : s.order.engine = none) (ho : s.operation = none)
    (hr : s.metro.decks[d].run = none) (hv : s.axle.map.valid = true) (endFirst : Bool)
    (raw : Vector Int 4) (w : Option Int) (entered : Bool) :
    RestStands d s (sampleTail endFirst d raw w entered s) := by
  obtain ⟨h3, he3⟩ := takeGross_none (d := d) he ho raw w
  have h4 := h3.trans (orderStep_none (d := d) he3 endFirst)
  have hr4 : (orderStep endFirst d (takeGross d raw w s)).metro.decks[d].run = none := by
    simpa using hr
  have h6 := (h4.trans (.schedule d _ entered)).trans (.noticeConditions d _)
  have hv6 : (schedule entered d (orderStep endFirst d (takeGross d raw w s))).axle.map.valid =
      true := by
    rw [(h4.trans (.schedule d _ entered)).axle]
    exact hv
  rw [sampleTail, testCaptureStep_none (h4.operation.trans ho), shuntSample_none _ hr4]
  dsimp only
  rw [recoverMap_valid hv6]
  exact h6

variable (d s)

/-- With nothing in flight and a VALID map a sample leaves the rest. -/
theorem sampled_quiet (conv : Conversion) (he : s.order.engine = none) (ho : s.operation = none)
    (hr : s.metro.decks[d].run = none) (hv : s.axle.map.valid = true) :
    RestStands d s (sampled d conv s) := by
  obtain ⟨he1, hr1⟩ := frontEndStep_flight d s conv
  have hh : sampleHead d conv s = frontEndStep d conv s := by
    unfold sampleHead abandonOnError
    split
    · exact abandonOn_none _ (hr1.trans hr)
    · rfl
  obtain ⟨he2, hr2⟩ := applyMonitor_flight d (sampleHead d conv s) (sampleMonitor d conv s)
  have h2 : RestStands d s (afterMonitor d conv s) := by
    refine .trans ?_ (.applyMonitor d _ _)
    rw [hh]
    exact .frontEndStep d s conv
  rw [hh] at he2 hr2
  rw [sampled, sampleWhole_fst]
  refine (h2.trans (sampleTail_quiet ?_ (h2.operation.trans ho) ?_ ?_ _ _ _ _)).trans (.drive d _)
  · rw [afterMonitor, hh]
    exact he2.trans (he1.trans he)
  · rw [afterMonitor, hh]
    exact hr2.trans (hr1.trans hr)
  · rw [h2.axle]
    exact hv

end
end Sys2Proof.Machine

/-!
A sample reaches the cell front end and the deck (O37), assembled from the parts.
-/

namespace Sys2Proof.Machine

/-! ### Cell errors and the record (R3, R4) -/

/-- A conversion is a cell error when it is not sensed or stands at a rail (R3). -/
theorem isCellError_eq (conv : Conversion) (i : CellId) : isCellError conv i =
    decide (conv.sense[i] = false ∨ conv.raw[i] = -8388608 ∨ conv.raw[i] = 8388607) := by
  unfold isCellError conditionOf railLow railHigh
  cases conv.sense[i] <;> simp

theorem cellErrors_eq (conv : Conversion) : ((List.finRange 4).filter fun i : CellId =>
    decide (conv.sense[i] = false ∨ conv.raw[i] = -8388608 ∨ conv.raw[i] = 8388607)).length =
      cellErrors conv := by
  unfold cellErrors
  congr 2
  funext i
  exact (isCellError_eq conv i).symm

theorem conditionOf_eq (b : Bool) (r : Int) : conditionOf b r =
    if b = false then .noExcitation
    else if r = -8388608 ∨ r = 8388607 then .saturated else .ok := by
  cases b <;> rfl

section
variable (p : LegalParams) (d : DeckId) (f : FrontEnd) (conv : Conversion)

theorem recordOf_invalid (h : ¬(cellErrors conv = 0 ∧ deckParamsBad p d = false)) :
    recordOf p d f conv = .invalid := by
  have hc : 0 < cellErrors conv ∨ deckParamsBad p d = true := by
    by_contra hn
    simp only [not_or, Bool.not_eq_true] at hn
    exact h ⟨by omega, hn.2⟩
  simp only [recordOf, hc, if_true]

theorem recordOf_clean (h : cellErrors conv = 0 ∧ deckParamsBad p d = false) :
    recordOf p d f conv = if isShunted f then .shunted else .valid (rawMass p d conv.raw) := by
  simp [recordOf, h]

theorem isShunted_iff : isShunted f = true ↔ ∃ i : CellId, f.cells[i].shunt = true := by
  simp [isShunted]

end

/-- Equal conversions, channel by channel. -/
theorem measured_cells {f g : FrontEnd} (h : f.measured = g.measured) (i : CellId) :
    f.cells[i].latest = g.cells[i].latest ∧ f.cells[i].tally = g.cells[i].tally := by
  have hc := congrArg (fun v => v[i.val]) (congrArg (fun m => m.2.2) h)
  simpa [FrontEnd.measured] using hc

/-! ### The parts of the statement -/

section
variable (d : DeckId) (conv : Conversion) (s : State)

theorem sampled_cell (i : CellId) :
    (sampled d conv s).front[d].cells[i].latest =
        some (conv.raw[i], conditionOf conv.sense[i] conv.raw[i]) ∧
      (sampled d conv s).front[d].cells[i].tally =
        if isCellError conv i then min 65535 (s.front[d].cells[i].tally + 1)
        else s.front[d].cells[i].tally := by
  have h : (sampled d conv s).front[d].measured = (convertDeck s.legal d conv s.front[d]).measured := by
    simpa using sampled_measured d conv s d
  obtain ⟨hl, ht⟩ := measured_cells h i
  simpa [convertDeck, convertCell, satInc_eq_min] using And.intro hl ht

theorem sampled_front : (sampled d conv s).front[d].budget = s.front[d].budget - cellErrors conv ∧
    (sampled d conv s).front[d].lastValid =
      some (decide (recordOf s.legal d s.front[d] conv ≠ .invalid)) := by
  have h : (sampled d conv s).front[d].measured = (convertDeck s.legal d conv s.front[d]).measured := by
    simpa using sampled_measured d conv s d
  exact ⟨congrArg Prod.fst h, congrArg (fun m => m.2.1) h⟩

theorem sampled_other {e : DeckId} (he : e ≠ d) :
    (sampled d conv s).front[e].measured = s.front[e].measured := by
  simpa [Fin.val_ne_of_ne he.symm] using sampled_measured d conv s e

@[simp] theorem drive_metroEvents : s.drive.metroEvents = s.metroEvents := by
  funext x
  simp [State.metroEvents, State.portState, State.drive]

/-- After a conversion with an error statuses, log and METROLOGY events are those that the front end left. -/
theorem sampled_error (h : 0 < cellErrors conv) :
    (sampled d conv s).deckStatus = (frontEndStep d conv s).deckStatus ∧
      (sampled d conv s).metro.log = (frontEndStep d conv s).metro.log ∧
      (sampled d conv s).metro.lost = (frontEndStep d conv s).metro.lost ∧
      (s.operation = none → (sampled d conv s).metroEvents = (frontEndStep d conv s).metroEvents) := by
  have hrec : recordOf s.legal d s.front[d] conv = .invalid :=
    recordOf_invalid _ _ _ _ fun hc => by omega
  have hx : sampleMonitor d conv s = sampleDeck (sampleHead d conv s).legal d
      (surroundings (sampleHead d conv s) d) .invalid (sampleHead d conv s).decks[d] := by
    rw [sampleMonitor, hrec]
  obtain ⟨-, hwin, hmode, hnote⟩ := sampleDeck_invalid (sampleHead d conv s).legal d
    (surroundings (sampleHead d conv s) d) (sampleHead d conv s).decks[d]
  rw [← hx] at hwin hmode hnote
  obtain ⟨hm, hst, hev⟩ := applyMonitor_quiet (sampleHead d conv s) d (sampleMonitor d conv s) hnote
  have hhead := sampleHead_error d conv s h
  have hrun : (afterMonitor d conv s).metro.decks[d].run = none := by
    rw [(applyMonitor_flight d _ _).2, hhead]
    exact abandonOn_run ..
  have hmode' : (afterMonitor d conv s).deckMode d = .noSignal := by
    simpa [State.deckMode] using hmode
  have hg : sampleGross (.invalid) (sampleHead d conv s).decks[d] = none := by
    unfold sampleGross
    cases (sampleHead d conv s).decks[d].hold <;> rfl
  obtain ⟨htst, htlog, htlost, htev⟩ := sampleTail_noSignal_metro conv.raw
    ((sampleMonitor d conv s).notes.contains (.entered .empty)) hmode' hrun
  have hs : sampled d conv s = (sampleTail false d conv.raw none
      ((sampleMonitor d conv s).notes.contains (.entered .empty)) (afterMonitor d conv s)).drive := by
    rw [sampled, sampleWhole_fst, hrec, hg]
  rw [hs]
  refine ⟨?_, ?_, ?_, fun ho => ?_⟩
  · rw [(drive_standing _).2, htst, hst, hhead]
    simp
  · show (sampleTail false d conv.raw none _ (afterMonitor d conv s)).metro.log = _
    rw [htlog, hm, hhead]
    simp
  · show (sampleTail false d conv.raw none _ (afterMonitor d conv s)).metro.lost = _
    rw [htlost, hm, hhead]
    simp
  · have hof : (frontEndStep d conv s).operation = none :=
      (RestStands.frontEndStep d s conv).operation.trans ho
    obtain ⟨hoa, hea⟩ := abandonOn_metroEvents (frontEndStep d conv s) (c := .deckFault) (d := d) hof
    have hom : (afterMonitor d conv s).operation = none := by
      rw [← hhead] at hoa
      simpa only [State.operation, hm] using hoa
    rw [drive_metroEvents, htev hom, hev, hhead, hea]

/-- R9: the status after a conversion with errors. -/
theorem frontEndStep_status : (frontEndStep d conv s).deckStatus d =
    if BudgetFalls d conv s then downgraded (s.deckStatus d) else s.deckStatus d := by
  rw [frontEndStep_eq]
  split <;> simp

/-- R9: the entry of the fall, or its loss. -/
theorem frontEndStep_entry (hf : BudgetFalls d conv s)
    (hne : s.deckStatus d ≠ downgraded (s.deckStatus d)) :
    (0 < logRoom s.metro →
      (frontEndStep d conv s).metro.lost = s.metro.lost ∧
      (frontEndStep d conv s).metro.log = s.metro.log ++ [⟨s.metro.nextSeq, s.now,
        .statusChange (s.deckStatus d) (downgraded (s.deckStatus d)) .budget, s.metro.cal,
        some d⟩]) ∧
    (logRoom s.metro = 0 →
      (frontEndStep d conv s).metro.log = s.metro.log ∧
      (frontEndStep d conv s).metro.lost = min 65535 (s.metro.lost + 1)) := by
  rw [frontEndStep_eq, if_pos hf, reportDowngrade_metro]
  exact changeStatus_metro .budget (s := s.setFront d (convertDeck s.legal d conv)) hne

/-- Without a fall to a lower status the log stands. -/
theorem frontEndStep_noEntry
    (h : ¬BudgetFalls d conv s ∨ s.deckStatus d = downgraded (s.deckStatus d)) :
    (frontEndStep d conv s).metro = s.metro := by
  rw [frontEndStep_eq]
  split
  · rename_i hf
    have he := h.resolve_left (not_not_intro hf)
    rw [reportDowngrade_metro, changeStatus_unchanged .budget (by exact he)]
    rfl
  · rfl

/-- R9, R156: the METROLOGY event of the fall. -/
theorem frontEndStep_metroEvents (x : Port) : (frontEndStep d conv s).metroEvents x =
    if BudgetFalls d conv s then
      withEvent (.downgradeReport .budget d (s.deckStatus d) (downgraded (s.deckStatus d))) s
        (s.metroEvents x)
    else s.metroEvents x := by
  rw [frontEndStep_eq]
  split
  · exact reportDowngrade_metroEvents ..
  · rfl

/-- R15, R22: after an invalid record. -/
theorem sampled_invalid (h : recordOf s.legal d s.front[d] conv = .invalid) :
    (sampled d conv s).deckMode d = .noSignal ∧ (sampled d conv s).decks[d].window = [] ∧
      (sampled d conv s).decks[d].gross = s.decks[d].gross := by
  have hx : sampleMonitor d conv s = sampleDeck (sampleHead d conv s).legal d
      (surroundings (sampleHead d conv s) d) .invalid (sampleHead d conv s).decks[d] := by
    rw [sampleMonitor, h]
  obtain ⟨hgross, hwin, hmode, -⟩ := sampleDeck_invalid (sampleHead d conv s).legal d
    (surroundings (sampleHead d conv s) d) (sampleHead d conv s).decks[d]
  rw [← hx] at hgross hwin hmode
  have hg : sampleGross .invalid (sampleHead d conv s).decks[d] = none := by
    unfold sampleGross
    cases (sampleHead d conv s).decks[d].hold <;> rfl
  have ht := sampleTail_noSignal_deck (d := d) (s := afterMonitor d conv s) conv.raw
    ((sampleMonitor d conv s).notes.contains (.entered .empty))
    (by simpa [State.deckMode] using hmode) (by simpa using hwin)
  refine ⟨?_, ?_, ?_⟩
  · rw [sampled, sampleWhole_fst, h, hg]
    exact ht.1
  · rw [sampled, sampleWhole_fst, h, hg]
    exact ht.2
  · rw [sampled_gross, hgross, sampleHead_gross]

/-- R19: a shunted sample gives no W. -/
theorem sampled_shunted (h : recordOf s.legal d s.front[d] conv = .shunted) :
    (sampled d conv s).decks[d].gross = s.decks[d].gross := by
  rw [sampled_gross, sampleMonitor, h]
  exact (sampleDeck_shunted ..).trans (sampleHead_gross ..)

/-- R19: a valid one gives W = G − T. -/
theorem sampled_valid {g : Int} (hc : cellErrors conv = 0)
    (h : recordOf s.legal d s.front[d] conv = .valid g) (hh : s.decks[d].hold = false) :
    (sampled d conv s).decks[d].gross = some (g - s.decks[d].zeroOffset) := by
  have hd : (sampleHead d conv s).decks = s.decks := by
    rw [sampleHead_clean d conv s hc]
    rfl
  rw [sampled_gross, sampleMonitor, h]
  simpa only [hd] using sampleDeck_valid (sampleHead d conv s).legal d
    (surroundings (sampleHead d conv s) d) hh g

end

/-- R14: a sum divided by 1000 to the nearest, ties away from zero. -/
theorem rawMass_bounds (p : LegalParams) (d : DeckId) (raw : Vector Int 4) {sum : Int}
    (h : ((List.finRange 4).map fun i : CellId => (raw[i] - p.zero[d][i]) * p.factor[d][i]).sum = sum) :
    (0 ≤ sum → 2000 * rawMass p d raw ≤ 2 * sum + 1000 ∧
      2 * sum + 1000 < 2000 * rawMass p d raw + 2000) ∧
    (sum < 0 → 2000 * -rawMass p d raw ≤ 2 * -sum + 1000 ∧
      2 * -sum + 1000 < 2000 * -rawMass p d raw + 2000) := by
  have hm : rawMass p d raw = roundDiv sum 1000 := congrArg (roundDiv · 1000) h
  rw [hm]
  constructor
  · intro h0
    have := roundDiv_nonneg sum 1000 h0 (by decide)
    omega
  · intro h0
    have hb := roundDiv_nonneg (-sum) 1000 (by omega) (by decide)
    rw [roundDiv_neg sum 1000 (by omega)] at hb
    omega

theorem downgraded_eq (v : VStatus) :
    downgraded v = if v = .verified ∨ v = .due then .suspect else v := by
  cases v <;> simp [downgraded]

/-- Settles O37: the sample's parts, clause by clause. -/
theorem samplesReachTheDeck : Obligations.SamplesReachTheDeck := by
  intro d conv s hp hd p bad errors clean shunted sum
  have herr : errors = cellErrors conv := cellErrors_eq conv
  have hbad : ∀ i, isCellError conv i = decide (bad i) := isCellError_eq conv
  have hclean : ∀ h : clean, cellErrors conv = 0 ∧ deckParamsBad p d = false :=
    fun h => ⟨herr ▸ h.1, h.2⟩
  have hinv : ¬clean → recordOf p d s.front[d] conv = .invalid := fun h =>
    recordOf_invalid p d _ conv fun hc => h ⟨herr.trans hc.1, hc.2⟩
  have hrec : clean → recordOf p d s.front[d] conv =
      if isShunted s.front[d] then .shunted else .valid (rawMass p d conv.raw) := fun h =>
    recordOf_clean p d _ conv (hclean h)
  have hshunt : isShunted s.front[d] = true ↔ shunted := isShunted_iff _
  obtain ⟨hbudget, hvalid⟩ := sampled_front d conv s
  refine ⟨sampled d conv s, exec_deckSample conv hp hd, fun i => ?_, ?_, ?_, fun e he => ?_,
    fun h0 => ?_, fun h => ?_, fun h hs => ?_, fun h hs hh => ?_, fun he ho hr hv => ?_⟩
  · obtain ⟨hl, ht⟩ := sampled_cell d conv s i
    refine ⟨by rw [hl, conditionOf_eq], ?_⟩
    rw [ht, hbad]
    simp only [decide_eq_true_eq]
  · rw [hbudget, herr]
  · rw [hvalid]
    refine congrArg some (decide_eq_decide.mpr ⟨fun h => ?_, fun h => ?_⟩)
    · by_contra hc
      exact h (hinv hc)
    · rw [show recordOf s.legal d s.front[d] conv = _ from hrec h]
      split <;> simp
  · have hm := sampled_other d conv s he
    exact ⟨congrArg Prod.fst hm, congrArg (fun m => m.2.1) hm, measured_cells hm⟩
  · obtain ⟨hst, hlog, hlost, hev⟩ := sampled_error d conv s (herr ▸ h0)
    intro falls before after
    have hfalls : BudgetFalls d conv s ↔ falls := by
      show BudgetFalls d conv s ↔ (0 < s.front[d].budget ∧ s.front[d].budget ≤ errors)
      rw [herr]
    have hafter : downgraded (s.deckStatus d) = after := downgraded_eq _
    refine ⟨?_, fun hf hne => ?_, fun h => ?_, fun ho x => ?_⟩
    · rw [hst, frontEndStep_status, hafter]
      simp only [hfalls]
      rfl
    · obtain ⟨hroom, hfull⟩ := frontEndStep_entry d conv s (hfalls.mpr hf) (hafter ▸ hne)
      rw [hlog, hlost, ← hafter]
      exact ⟨hroom, hfull⟩
    · rw [← hfalls, ← hafter] at h
      rw [hlog, hlost, frontEndStep_noEntry d conv s h]
      exact ⟨rfl, rfl⟩
    · have hx := congrFun (hev ho) x
      rw [frontEndStep_metroEvents, hafter] at hx
      simp only [hfalls] at hx
      exact hx
  · exact sampled_invalid d conv s (hinv h)
  · refine sampled_shunted d conv s ?_
    exact (hrec h).trans (if_pos (hshunt.mpr hs))
  · have hr := (hrec h).trans (if_neg (mt hshunt.mp hs))
    obtain ⟨hpos, hneg⟩ := rawMass_bounds p d conv.raw (sum := sum) rfl
    exact ⟨_, sampled_valid d conv s (hclean h).1 hr hh, hpos, hneg⟩
  · have hq := sampled_quiet d s conv he ho hr hv
    have hb := hq.blocks
    have hor := hq.orders
    have hm := hq.metro
    simp only [Prod.mk.injEq] at hb hor hm
    obtain ⟨haxle, hcheck, hvisit, hticket, hwatch, hclock⟩ := hb
    exact ⟨haxle, hcheck, hvisit, hticket, hwatch, hclock, hor.1, hor.2, hm.1, hm.2.1, hm.2.2,
      hq.decks, hq.shunts⟩

end Sys2Proof.Machine

/-!
The machine right after reset (O2), and the reads of the cells, the class and group tables, the stored tares, the
printers and the watch unit (O10).
-/

namespace Sys2Proof.Machine

/-! ### Reset -/

theorem reset_deck (d : DeckId) :
    State.reset.front[d].budget = 32 ∧ State.reset.deckMode d = .settling ∧
      State.reset.decks[d].zeroOffset = 0 ∧ State.reset.decks[d].zeroSet = false ∧
      State.reset.decks[d].window = [] ∧
      historyMembers State.reset.decks[d] = [(.settling, 1)] ∧
      State.reset.deckStatus d = .unverified ∧ State.reset.metro.decks[d].lastVerified = none ∧
      State.reset.metro.decks[d].shuntMode = .off ∧ State.reset.metro.decks[d].entryCount = 0 ∧
      State.reset.metro.decks[d].run = none ∧
      (∀ i : CellId, State.reset.metro.decks[d].results[i] = none) ∧
      (∀ i : CellId, State.reset.front[d].cells[i].tally = 0 ∧
        State.reset.front[d].cells[i].shunt = false ∧
        State.reset.front[d].cells[i].latest = none) := by
  revert d
  decide

theorem reset_pair (j : Boundary) :
    State.reset.axle.pairs[j].decoder = none ∧ State.reset.axle.pairs[j].start = .unknown ∧
      State.reset.axle.pairs[j].errors = 0 ∧ State.reset.axle.pairs[j].stuckU = false ∧
      State.reset.axle.pairs[j].stuckD = false := by
  revert j
  decide

theorem reset_class (c : Nat) : classAt State.reset.check c = none := by
  unfold classAt
  split
  · exact vrep_getElem ..
  · rfl

theorem reset_line (e : BridgeEnd) :
    (lineOf State.reset.ticket e).state = .offline ∧ (lineOf State.reset.ticket e).spool = [] ∧
      (lineOf State.reset.ticket e).retry = 0 := by
  cases e <;> exact ⟨rfl, rfl, rfl⟩

theorem reset_port (p : Port) :
    (State.reset.portState p).rate = 1 ∧ (State.reset.portState p).receiver = .hunt ∧
      (State.reset.portState p).discarded = 0 ∧ (State.reset.portState p).mask = vrep 9 false ∧
      (State.reset.portState p).firstFault = none ∧ (State.reset.portState p).attention = true ∧
      ∀ c : Fin 9, (State.reset.portState p).events[c].count = if c = 8 then 1 else 0 := by
  cases p <;> decide

/-- Settles O2: every block at its factory and restart values. -/
theorem resetHoldsTheSpecValues : Obligations.ResetHoldsTheSpecValues := by
  exact ⟨reset_deck, rfl, rfl, reset_pair, rfl, rfl, rfl, rfl, rfl, rfl, rfl, rfl, rfl, rfl,
    reset_class, rfl, rfl, rfl, rfl, rfl, rfl, rfl, rfl, rfl, reset_line, rfl, rfl, rfl, rfl, rfl,
    rfl, rfl, rfl, rfl, rfl, rfl, rfl, rfl, rfl, rfl, rfl, reset_port⟩

/-! ### Reads -/

/-- A read that is accepted. -/
theorem read_accepted {h : Header} {k : ReqKind} {f : State → Response} {s : State} {r : Result}
    (hp : Passes h k s) (hf : f (s.received h) = accepted r) :
    request h k (readOnly f) s = .next ((s.received h).sent h k.code .accepted r) :=
  request_sent hp (by rw [readOnly, hf]; rfl) rfl

/-- A read that is refused. -/
theorem read_refused {h : Header} {k : ReqKind} {f : State → Response} {s : State} {c : Status}
    (hp : Passes h k s) (hf : f (s.received h) = refusal c) (hc : isRefusal c = true) :
    request h k (readOnly f) s = .next ((s.received h).refusedWith h k.code c .none) :=
  request_refused hp (by rw [readOnly, hf]; rfl) hc

/-- A request that every port may send passes when it arrives. -/
theorem Arrives.passes {h : Header} {s : State} (ha : Arrives h s) {k : ReqKind}
    (hk : ∀ p, k.permitted p = true) : Passes h k s := ⟨ha.1, hk _, ha.2⟩

/-! ### READ_CELLS (R16) -/

/-- A deck in use is named by its number. -/
theorem deckNumbered_succ {p : LegalParams} {d : DeckId} (hd : d.val < deckCount p) :
    deckNumbered p (d.val + 1) = some d := by
  cases h : deckNumbered p (d.val + 1) with
  | none =>
    have := List.find?_eq_none.mp h d (by simpa [decksInUse, deckInUse] using hd)
    simp at this
  | some e =>
    have := List.find?_some h
    simp only [decide_eq_true_eq] at this
    exact congrArg some (Fin.ext (by omega))

/-- No deck in use has a number above N. -/
theorem deckNumbered_above {p : LegalParams} {n : Nat} (hn : deckCount p < n) :
    deckNumbered p n = none := by
  refine List.find?_eq_none.mpr fun d hd => ?_
  simp only [decksInUse, deckInUse, List.mem_filter, decide_eq_true_eq] at hd ⊢
  omega

theorem cellParamBad_eq (p : LegalParams) (d : DeckId) (i : CellId) : cellParamBad p d i =
    decide (¬(-8388607 ≤ p.zero[d][i] ∧ p.zero[d][i] ≤ 8388607 ∧
      100 ≤ p.factor[d][i] ∧ p.factor[d][i] ≤ 100000)) := by
  have hz : inRange p (.zero d i) =
      decide (-8388607 ≤ p.zero[d][i] ∧ p.zero[d][i] ≤ 8388607) := rfl
  have hk : inRange p (.factor d i) =
      decide ((100 : Int) ≤ p.factor[d][i] ∧ (p.factor[d][i] : Int) ≤ 100000) := rfl
  rw [cellParamBad, hz, hk, Bool.eq_iff_iff]
  simp only [Bool.not_eq_true', Bool.and_eq_false_iff, decide_eq_false_iff_not, decide_eq_true_eq]
  omega

/-- The part of a deck, from the state in which the request acts. -/
theorem cellsPart_received (h : Header) (s : State) (d : DeckId) : cellsPart (s.received h) d =
    ⟨s.front[d].budget, s.legal.threshold, s.front[d].lastValid,
      (List.finRange 4).map fun i : CellId =>
        (4 * d.val + i.val + 1, s.front[d].cells[i].latest, s.front[d].cells[i].shunt,
          s.front[d].cells[i].tally,
          decide (¬(-8388607 ≤ s.legal.zero[d][i] ∧ s.legal.zero[d][i] ≤ 8388607 ∧
            100 ≤ s.legal.factor[d][i] ∧ s.legal.factor[d][i] ≤ 100000)))⟩ := by
  simp only [cellsPart, received_front, received_legal, cellParamBad_eq, channelNumber]

/-! ### READ_CLASS, READ_GROUPS (R86, R97) -/

theorem classAt_succ (k : AxleCheck) (i : Fin 32) : classAt k (i.val + 1) = k.classes[i] := by
  unfold classAt
  rw [dif_pos (by omega)]
  rfl

/-! ### READ_TARES (R116) -/

theorem zipIdx_filter_from {α : Type} (n : Nat) (l : List α) (k : Nat) :
    (l.zipIdx k).filter (fun x => decide (n ≤ x.2)) = (l.drop (n - k)).zipIdx (max n k) := by
  induction l generalizing k with
  | nil => simp
  | cons a l ih =>
    rw [List.zipIdx_cons]
    by_cases hk : n ≤ k
    · have hdrop : n - k = 0 := by omega
      have hdrop' : n - (k + 1) = 0 := by omega
      rw [List.filter_cons_of_pos (by simpa using hk), ih, hdrop, hdrop', max_eq_right hk,
        max_eq_right (by omega)]
      rfl
    · have hdrop : n - k = n - (k + 1) + 1 := by omega
      rw [List.filter_cons_of_neg (by simpa using hk), ih, hdrop, max_eq_left (by omega),
        max_eq_left (by omega), List.drop_succ_cons]

theorem passing_all {α : Type} (n : Nat) (l : List α) :
    passing (fun _ => true) n l = (l.drop n).zipIdx n := by
  simpa [passing] using zipIdx_filter_from n l 0

/-- A page of a whole list: its elements, and the position that follows when there is one. -/
theorem page_passing_all {α : Type} (m n : Nat) (l : List α) :
    page m (passing (fun _ => true) n l) =
      ((l.drop n).take m, if n + m < l.length then some (n + m) else none) := by
  rw [passing_all, page]
  refine Prod.ext ?_ ?_
  · simp [List.map_take]
  · simp only [List.head?_drop, List.getElem?_zipIdx, List.getElem?_drop, Option.map_map]
    split
    · rename_i h
      simp [List.getElem?_eq_getElem h]
    · rename_i h
      simp [List.getElem?_eq_none (Nat.le_of_not_lt h)]

/-- R113, R116. -/
theorem tareValidity_eq (u : VisitUnit) (today : Nat) (e : TareEntry) : tareValidity u today e =
    if e.uses = 0 then .usedUp else if e.day + u.validity < today then .expired else .valid := by
  have h : u.validity < today - e.day ↔ e.day + u.validity < today := by omega
  simp only [tareValidity, tareAge, h]

/-- A request with text fields passes when it arrives with texts of the character set (R180). -/
theorem Arrives.passes_withTexts {h : Header} {s : State} (ha : Arrives h s) {k : ReqKind}
    (hk : ∀ p, k.permitted p = true) {l : List Text} (hl : l.all textOk = true) :
    Passes (withTexts h l) k s :=
  ⟨ha.1, hk _, by rw [withTexts, ha.2, hl]; rfl⟩

theorem findTare_none {u : VisitUnit} {p : Text} (hp : ∀ e ∈ u.tares, e.plate ≠ p) :
    findTare u p = none :=
  List.find?_eq_none.mpr fun e he => by simpa using hp e he

/-! ### The six reads -/

theorem readCells_permitted (p : Port) : ReqKind.readCells.permitted p = true := by cases p <;> rfl
theorem readClass_permitted (p : Port) : ReqKind.readClass.permitted p = true := by cases p <;> rfl
theorem readGroups_permitted (p : Port) : ReqKind.readGroups.permitted p = true := by cases p <;> rfl
theorem readTares_permitted (p : Port) : ReqKind.readTares.permitted p = true := by cases p <;> rfl
theorem readPrinters_permitted (p : Port) : ReqKind.readPrinters.permitted p = true := by
  cases p <;> rfl
theorem readWatch_permitted (p : Port) : ReqKind.readWatch.permitted p = true := by cases p <;> rfl

section
variable {h : Header} {s : State}

/-- READ_CELLS of the decks that its operand names. -/
theorem readCells_named (ha : Arrives h s) {n : Nat} {ds : List DeckId}
    (hn : decksNamed s.legal n = some ds) : exec (.readCells h n) s =
      .next ((s.received h).sent h 0x10#8 .accepted (.cells (ds.map (cellsPart (s.received h))))) :=
  read_accepted (ha.passes readCells_permitted) (by rw [readCellsReply, received_legal, hn])

/-- READ_CELLS of no deck in use. -/
theorem readCells_unnamed (ha : Arrives h s) {n : Nat} (hn : decksNamed s.legal n = none) :
    exec (.readCells h n) s = .next ((s.received h).refusedWith h 0x10#8 .badField .none) :=
  read_refused (ha.passes readCells_permitted) (by rw [readCellsReply, received_legal, hn]) rfl

/-- READ_CLASS of code 0. -/
theorem readClass_all (ha : Arrives h s) : exec (.readClass h 0) s =
    .next ((s.received h).sent h 0x28#8 .accepted (.classLines (classLines s.check))) :=
  read_accepted (ha.passes readClass_permitted) (by rw [readClassReply, if_pos rfl, received_check])

/-- READ_CLASS of a place of the class table. -/
theorem readClass_place (ha : Arrives h s) (i : Fin 32) : exec (.readClass h (i.val + 1)) s =
    .next (match s.check.classes[i] with
      | some e => (s.received h).sent h 0x28#8 .accepted
          (.classEntry e ((e.groups.map fun g => g.permitted).sum))
      | none => (s.received h).refusedWith h 0x28#8 .notFound .none) := by
  have hp := ha.passes readClass_permitted
  cases hc : s.check.classes[i] with
  | none =>
    exact read_refused hp (by rw [readClassReply, if_neg (by omega), if_neg (by omega),
      received_check, classAt_succ, hc]) rfl
  | some e =>
    exact read_accepted hp (by rw [readClassReply, if_neg (by omega), if_neg (by omega),
      received_check, classAt_succ, hc]; rfl)

/-- READ_CLASS of a code above 32. -/
theorem readClass_above (ha : Arrives h s) {n : Nat} (hn : 32 < n) : exec (.readClass h n) s =
    .next ((s.received h).refusedWith h 0x28#8 .badField .none) :=
  read_refused (ha.passes readClass_permitted)
    (by rw [readClassReply, if_neg (by omega), if_pos hn]) rfl

theorem readGroups_reply (ha : Arrives h s) : exec (.readGroups h) s =
    .next ((s.received h).sent h 0x2B#8 .accepted
      (.groups (summaryOf s.check.table) s.check.table s.check.axleTol s.check.consTol
        (permittedParts s.check.table).1 (permittedParts s.check.table).2)) :=
  read_accepted (ha.passes readGroups_permitted) (by rw [readGroupsReply, received_check])

/-- READ_TARES of a plate with an entry. -/
theorem readTares_found (ha : Arrives h s) {p : Text} {e : TareEntry} (hp : textOk p = true)
    (he : findTare s.visit p = some e) : exec (.readTares h (.plate p)) s =
      .next ((s.received h).sent h 0x3A#8 .accepted
        (.tareLine e (tareValidity s.visit s.clock.day e))) :=
  read_accepted (h := withTexts h [p])
    (ha.passes_withTexts readTares_permitted (by rw [List.all_cons, hp]; rfl))
    (by simp only [readTaresReply, received_visit, received_clock, he])

/-- READ_TARES of a plate without an entry. -/
theorem readTares_absent (ha : Arrives h s) {p : Text} (hp : textOk p = true)
    (he : findTare s.visit p = none) : exec (.readTares h (.plate p)) s =
      .next ((s.received h).refusedWith h 0x3A#8 .notFound .none) :=
  read_refused (h := withTexts h [p])
    (ha.passes_withTexts readTares_permitted (by rw [List.all_cons, hp]; rfl))
    (by simp only [readTaresReply, received_visit, he]) rfl

/-- READ_TARES of a page. -/
theorem readTares_page (ha : Arrives h s) (n : Nat) : exec (.readTares h (.start n)) s =
    .next ((s.received h).sent h 0x3A#8 .accepted
      (.tareLines (((s.visit.tares.drop n).take 8).map (tareLine s))
        (if n + 8 < s.visit.tares.length then some (n + 8) else none))) := by
  have hline : tareLine (s.received h) = tareLine s := by
    funext e
    simp only [tareLine, received_visit, received_clock]
  exact read_accepted (h := withTexts h []) (ha.passes_withTexts readTares_permitted rfl)
    (by simp only [readTaresReply, page_passing_all, received_visit]; exact
      congrArg (fun f => accepted (.tareLines (List.map f _) _)) hline)

theorem readPrinters_reply (ha : Arrives h s) : exec (.readPrinters h) s =
    .next ((s.received h).sent h 0x42#8 .accepted
      (.printers [lineReport s.ticket.lineA, lineReport s.ticket.lineB] s.ticket.copyOn
        s.ticket.interval s.ticket.limit)) :=
  read_accepted (ha.passes readPrinters_permitted) (by rw [readPrintersReply, received_ticket])

theorem readWatch_reply (ha : Arrives h s) : exec (.readWatch h) s =
    .next ((s.received h).sent h 0x48#8 .accepted
      (.watch s.watch.w1 s.watch.w2 s.watch.mode s.watch.flag1 s.watch.flag2 s.watch.matchNumber
        s.watch.armed)) :=
  read_accepted (ha.passes readWatch_permitted) (by rw [readWatchReply, received_watch])

end

/-- Settles O10: each read passes, changes no unit, and its reply is made of the tables as they stand. -/
theorem checkAndTableReads : Obligations.CheckAndTableReads := by
  refine ⟨fun h n s ha => ?cells, ⟨fun h s ha => ?cls, fun h s ha => ?groups⟩,
    fun h s ha => ?tares, fun h s ha => readPrinters_reply ha, fun h s ha => readWatch_reply ha⟩
  case cells =>
    simp only [← cellsPart_received h s]
    refine ⟨fun hn => ?_, fun d hn hd => ?_, fun hn => ?_⟩
    · exact readCells_named ha (by rw [decksNamed, if_pos hn]; rfl)
    · exact readCells_named ha (ds := [d])
        (by rw [decksNamed, if_neg (by omega), hn, deckNumbered_succ hd]; rfl)
    · exact readCells_unnamed ha
        (by rw [decksNamed, if_neg (by omega), deckNumbered_above hn]; rfl)
  case cls => exact ⟨readClass_all ha, readClass_place ha, fun _ hn => readClass_above ha hn⟩
  case groups =>
    refine ⟨_, _, readGroups_reply ha, fun hc => ?_, fun c e hc => ?_⟩ <;>
      rw [permittedParts, hc] <;> exact ⟨rfl, rfl⟩
  case tares =>
    simp only [← tareValidity_eq]
    exact ⟨fun p e hp he => readTares_found ha hp he,
      fun p hp he => readTares_absent ha hp (findTare_none he), fun n => readTares_page ha n⟩

end Sys2Proof.Machine

/-!
The reads of the deck monitors and of the axle sensor unit (O8).
-/

namespace Sys2Proof.Machine

/-! ### READ_DECKS, READ_AXLES (R33, R58) -/

theorem readDecks_permitted (p : Port) : ReqKind.readDecks.permitted p = true := by cases p <;> rfl
theorem readAxles_permitted (p : Port) : ReqKind.readAxles.permitted p = true := by cases p <;> rfl

/-- The operand 0 names every deck in use. -/
theorem decksNamed_all (p : LegalParams) : decksNamed p 0 =
    some ((List.finRange 4).filter fun d => d.val < deckCount p) := rfl

/-- A number from 1 to N names its deck. -/
theorem decksNamed_one {p : LegalParams} {d : DeckId} (hd : d.val < deckCount p) :
    decksNamed p (d.val + 1) = some [d] := by
  rw [decksNamed, if_neg (by omega), deckNumbered_succ hd]
  rfl

/-- A number above N names none. -/
theorem decksNamed_above {p : LegalParams} {n : Nat} (hn : deckCount p < n) :
    decksNamed p n = none := by
  rw [decksNamed, if_neg (by omega), deckNumbered_above hn]
  rfl

section
variable {h : Header} {s : State}

/-- A deck's part reads the deck monitor alone. -/
theorem deckPart_received (h : Header) (s : State) : deckPart (s.received h) = deckPart s := by
  funext d
  simp only [deckPart, received_decks]

theorem readDecks_named (ha : Arrives h s) {n : Nat} {ds : List DeckId}
    (hn : decksNamed s.legal n = some ds) : exec (.readDecks h n) s =
      .next ((s.received h).sent h 0x11#8 .accepted (.decks (ds.map (deckPart s)))) :=
  read_accepted (ha.passes readDecks_permitted)
    (by rw [readDecksReply, received_legal, hn, deckPart_received])

theorem readDecks_unnamed (ha : Arrives h s) {n : Nat} (hn : decksNamed s.legal n = none) :
    exec (.readDecks h n) s = .next ((s.received h).refusedWith h 0x11#8 .badField .none) :=
  read_refused (ha.passes readDecks_permitted) (by rw [readDecksReply, received_legal, hn]) rfl

theorem readAxles_reply (ha : Arrives h s) : exec (.readAxles h) s =
    .next ((s.received h).sent h 0x18#8 .accepted
      (.axles s.axle.map (s.inUse.map (axlesOn s.axle.map)) s.axle.filter
        ((pairsInUse s.legal).map (pairPart s)))) := by
  have hp : pairPart (s.received h) = pairPart s := by
    funext j
    simp only [pairPart, received_axle]
  have hu : (s.received h).inUse = s.inUse := by simp only [State.inUse, received_legal]
  exact read_accepted (ha.passes readAxles_permitted)
    (by rw [readAxlesReply, received_axle, received_legal, hp, hu])

end

/-- Settles O8: the parts of the decks named, and the map with the pairs in use. -/
theorem bridgeReadsReturnState : Obligations.BridgeReadsReturnState := by
  refine ⟨fun h n s ha => ⟨fun hn => ?all, fun d hn hd => ?one, fun hn => ?above⟩,
    fun h s ha => readAxles_reply ha⟩
  case all =>
    subst hn
    exact readDecks_named ha (decksNamed_all s.legal)
  case one =>
    subst hn
    exact readDecks_named ha (decksNamed_one hd)
  case above => exact readDecks_unnamed ha (decksNamed_above hn)

end Sys2Proof.Machine

/-!
What the order side, status changes, shunt measurements and the ends of operations leave of the beam pairs and of
the DECK events: only the deck monitors' notes raise a DECK event, and only the beams change a pair.
-/

namespace Sys2Proof.Machine

/-- The DECK category of each port's event set. -/
def State.deckEvents (s : State) (p : Port) : EventCell := (s.portState p).events[(0 : Fin 9)]

/-- The beam pairs, their filter time and the DECK events. -/
def State.sensing (s : State) : Vector Pair 5 × Nat × (Port → EventCell) :=
  (s.axle.pairs, s.axle.filter, s.deckEvents)

/-! ### The setters and events -/

section
variable (s : State)

@[simp] theorem setOrder_sensing (f : OrderUnit → OrderUnit) : (s.setOrder f).sensing = s.sensing := rfl
@[simp] theorem setCheck_sensing (f : AxleCheck → AxleCheck) : (s.setCheck f).sensing = s.sensing := rfl
@[simp] theorem setVisit_sensing (f : VisitUnit → VisitUnit) : (s.setVisit f).sensing = s.sensing := rfl
@[simp] theorem setTicket_sensing (f : TicketUnit → TicketUnit) :
    (s.setTicket f).sensing = s.sensing := rfl
@[simp] theorem setWatch_sensing (f : WatchUnit → WatchUnit) : (s.setWatch f).sensing = s.sensing := rfl
@[simp] theorem setMap_sensing (f : AxleMap → AxleMap) : (s.setMap f).sensing = s.sensing := rfl
@[simp] theorem setMetro_sensing (f : Metrology → Metrology) : (s.setMetro f).sensing = s.sensing := rfl
@[simp] theorem setMetroDeck_sensing (d : DeckId) (f : MetroDeck → MetroDeck) :
    (s.setMetroDeck d f).sensing = s.sensing := rfl
@[simp] theorem setFront_sensing (d : DeckId) (f : FrontEnd → FrontEnd) :
    (s.setFront d f).sensing = s.sensing := rfl
@[simp] theorem setDeck_sensing (d : DeckId) (f : Deck → Deck) :
    (s.setDeck d f).sensing = s.sensing := rfl

/-- A raised event: a DECK event enters that category, another leaves it (R177). -/
theorem raise_deckEvents (c : Cause) (p : Port) : (s.raise c).deckEvents p =
    if categoryOf c = 0 then withEvent c s (s.deckEvents p) else s.deckEvents p := by
  by_cases h : categoryOf c = 0
  · simp [State.deckEvents, State.portState, State.raise, countEvent, h, withEvent, satInc_eq_min,
      State.now]
  · have hv : ¬(categoryOf c).val = 0 := fun e => h (Fin.ext e)
    simp [State.deckEvents, State.portState, State.raise, countEvent, h, hv]

@[simp] theorem raise_sensing {c : Cause} (h : ¬categoryOf c = 0) :
    (s.raise c).sensing = s.sensing := by
  have he : (s.raise c).deckEvents = s.deckEvents := by
    funext p
    rw [raise_deckEvents, if_neg h]
  simp only [State.sensing, he, State.raise_axle]

theorem raiseAll_sensing {cs : List Cause} (h : ∀ c ∈ cs, ¬categoryOf c = 0) :
    (s.raiseAll cs).sensing = s.sensing := by
  induction cs generalizing s with
  | nil => rfl
  | cons c cs ih =>
    exact (ih (s.raise c) fun x hx => h x (.tail _ hx)).trans (raise_sensing s (h c (.head _)))

@[simp] theorem drive_sensing : s.drive.sensing = s.sensing := by
  have he : s.drive.deckEvents = s.deckEvents := by
    funext p
    simp [State.deckEvents, State.portState, State.drive]
  simp only [State.sensing, he, State.drive_axle]

end

/-! ### The order queue -/

section
variable (s : State)

@[simp] theorem noticeConditions_sensing : (noticeConditions s).sensing = s.sensing := by
  obtain ⟨n, h⟩ := noticeConditions_eq s
  simp [h]

@[simp] theorem raiseLeft_sensing (o : Order) (r : OrderResult) :
    (raiseLeft o r s).sensing = s.sensing := by
  simp [raiseLeft, categoryOf]

@[simp] theorem promoteFrom_sensing (l : List Order) : (promoteFrom l s).sensing = s.sensing := by
  induction l generalizing s with
  | nil => simp [promoteFrom]
  | cons o l ih =>
    unfold promoteFrom
    split
    · simp [activate]
    · simp [ih]

@[simp] theorem leaveActive_sensing (r : OrderResult) : (leaveActive r s).sensing = s.sensing := by
  unfold leaveActive
  split <;> simp [promote]

@[simp] theorem abortCapture_sensing (c : AbortCause) : (abortCapture c s).sensing = s.sensing := by
  rcases abortCapture_cases c s with h | ⟨e, a, -, -, h⟩ <;> simp [h, categoryOf]

@[simp] theorem setActiveState_sensing (st : OrderState) :
    (setActiveState st s).sensing = s.sensing := by
  simp [setActiveState]

@[simp] theorem completeActive_sensing (n : Option Nat) :
    (completeActive n s).sensing = s.sensing := by
  unfold completeActive
  split <;> simp [categoryOf]

@[simp] theorem queueSlip_sensing (e : BridgeEnd) (k : SlipKind) (content : List PrintField) :
    (queueSlip e k content s).sensing = s.sensing := by
  unfold queueSlip
  split <;> simp [categoryOf]

@[simp] theorem finishSurvey_sensing : (finishSurvey s).sensing = s.sensing := by
  unfold finishSurvey
  split <;> simp

@[simp] theorem leaveWithoutPass_sensing : (leaveWithoutPass s).sensing = s.sensing := by
  unfold leaveWithoutPass
  split <;> simp

@[simp] theorem emptyStops_sensing : (emptyStops s).sensing = s.sensing := by
  simp [emptyStops]

@[simp] theorem passEndActive_sensing : (passEndActive s).sensing = s.sensing := by
  unfold passEndActive
  split
  · rfl
  · split <;> simp

@[simp] theorem passEnd_sensing : (passEnd s).sensing = s.sensing := by
  simp [passEnd]

@[simp] theorem axleMoved_sensing : (axleMoved s).sensing = s.sensing := by
  simp [axleMoved]

@[simp] theorem recoverMap_sensing : (recoverMap s).sensing = s.sensing := by
  unfold recoverMap
  split
  · dsimp only
    split <;> simp [categoryOf]
  · rfl

end

/-! ### The weighing step and captures -/

section
variable (s : State)

@[simp] theorem queueTicket_sensing (t : Ticket) (e : BridgeEnd) :
    (queueTicket t e s).sensing = s.sensing := by
  unfold queueTicket
  split <;> simp [categoryOf]

@[simp] theorem reportTicket_sensing (t : Ticket) : (reportTicket t s).sensing = s.sensing := by
  simp [reportTicket, categoryOf]

@[simp] theorem reportClosed_sensing (v : Visit) : (reportClosed v s).sensing = s.sensing := by
  unfold reportClosed
  split <;> simp [disarm]

@[simp] theorem weighingStep_sensing (r : CaptureResult) :
    (weighingStep r s).2.sensing = s.sensing := by
  have h : ∀ c entry u, ∀ x ∈ (evaluate c entry u).notes, ¬categoryOf x = 0 := by
    intro c entry u x hx
    rw [evaluate_notes c entry u x hx]
    decide
  unfold weighingStep
  split
  · rfl
  · split
    · rfl
    · dsimp only
      split
      · simp [holdResult, raiseAll_sensing _ (h _ _ _)]
      · simp [issueResult, raiseAll_sensing _ (h _ _ _)]

@[simp] theorem startCapture_sensing : (startCapture s).sensing = s.sensing := by
  unfold startCapture
  split <;> simp

@[simp] theorem takeStop_sensing (o : Order) (st : Stop) : (takeStop o st s).sensing = s.sensing := by
  unfold takeStop
  split <;> simp

@[simp] theorem returnOrder_sensing (e : OrderCapture) (c : NotCompleted) :
    (returnOrder e c s).sensing = s.sensing := by
  unfold returnOrder
  split <;> simp [categoryOf]

@[simp] theorem weighOrder_sensing (e : OrderCapture) (o : Order) (mass : Int) (m : Marks) :
    (weighOrder e o mass m s).sensing = s.sensing := by
  have hw := weighingStep_sensing s
  unfold weighOrder
  dsimp only
  split <;> next h => simpa [← h, categoryOf] using congrArg (fun x => x.2.sensing) h.symm |>.trans (hw _)

@[simp] theorem surveyStop_sensing (e : OrderCapture) (m : Marks) (reported : Bool) :
    (surveyStop e m reported s).sensing = s.sensing := by
  unfold surveyStop
  dsimp only
  split
  · simp
  · split <;> simp

@[simp] theorem completeStop_sensing (e : OrderCapture) (o : Order) :
    (completeStop e o s).sensing = s.sensing := by
  unfold completeStop
  dsimp only
  split <;> simp [finishCheck]

@[simp] theorem completeCapture_sensing : (completeCapture s).sensing = s.sensing := by
  unfold completeCapture
  split
  · dsimp only
    split <;> simp
  · rfl

@[simp] theorem testOnSample_sensing : (testOnSample s).1.sensing = s.sensing := by
  unfold testOnSample
  split
  · dsimp only
    split <;> simp [countTest]
  · rfl

@[simp] theorem abortOnDeck_sensing (d : DeckId) : (abortOnDeck d s).sensing = s.sensing := by
  unfold abortOnDeck
  split <;> simp

@[simp] theorem captureStep_sensing (endFirst : Bool) (d : DeckId) :
    (captureStep endFirst d s).sensing = s.sensing := by
  unfold captureStep
  dsimp only
  split <;> split <;> simp

@[simp] theorem orderStep_sensing (endFirst : Bool) (d : DeckId) :
    (orderStep endFirst d s).sensing = s.sensing := by
  unfold orderStep
  dsimp only
  split <;> simp

end

/-! ### Statuses and monitors' notes -/

section
variable (s : State)

@[simp] theorem changeStatus_sensing (p : Bool) (d : DeckId) (v : VStatus) (c : StatusCause) :
    (changeStatus p d v c s).sensing = s.sensing := by
  rcases changeStatus_cases p d v c s with ⟨-, h⟩ | ⟨-, m, h, -⟩ <;> simp [h]

@[simp] theorem changeStatusWithEvent_sensing (p : Bool) (d : DeckId) (v : VStatus)
    (c : StatusCause) : (changeStatusWithEvent p d v c s).sensing = s.sensing := by
  unfold changeStatusWithEvent
  dsimp only
  split <;> simp [categoryOf]

@[simp] theorem reportDowngrade_sensing (c : StatusCause) (d : DeckId) :
    (reportDowngrade c d s).sensing = s.sensing := by
  simp [reportDowngrade, categoryOf]

@[simp] theorem frontEndStep_sensing (d : DeckId) (conv : Conversion) :
    (frontEndStep d conv s).sensing = s.sensing := by
  rw [frontEndStep_eq]
  split <;> simp

/-- Only an entry to NOSIGNAL, OVERLOAD, UNDERLOAD or NOISE is reported (R35): a monitor that notes none, and no
cause of the zero logic, raises no DECK event. -/
theorem applyMonitor_sensing {d : DeckId} {x : Monitor}
    (h : ∀ n ∈ x.notes, ∃ m, n = .entered m ∧ raisesEntry m = false) :
    (applyMonitor d x s).sensing = s.sensing := by
  have hf : ∀ (ns : List DeckNote) (s : State),
      (∀ n ∈ ns, ∃ m, n = .entered m ∧ raisesEntry m = false) →
      (ns.foldl (handleNote d) s).sensing = s.sensing := by
    intro ns
    induction ns with
    | nil => intro s _; rfl
    | cons n ns ih =>
      intro s hn
      obtain ⟨m, rfl, hm⟩ := hn n (.head _)
      have hs : handleNote d s (.entered m) = s := by simp [handleNote, hm]
      rw [List.foldl_cons, hs]
      exact ih s fun n hx => hn n (.tail _ hx)
  exact hf _ _ h

end

/-! ### Measurements and operations -/

section
variable (s : State)

@[simp] theorem switchShunt_sensing (d : DeckId) (c : CellId) (on : Bool) :
    (switchShunt d c on s).sensing = s.sensing := rfl

@[simp] theorem setSession_sensing (f : Session → Session) :
    (setSession f s).sensing = s.sensing := rfl

@[simp] theorem clearOperation_sensing : (clearOperation s).sensing = s.sensing := rfl

@[simp] theorem startCheck_sensing (d : DeckId) : (startCheck d s).sensing = s.sensing := rfl

@[simp] theorem schedule_sensing (entered : Bool) (d : DeckId) :
    (schedule entered d s).sensing = s.sensing := by
  unfold schedule
  split <;> simp

/-- The end of a hold enters SETTLING at most (R30). -/
theorem abandonHold_notes (k : Deck) :
    ∀ n ∈ (abandonHold k).notes, ∃ m, n = .entered m ∧ raisesEntry m = false := by
  unfold abandonHold
  dsimp only
  split <;> simp [raisesEntry, isFaultMode]

@[simp] theorem abandonRun_sensing (d : DeckId) : (abandonRun d s).sensing = s.sensing := by
  unfold abandonRun
  split
  · rfl
  · simp [applyMonitor_sensing _ (abandonHold_notes _)]

@[simp] theorem raiseOutcome_sensing (o : Operation) (r : OpOutcome) :
    (raiseOutcome o r s).sensing = s.sensing := by
  simp [raiseOutcome, categoryOf]

@[simp] theorem abortOperation_sensing (c : AbortCause) :
    (abortOperation c s).sensing = s.sensing := by
  unfold abortOperation
  split <;> simp

@[simp] theorem abandonOn_sensing (c : AbortCause) (d : DeckId) :
    (abandonOn c d s).sensing = s.sensing := by
  unfold abandonOn
  split
  · rfl
  · split <;> simp

@[simp] theorem abortTestCapture_sensing (d : DeckId) :
    (abortTestCapture d s).sensing = s.sensing := by
  unfold abortTestCapture
  split <;> simp

@[simp] theorem endRun_sensing (d : DeckId) : (endRun d s).sensing = s.sensing := rfl

@[simp] theorem endRefused_sensing (o : Operation) (c : Status) :
    (endRefused o c s).sensing = s.sensing := by
  simp [endRefused]

@[simp] theorem endAdjusted_sensing (o : Operation) (l : List Int) :
    (endAdjusted o l s).sensing = s.sensing := by
  simp [endAdjusted]

@[simp] theorem takeGross_sensing (d : DeckId) (raw : Vector Int 4) (w : Option Int) :
    (takeGross d raw w s).sensing = s.sensing := by
  cases w with
  | none => rfl
  | some w =>
    simp only [takeGross, testSample]
    split <;> simp [captureSample]

end
end Sys2Proof.Machine

/-!
A transition of a beam pair leaves the other pairs, the filter time and the legal parameters; and the requests ZERO
and SET_BEAM_FILTER (O15).
-/

namespace Sys2Proof.Machine

/-! ### Transitions of a pair (R42, R44, R45) -/

/-- The beam pairs, the DECK events and the legal parameters. -/
def State.sensingLegal (s : State) :
    (Vector Pair 5 × Nat × (Port → EventCell)) × LegalParams := (s.sensing, s.legal)

section
variable (s : State)

theorem abandonOn_legal (c : AbortCause) (d : DeckId) : (abandonOn c d s).legal = s.legal := by
  have ha : ∀ s, (abortOperation c s).legal = s.legal := by
    intro s
    unfold abortOperation
    split <;> simp [State.legal]
  have hr : (abandonRun d s).legal = s.legal := (abandonRun_keeps s d).1
  unfold abandonOn
  split
  · rfl
  · split
    · exact (ha _).trans hr
    · exact hr

theorem abortTestCapture_legal (d : DeckId) : (abortTestCapture d s).legal = s.legal := by
  unfold abortTestCapture abortOperation
  split
  · split <;> simp [State.legal]
  · rfl

/-- A crossing enters MOTION at most (R28). -/
theorem crossDeck_notes (k : Deck) :
    ∀ n ∈ (crossDeck k).notes, ∃ m, n = .entered m ∧ raisesEntry m = false := by
  unfold crossDeck
  split
  · simp
  · split
    · simp [raisesEntry, isFaultMode]
    · split <;> simp

theorem crossOnMap_sensing (j : Boundary) (d : Direction) :
    (crossOnMap j d s).1.sensing = s.sensing := by
  unfold crossOnMap
  split
  · split <;> simp [invalidateMap, categoryOf]
  · rfl

theorem reportCrossing_sensing (a b : Bool) : (reportCrossing a b s).sensing = s.sensing := by
  have ha : ∀ s, (reportApplied s).sensing = s.sensing := by
    intro s
    simp [reportApplied]
  unfold reportCrossing
  dsimp only
  split <;> split <;> simp [ha]

/-- A crossing leaves the pairs, the DECK events and the legal parameters (R47). -/
theorem handleCrossing_sensing (j : Boundary) (d : Direction) :
    (handleCrossing j d s).sensing = s.sensing ∧ (handleCrossing j d s).legal = s.legal := by
  suffices hv : (handleCrossing j d s).sensingLegal = s.sensingLegal from Prod.mk.inj hv
  have h1 : (crossOnMap j d s).1.sensingLegal = s.sensingLegal :=
    Prod.ext (crossOnMap_sensing s j d) (congrArg Metrology.legal (crossOnMap_bridge s j d).2.2.1)
  have h2 := foldl_keeps (view := State.sensingLegal) (f := crossOnDeck) (fun s d =>
    Prod.ext (applyMonitor_sensing s (crossDeck_notes _)) (applyMonitor_legal ..)) (decksBeside s j)
  have h3 := foldl_keeps (view := State.sensingLegal) (f := fun s d => abandonOn .motion d s) (fun s d =>
    Prod.ext (abandonOn_sensing ..) (abandonOn_legal ..)) (decksBeside s j)
  have h4 : ∀ s a b, (reportCrossing a b s).sensingLegal = s.sensingLegal := fun s a b =>
    Prod.ext (reportCrossing_sensing s a b) (congrArg Metrology.legal (reportCrossing_bridge s a b).2.2.1)
  have h5 := foldl_keeps (view := State.sensingLegal) (f := fun s d => abortTestCapture d s) (fun s d =>
    Prod.ext (abortTestCapture_sensing ..) (abortTestCapture_legal ..)) (decksBeside s j)
  unfold handleCrossing
  dsimp only
  rw [h5]
  split
  · rw [h4, h3, h2, h1]
  · rw [h3, h2, h1]

/-- From `s` to `t` the pair `j` has taken its raw state; the other pairs, the filter time and the legal
parameters stand (R42). -/
structure TakesPair (j : Boundary) (s t : State) : Prop where
  legal : t.legal = s.legal
  filter : t.axle.filter = s.axle.filter
  others : ∀ i, i ≠ j → t.axle.pairs[i] = s.axle.pairs[i]
  decoder : t.axle.pairs[j].decoder = some s.axle.pairs[j].raw
  persist : t.axle.pairs[j].persist = none

/-- A pair that is given a decoder state equal to its raw state, and no persistence time. -/
theorem TakesPair.of_setPair {j : Boundary} {f : Pair → Pair}
    (hd : (f s.axle.pairs[j]).decoder = some s.axle.pairs[j].raw)
    (hp : (f s.axle.pairs[j]).persist = none) : TakesPair j s (s.setPair j f) where
  legal := rfl
  filter := rfl
  others i hi := by simp [Fin.val_ne_of_ne hi.symm]
  decoder := by simpa using hd
  persist := by simpa using hp

variable {s}

/-- What follows leaves the pairs and the legal parameters. -/
theorem TakesPair.then_same {j : Boundary} {t u : State} (h : TakesPair j s t)
    (hs : u.sensing = t.sensing) (hl : u.legal = t.legal) : TakesPair j s u := by
  obtain ⟨hp, hf, -⟩ : u.axle.pairs = t.axle.pairs ∧ u.axle.filter = t.axle.filter ∧ _ := by
    simpa [State.sensing] using hs
  exact ⟨hl.trans h.legal, hf.trans h.filter, fun i hi => hp ▸ h.others i hi, hp ▸ h.decoder,
    hp ▸ h.persist⟩

/-- What a transition is handled as (R44, R45). -/
theorem TakesPair.then_decoded {j : Boundary} {t : State} (h : TakesPair j s t) (a b : BeamState)
    (x : Decoded) : TakesPair j s (handleDecoded j a b x t) := by
  cases x with
  | quiet => exact h
  | crossing d =>
    obtain ⟨hs, hl⟩ := handleCrossing_sensing t j d
    exact h.then_same hs hl
  | phaseError =>
    have h1 : TakesPair j s (t.setPair j fun p => { p with errors := satInc 255 p.errors }) :=
      ⟨h.legal, h.filter, fun i hi => by simpa [Fin.val_ne_of_ne hi.symm] using h.others i hi,
        by simpa using h.decoder, by simpa using h.persist⟩
    refine h1.then_same ?_ ?_
    · simp [handleDecoded, handlePhaseError, invalidateMap, categoryOf]
    · exact congrArg Metrology.legal (handlePhaseError_bridge t j a b).2.2.1

variable (s)

/-- A transition is taken by its pair alone. -/
theorem takeTransition_takes (j : Boundary) : TakesPair j s (takeTransition j s) := by
  have hafter : ∀ {t : State}, TakesPair j s t → TakesPair j s (recoverMap (noticeConditions t)) := by
    intro t h
    refine h.then_same (by simp) ?_
    rw [State.legal, (recoverMap_bridge _).2.2.1, (noticeConditions_bridge t).2.2.1]
    rfl
  unfold takeTransition
  dsimp only
  split
  · exact hafter (.of_setPair s rfl rfl)
  · next old ho =>
    split
    · next hr => exact .of_setPair s (by simpa [hr] using ho) rfl
    · exact hafter ((TakesPair.of_setPair s rfl rfl).then_decoded _ _ _)

end

/-! ### ZERO (R37) -/

/-- A request restarts the activity time of a session at most, and leaves its operation. -/
@[simp] theorem received_operation (h : Header) (s : State) :
    (s.received h).operation = s.operation := by
  simp only [State.received, touchSession]
  split
  · simp only [State.operation, State.setMetro_metro, State.setPort_metro]
    cases s.metro.session with
    | none => rfl
    | some r => by_cases hr : r.isOpen = true <;> simp [hr]
  · rfl

@[simp] theorem received_testCapture (h : Header) (s : State) :
    (s.received h).testCapture = s.testCapture := by
  simp only [State.testCapture, received_operation]

/-- The same change of several decks, each named once. -/
theorem foldl_setDeck (f : Deck → Deck) {ds : List DeckId} (hn : ds.Nodup) (s : State) :
    ds.foldl (fun s d => s.setDeck d f) s =
      { s with decks := vgen fun d => if d ∈ ds then f s.decks[d] else s.decks[d] } := by
  induction ds generalizing s with
  | nil =>
    have hd : s.decks = vgen fun d => s.decks[d] := by
      apply Vector.ext
      simp
    simpa using congrArg (fun v => { s with decks := v }) hd
  | cons a ds ih =>
    obtain ⟨ha, hn⟩ := List.nodup_cons.mp hn
    rw [List.foldl_cons, ih hn]
    have hd : (vgen fun d => if d ∈ ds then f (s.setDeck a f).decks[d] else (s.setDeck a f).decks[d]) =
        vgen fun d => if d ∈ a :: ds then f s.decks[d] else s.decks[d] := by
      apply Vector.ext
      intro k hk
      simp only [vgen_getElem, State.setDeck_decks, upd_get, List.mem_cons]
      by_cases hka : (⟨k, hk⟩ : DeckId) = a
      · subst hka
        simp [ha]
      · simp [hka, Ne.symm hka]
    exact congrArg (fun v => { s with decks := v }) hd

/-- R37: a deck that takes a ZERO. -/
theorem takeZero_eq (k : Deck) : takeZero k =
    { k with pendingZero := match k.pendingZero with
        | some left => some left
        | none => some 300 } := by
  unfold takeZero
  cases k.pendingZero <;> rfl

section
variable {h : Header} {n : Nat} {s : State}

/-- ZERO while a capture is in flight. -/
theorem zero_busy (hp : Passes h .zero s) {ds : List DeckId} (hn : decksNamed s.legal n = some ds)
    (hc : s.orderCapture = true ∨ s.testCapture = true) :
    exec (.zero h n) s = .next ((s.received h).refusedWith h 0x13#8 .busy .none) := by
  have hc' : ((s.received h).orderCapture || (s.received h).testCapture) = true := by
    simpa [State.orderCapture] using hc
  exact request_refused hp (by rw [ownZero, received_legal, hn]; exact if_pos hc') rfl

/-- ZERO of no deck in use. -/
theorem zero_unnamed (hp : Passes h .zero s) (hn : decksNamed s.legal n = none) :
    exec (.zero h n) s = .next ((s.received h).refusedWith h 0x13#8 .badField .none) :=
  request_refused hp (by rw [ownZero, received_legal, hn]; rfl) rfl

/-- ZERO of the decks that its operand names. -/
theorem zero_taken (hp : Passes h .zero s) {ds : List DeckId} (hn : decksNamed s.legal n = some ds)
    (hd : ds.Nodup) (ho : s.orderCapture = false) (ht : s.testCapture = false) :
    exec (.zero h n) s = .next (State.sent h 0x13#8 .pending .none
      { s.received h with
        decks := vgen fun d => if d ∈ ds then takeZero s.decks[d] else s.decks[d] }) := by
  have hc : ((s.received h).orderCapture || (s.received h).testCapture) = false := by
    simpa [State.orderCapture] using And.intro ho ht
  refine request_sent hp ?_ rfl
  rw [ownZero, received_legal, hn]
  simp only [hc, Bool.false_eq_true, if_false, foldl_setDeck takeZero hd, received_decks]

/-- The decks that a number up to N names: all for 0, else the one. -/
theorem decksNamed_upTo {p : LegalParams} (hn : n ≤ deckCount p) : ∃ ds : List DeckId,
    decksNamed p n = some ds ∧ ds.Nodup ∧
      ∀ d, d ∈ ds ↔ d.val < deckCount p ∧ (n = 0 ∨ n = d.val + 1) := by
  rcases Nat.eq_zero_or_pos n with h0 | h0
  · subst h0
    exact ⟨_, decksNamed_all p, (List.nodup_finRange 4).filter _, fun d => by simp⟩
  · have hle : deckCount p ≤ 4 := by unfold deckCount; split <;> omega
    obtain ⟨d, rfl⟩ : ∃ d : DeckId, n = d.val + 1 := ⟨⟨n - 1, by omega⟩, by simp; omega⟩
    exact ⟨[d], decksNamed_one (by omega), List.nodup_singleton d, fun e => by
      rw [List.mem_singleton, Fin.ext_iff]; omega⟩

end

/-! ### SET_BEAM_FILTER (R43) -/

/-- The persistence time of a pair has reached the filter time. -/
def persisted (s : State) (j : Boundary) : Bool :=
  s.axle.pairs[j].persist.any fun x => s.axle.filter ≤ x

/-- R43, at one boundary. -/
def takeIfDue (s : State) (j : Boundary) : State :=
  if persisted s j then filterExpired j s else s

theorem takeDue_eq (s : State) : takeDue s = (List.finRange 5).foldl takeIfDue s := by
  unfold takeDue
  congr 1
  funext s j
  unfold takeIfDue persisted
  cases s.axle.pairs[j].persist <;> simp

/-- A pair in use that is due is taken. -/
theorem takeIfDue_taken {s : State} {j : Boundary} (hu : pairInUse s.legal j = true)
    (hd : persisted s j = true) : TakesPair j s (takeIfDue s j) := by
  have hp : s.axle.pairs[j].persist.isSome = true := by
    unfold persisted at hd
    cases h : s.axle.pairs[j].persist <;> simp_all
  rw [takeIfDue, if_pos hd, filterExpired, if_pos ⟨hu, hp⟩]
  exact takeTransition_takes s j

/-- A pair not in use, or not due, leaves the state. -/
theorem takeIfDue_other {s : State} {j : Boundary}
    (h : ¬(pairInUse s.legal j = true ∧ persisted s j = true)) : takeIfDue s j = s := by
  unfold takeIfDue filterExpired
  split
  · rw [if_neg]
    rintro ⟨hu, -⟩
    exact h ⟨hu, ‹_›⟩
  · rfl

/-- Each pair of a list that is in use and due is taken; every other pair stands. -/
theorem foldl_takeIfDue {l : List Boundary} (hn : l.Nodup) (s : State) :
    (l.foldl takeIfDue s).legal = s.legal ∧ (l.foldl takeIfDue s).axle.filter = s.axle.filter ∧
      ∀ j, if j ∈ l ∧ pairInUse s.legal j = true ∧ persisted s j = true then
          (l.foldl takeIfDue s).axle.pairs[j].decoder = some s.axle.pairs[j].raw ∧
            (l.foldl takeIfDue s).axle.pairs[j].persist = none
        else (l.foldl takeIfDue s).axle.pairs[j] = s.axle.pairs[j] := by
  induction l generalizing s with
  | nil => simp
  | cons i l ih =>
    obtain ⟨hi, hn⟩ := List.nodup_cons.mp hn
    rw [List.foldl_cons]
    by_cases h : pairInUse s.legal i = true ∧ persisted s i = true
    · have ht := takeIfDue_taken h.1 h.2
      obtain ⟨hl, hf, hj⟩ := ih hn (takeIfDue s i)
      refine ⟨hl.trans ht.legal, hf.trans ht.filter, fun j => ?_⟩
      by_cases hij : j = i
      · subst hij
        have hj' := hj j
        rw [if_neg (fun hh => hi hh.1)] at hj'
        rw [if_pos ⟨List.mem_cons_self, h⟩, hj']
        exact ⟨ht.decoder, ht.persist⟩
      · have hp : persisted (takeIfDue s i) j = persisted s j := by
          simp only [persisted, ht.others j hij, ht.filter]
        simpa only [List.mem_cons, hij, false_or, ht.legal, hp, ht.others j hij] using hj j
    · rw [takeIfDue_other h]
      obtain ⟨hl, hf, hj⟩ := ih hn s
      refine ⟨hl, hf, fun j => ?_⟩
      have hmem : (j ∈ i :: l ∧ pairInUse s.legal j = true ∧ persisted s j = true) ↔
          (j ∈ l ∧ pairInUse s.legal j = true ∧ persisted s j = true) := by
        rw [List.mem_cons]
        constructor
        · rintro ⟨rfl | hl, hd⟩
          · exact absurd hd h
          · exact ⟨hl, hd⟩
        · exact fun hh => ⟨.inr hh.1, hh.2⟩
      simpa only [hmem] using hj j

section
variable {h : Header} {ms : Nat} {s : State}

/-- The filter time in force, then the due transitions. -/
theorem setBeamFilter_accepted (hp : Passes h .setBeamFilter s) : exec (.setBeamFilter h ms) s =
    .next ((takeDue ((s.received h).setAxle fun a => { a with filter := min 50 ms })).sent h 0x19#8
      .accepted (.taken [min 50 ms])) := by
  have hv : clamp 0 50 ms = min 50 ms := by rw [clamp_eq 0 50 ms (by omega)]; omega
  exact request_sent hp (by simp only [ownSetBeamFilter, hv]; rfl) rfl

/-- With no persistence time that has reached the filter time nothing is taken. -/
theorem takeDue_none {s : State} (h : ∀ j, persisted s j = false) : takeDue s = s := by
  rw [takeDue_eq]
  have hf : ∀ l : List Boundary, l.foldl takeIfDue s = s := by
    intro l
    induction l with
    | nil => rfl
    | cons j l ih => rw [List.foldl_cons, takeIfDue_other (by simp [h j]), ih]
  exact hf _

end

/-- Settles O15: ZERO of the decks named, and the pairs whose persistence time has reached the new filter time. -/
theorem zeroAndBeamFilterRequests : Obligations.ZeroAndBeamFilterRequests := by
  refine ⟨fun h n s hp => ⟨fun hn ho ht => ?taken, fun hn hc => ?busy, fun hn => ?above⟩,
    fun h ms s hp => ⟨fun hlt => ?none, ?due⟩⟩
  case taken =>
    obtain ⟨ds, hds, hnd, hmem⟩ := decksNamed_upTo hn
    have hz := zero_taken hp hds hnd ho ht
    simp only [hmem, takeZero_eq] at hz
    exact hz
  case busy =>
    obtain ⟨ds, hds, -⟩ := decksNamed_upTo hn
    exact zero_busy hp hds hc
  case above => exact zero_unnamed hp (decksNamed_above hn)
  case none =>
    rw [setBeamFilter_accepted hp, takeDue_none]
    intro j
    have hj := hlt j
    simp only [persisted, State.setAxle_axle, received_axle]
    cases hx : s.axle.pairs[j].persist with
    | none => rfl
    | some x =>
      have := hj x hx
      simp only [Option.any_some, decide_eq_false_iff_not]
      omega
  case due =>
    obtain ⟨-, hf, hj⟩ := foldl_takeIfDue (List.nodup_finRange 5)
      ((s.received h).setAxle fun a => { a with filter := min 50 ms })
    rw [← takeDue_eq] at hf hj
    refine ⟨_, setBeamFilter_accepted hp, hf, fun j hu => ?_⟩
    have hu' : pairInUse ((s.received h).setAxle fun a => { a with filter := min 50 ms }).legal j =
        true := by
      rw [show State.legal (State.setAxle _ _) = _ from received_legal h s]
      exact decide_eq_true hu
    have hjs := hj j
    simp only [List.mem_finRange, true_and, hu', persisted, State.setAxle_axle, received_axle] at hjs
    cases hx : s.axle.pairs[j].persist with
    | none =>
      simp only [hx, Option.any_none, Bool.false_eq_true, if_false] at hjs
      exact hjs
    | some x =>
      simp only [hx, Option.any_some, decide_eq_true_eq] at hjs ⊢
      exact hjs

end Sys2Proof.Machine

/-!
The classification of a valid sample: the limits and the window as a claim states them, the classification by its
branches, and what an entry marks.
-/

namespace Sys2Proof.Machine

/-! ### Parameters of a valid record (R15, R186) -/

/-- The parameters that a valid record vouches for, in their ranges (R149). -/
structure RecordParams (p : LegalParams) (d : DeckId) : Prop where
  window : 8 ≤ p.window
  stabBand : 1 ≤ p.stabBand
  interval : 10 ≤ p.interval
  maxD : 5000 ≤ p.maxD[d]

theorem RecordParams.of_deckParams {p : LegalParams} {d : DeckId} (h : deckParamsBad p d = false) :
    RecordParams p d := by
  have hb : ∀ i ∈ bridgeWideParams, inRange p i = true := by
    have hb : bridgeWideBad p = false := (Bool.or_eq_false_iff.mp h).1
    have hb : (bridgeWideParams.all (inRange p) && wholeSetOk p) = true := by
      simpa [bridgeWideBad] using hb
    exact List.all_eq_true.mp (Bool.and_eq_true_iff.mp hb).1
  have hw : 8 ≤ p.window ∧ p.window ≤ 64 :=
    of_decide_eq_true (hb .window (by simp [bridgeWideParams]))
  have hs : 1 ≤ p.stabBand ∧ p.stabBand ≤ 3 :=
    of_decide_eq_true (hb .stabBand (by simp [bridgeWideParams]))
  have he : p.interval = 10 ∨ p.interval = 20 ∨ p.interval = 50 ∨ p.interval = 100 :=
    of_decide_eq_true (hb .interval (by simp [bridgeWideParams]))
  have hd : 5000 ≤ p.maxD[d] ∧ p.maxD[d] ≤ 60000 :=
    of_decide_eq_true (hb (.maxD d) (by simp [bridgeWideParams, maxDParams]))
  exact ⟨hw.1, hs.1, by omega, hd.1⟩

/-- A record that is not invalid comes from a conversion without errors, under parameters in range. -/
theorem recordOf_not_invalid {p : LegalParams} {d : DeckId} {f : FrontEnd} {conv : Conversion}
    (h : recordOf p d f conv ≠ .invalid) : cellErrors conv = 0 ∧ RecordParams p d := by
  by_contra hn
  exact h (recordOf_invalid _ _ _ _ fun hc => hn ⟨hc.1, .of_deckParams hc.2⟩)

/-! ### The spread of the window (R20, R25) -/

theorem foldl_max_le (l : List Int) (a c : Int) : l.foldl max a ≤ c ↔ a ≤ c ∧ ∀ x ∈ l, x ≤ c := by
  induction l generalizing a with
  | nil => simp
  | cons b l ih => simp [ih, and_assoc]

theorem le_foldl_min (l : List Int) (a c : Int) : c ≤ l.foldl min a ↔ c ≤ a ∧ ∀ x ∈ l, c ≤ x := by
  induction l generalizing a with
  | nil => simp
  | cons b l ih => simp [ih, and_assoc]

/-- The spread of a window that is not empty: no two entries lie further apart. -/
theorem windowSpread_le {l : List Int} (h : l ≠ []) (c : Int) :
    windowSpread l ≤ c ↔ ∀ a ∈ l, ∀ b ∈ l, a - b ≤ c := by
  obtain ⟨x, l, rfl⟩ := List.exists_cons_of_ne_nil h
  have hmax : ∀ c, l.foldl max x ≤ c ↔ ∀ a ∈ x :: l, a ≤ c := by simp [foldl_max_le]
  have hmin : ∀ c, c ≤ l.foldl min x ↔ ∀ b ∈ x :: l, c ≤ b := by simp [le_foldl_min]
  calc windowSpread (x :: l) ≤ c
      ↔ l.foldl max x ≤ c + l.foldl min x := by simp only [windowSpread]; omega
    _ ↔ ∀ a ∈ x :: l, a - c ≤ l.foldl min x := by
      rw [hmax]
      exact forall₂_congr fun a _ => by omega
    _ ↔ ∀ a ∈ x :: l, ∀ b ∈ x :: l, a - b ≤ c := by
      refine forall₂_congr fun a _ => ?_
      rw [hmin]
      exact forall₂_congr fun b _ => by omega

/-- The window settles: it is full, and spread within the stability band (R25). -/
abbrev Settles (p : LegalParams) (win : List Int) : Prop :=
  p.window ≤ win.length ∧ ∀ a ∈ win, ∀ b ∈ win, a - b ≤ p.stabBand * p.interval * 1000

theorem settles_iff {p : LegalParams} (hp : 1 ≤ p.window) (k : Deck) :
    (windowFull p k = true ∧ windowSpread k.window ≤ stabBandGrams p) ↔ Settles p k.window := by
  have hf : windowFull p k = true ↔ p.window ≤ k.window.length := by simp [windowFull]
  rw [hf]
  refine and_congr_right fun hl => windowSpread_le ?_ _
  rintro h0
  rw [h0, List.length_nil] at hl
  omega

/-! ### The limits (R23, R24, R26) -/

section
variable (p : LegalParams) (d : DeckId)

/-- A valid sample above the overload limit after another one. -/
abbrev Overloads (w : Int) (k : Deck) : Prop :=
  (p.maxD[d] + 9 * p.interval) * 1000 < w ∧ 1 ≤ k.overRun

/-- A valid sample below the underload limit that completes a run of S. -/
abbrev Underloads (w : Int) (k : Deck) : Prop :=
  w < -(20 * p.interval * 1000) ∧ p.window ≤ k.underRun + 1

theorem underloadLimit_eq : underloadLimit p = -(20 * p.interval * 1000) := by
  unfold underloadLimit
  omega

theorem countRuns_over (w : Int) (k : Deck) :
    2 ≤ (countRuns p d w k).overRun ↔ Overloads p d w k := by
  simp only [countRuns, overloadLimit, satInc_eq_min, Overloads]
  split <;> omega

theorem countRuns_under {p : LegalParams} (hp : 1 ≤ p.window) (d : DeckId) (w : Int) (k : Deck) :
    p.window ≤ (countRuns p d w k).underRun ↔ Underloads p w k := by
  simp only [countRuns, underloadLimit_eq, satInc_eq_min, Underloads]
  split <;> omega

/-! ### The classification, branch by branch (R22 to R26) -/

variable (g w : Int) (x : Monitor)

theorem classifyValid_noSignal (h : x.deck.mode = .noSignal) : classifyValid p d g w x =
    if windowFull p x.deck then x.enter .settling else x := by
  simp only [classifyValid, h]

theorem classifyValid_overload (h : x.deck.mode = .overload) : classifyValid p d g w x =
    if (p.maxD[d] + 9 * p.interval) * 1000 < w then x.mod (countRuns p d w)
    else (x.mod (countRuns p d w)).enter .settling := by
  simp only [classifyValid, h]
  rfl

theorem classifyValid_underload (h : x.deck.mode = .underload) : classifyValid p d g w x =
    if w < -(20 * p.interval * 1000) then x.mod (countRuns p d w)
    else (x.mod (countRuns p d w)).enter .settling := by
  simp only [classifyValid, h, underloadLimit_eq]

variable {p d g w x}

/-- R23: outside the fault states a second sample above the limit. -/
theorem classifyValid_overloads (hf : isFaultMode x.deck.mode = false) (ho : Overloads p d w x.deck) :
    classifyValid p d g w x = ((x.mod (countRuns p d w)).mod dropReference).enter .overload := by
  have h2 : 2 ≤ (x.mod (countRuns p d w)).deck.overRun := (countRuns_over p d w x.deck).mpr ho
  cases hm : x.deck.mode <;> simp [isFaultMode, hm] at hf <;>
    simp only [classifyValid, hm, h2, if_true]

/-- R24: outside the fault states the sample that completes a run below the limit. -/
theorem classifyValid_underloads (hp : 1 ≤ p.window) (hf : isFaultMode x.deck.mode = false)
    (ho : ¬Overloads p d w x.deck) (hu : Underloads p w x.deck) : classifyValid p d g w x =
      ((x.mod (countRuns p d w)).mod dropReference).enter .underload := by
  have h2 : ¬2 ≤ (x.mod (countRuns p d w)).deck.overRun :=
    fun h => ho ((countRuns_over p d w x.deck).mp h)
  have h3 : p.window ≤ (x.mod (countRuns p d w)).deck.underRun :=
    (countRuns_under hp d w x.deck).mpr hu
  cases hm : x.deck.mode <;> simp [isFaultMode, hm] at hf <;>
    simp only [classifyValid, hm, h2, h3, if_true, if_false]

/-- R25, R26: within the limits a settled deck has the band test, another the settling test. -/
theorem classifyValid_within (hp : 1 ≤ p.window) (hf : isFaultMode x.deck.mode = false)
    (ho : ¬Overloads p d w x.deck) (hu : ¬Underloads p w x.deck) : classifyValid p d g w x =
      if isSettled x.deck.mode then bandTest p g (x.mod (countRuns p d w))
      else settleTest p (x.mod (countRuns p d w)) := by
  have h2 : ¬2 ≤ (x.mod (countRuns p d w)).deck.overRun :=
    fun h => ho ((countRuns_over p d w x.deck).mp h)
  have h3 : ¬p.window ≤ (x.mod (countRuns p d w)).deck.underRun :=
    fun h => hu ((countRuns_under hp d w x.deck).mp h)
  cases hm : x.deck.mode <;> simp [isFaultMode, hm] at hf <;>
    simp only [classifyValid, hm, h2, h3, if_false]

/-- The three fault states, and the others. -/
theorem faultMode_cases (m : DeckMode) :
    m = .noSignal ∨ m = .overload ∨ m = .underload ∨ isFaultMode m = false := by
  cases m <;> simp [isFaultMode]

theorem settled_not_fault {m : DeckMode} (h : isSettled m = true) : isFaultMode m = false := by
  cases m <;> simp_all [isSettled, isFaultMode]

theorem settledMode_eq (p : LegalParams) (k : Deck) : settledMode p k =
    if ((k.window.sum - p.window * k.zeroOffset).natAbs : Int) ≤
      p.window * (p.emptyBand * p.interval * 1000) then .empty else .steady := by
  unfold settledMode withinEmptyBand emptyBandGrams
  simp

theorem settledMode_settled (p : LegalParams) (k : Deck) : isSettled (settledMode p k) = true := by
  unfold settledMode
  split <;> rfl

/-! ### Entries (R29, R32) -/

/-- A monitor that has noted nothing and left state, marks and last settled state of the deck. -/
structure SameMarks (k : Deck) (x : Monitor) : Prop where
  notes : x.notes = []
  mode : x.deck.mode = k.mode
  entryNumber : x.deck.entryNumber = k.entryNumber
  history : x.deck.history = k.history
  lastSettled : x.deck.lastSettled = k.lastSettled

/-- A monitor that has entered no state, or one state, which is another. -/
def EntersOnce (k : Deck) (x : Monitor) : Prop :=
  ∃ y, SameMarks k y ∧ (x = y ∨ ∃ m, m ≠ k.mode ∧ x = y.enter m)

/-- What an entry marks (R32). -/
structure EntryMarks (k : Deck) (x : Monitor) : Prop where
  notes : x.notes = if x.deck.mode = k.mode then [] else [.entered x.deck.mode]
  entryNumber : x.deck.entryNumber =
    if x.deck.mode = k.mode then k.entryNumber else k.entryNumber + 1
  history : x.deck.history = if x.deck.mode = k.mode then k.history
    else k.history.set (modeNumber x.deck.mode) (some (k.entryNumber + 1))
  lastSettled : x.deck.lastSettled =
    if x.deck.mode ≠ k.mode ∧ isSettled x.deck.mode = true then some x.deck.mode else k.lastSettled

theorem EntersOnce.marks {k : Deck} {x : Monitor} (h : EntersOnce k x) : EntryMarks k x := by
  obtain ⟨y, hy, rfl | ⟨m, hm, rfl⟩⟩ := h
  · exact ⟨by simp [hy.mode, hy.notes], by simp [hy.mode, hy.entryNumber],
      by simp [hy.mode, hy.history], by simp [hy.mode, hy.lastSettled]⟩
  · have hne : ¬(y.enter m).deck.mode = k.mode := hm
    refine ⟨?_, ?_, ?_, ?_⟩
    · rw [if_neg hne, (enter_keeps m y).2.2.2, hy.notes]
      rfl
    · rw [if_neg hne, ← hy.entryNumber]
      rfl
    · rw [if_neg hne, ← hy.entryNumber, ← hy.history]
      rfl
    · rw [← hy.lastSettled]
      simp [Monitor.enter, Monitor.mod, Monitor.note, enterMode, hm]

/-- A change of the deck that leaves state and marks. -/
theorem SameMarks.mod {k : Deck} {x : Monitor} (h : SameMarks k x) {f : Deck → Deck}
    (hf : ((f x.deck).mode, (f x.deck).entryNumber, (f x.deck).history, (f x.deck).lastSettled) =
      (x.deck.mode, x.deck.entryNumber, x.deck.history, x.deck.lastSettled)) :
    SameMarks k (x.mod f) := by
  simp only [Prod.mk.injEq] at hf
  obtain ⟨hm, he, hh, hl⟩ := hf
  exact ⟨h.notes, hm.trans h.mode, he.trans h.entryNumber, hh.trans h.history,
    hl.trans h.lastSettled⟩

theorem SameMarks.stays {k : Deck} {x : Monitor} (h : SameMarks k x) : EntersOnce k x :=
  ⟨x, h, .inl rfl⟩

theorem SameMarks.enters {k : Deck} {x : Monitor} (h : SameMarks k x) {m : DeckMode}
    (hm : m ≠ k.mode) : EntersOnce k (x.enter m) := ⟨x, h, .inr ⟨m, hm, rfl⟩⟩

/-- R26: the band test enters NOISE or MOTION at most. -/
theorem bandTest_entersOnce {k : Deck} (hs : isSettled k.mode = true) (h : SameMarks k x) :
    EntersOnce k (bandTest p g x) := by
  unfold bandTest
  dsimp only
  split
  · refine (h.mod rfl).enters ?_
    split <;> rintro e <;> rw [← e] at hs <;> exact absurd hs (by decide)
  · exact (h.mod rfl).stays

/-- R25: the settling test enters EMPTY or STEADY at most. -/
theorem settleTest_entersOnce {k : Deck} (hs : isSettled k.mode = false) (h : SameMarks k x) :
    EntersOnce k (settleTest p x) := by
  unfold settleTest
  dsimp only
  split
  · refine (h.mod rfl).enters ?_
    intro e
    rw [← e, settledMode_settled] at hs
    exact nomatch hs
  · exact h.stays

/-- A valid sample makes at most one entry, to another state (R23 to R26). -/
theorem classifyValid_entersOnce (hp : 1 ≤ p.window) {k : Deck} (h : SameMarks k x) :
    EntersOnce k (classifyValid p d g w x) := by
  have hruns : SameMarks k (x.mod (countRuns p d w)) := h.mod rfl
  have hdrop : SameMarks k ((x.mod (countRuns p d w)).mod dropReference) := hruns.mod rfl
  rcases faultMode_cases x.deck.mode with hm | hm | hm | hf
  · rw [classifyValid_noSignal _ _ _ _ _ hm]
    split
    · exact h.enters (by rw [← h.mode, hm]; decide)
    · exact h.stays
  · rw [classifyValid_overload _ _ _ _ _ hm]
    split
    · exact hruns.stays
    · exact hruns.enters (by rw [← h.mode, hm]; decide)
  · rw [classifyValid_underload _ _ _ _ _ hm]
    split
    · exact hruns.stays
    · exact hruns.enters (by rw [← h.mode, hm]; decide)
  · by_cases ho : Overloads p d w x.deck
    · rw [classifyValid_overloads hf ho]
      exact hdrop.enters fun e => by rw [h.mode, ← e] at hf; exact absurd hf (by decide)
    · by_cases hu : Underloads p w x.deck
      · rw [classifyValid_underloads hp hf ho hu]
        exact hdrop.enters fun e => by rw [h.mode, ← e] at hf; exact absurd hf (by decide)
      · rw [classifyValid_within hp hf ho hu, h.mode]
        split
        · next hs => exact bandTest_entersOnce hs hruns
        · next hs => exact settleTest_entersOnce (by simpa using hs) hruns

/-- An invalid record enters NOSIGNAL at most (R22). -/
theorem classifyInvalid_entersOnce (k : Deck) : EntersOnce k (classifyInvalid (.of k)) := by
  have h : SameMarks k (.of k) := ⟨rfl, rfl, rfl, rfl, rfl⟩
  unfold classifyInvalid
  dsimp only
  split
  · exact (h.mod rfl).stays
  · next hm => exact (h.mod rfl).enters (Ne.symm hm)

/-! ### What the classification leaves -/

/-- T with what stands by it, the tracking run and the pending ZERO (R36 to R40). -/
def Deck.zeroPart (k : Deck) : Int × Bool × Bool × Bool × Nat × Option Nat :=
  (k.zeroOffset, k.zeroSet, k.powerUpSpent, k.zeroLimit, k.trackRun, k.pendingZero)

/-- The window and the zero. -/
def Deck.zeroFields (k : Deck) : List Int × Int × Bool × Bool × Bool × Nat × Option Nat :=
  (k.window, k.zeroPart)

/-- The classification of a valid sample leaves the window and the zero. -/
theorem classifyValid_zeroFields :
    (classifyValid p d g w x).deck.zeroFields = x.deck.zeroFields := by
  have hband : ∀ y, (bandTest p g y).deck.zeroFields = y.deck.zeroFields := by
    intro y
    unfold bandTest
    dsimp only
    split <;> rfl
  have hsettle : ∀ y, (settleTest p y).deck.zeroFields = y.deck.zeroFields := by
    intro y
    unfold settleTest
    dsimp only
    split <;> rfl
  unfold classifyValid
  split
  · split <;> rfl
  · dsimp only
    split <;> rfl
  · dsimp only
    split <;> rfl
  · dsimp only
    split
    · rfl
    · split
      · rfl
      · split
        · exact hband _
        · exact hsettle _

/-- In a fault state the motion-entry count stands. -/
theorem classifyValid_fault_motionCount (hf : isFaultMode x.deck.mode = true) :
    (classifyValid p d g w x).deck.motionCount = x.deck.motionCount := by
  rcases faultMode_cases x.deck.mode with hm | hm | hm | hf'
  · rw [classifyValid_noSignal _ _ _ _ _ hm]
    split <;> rfl
  · rw [classifyValid_overload _ _ _ _ _ hm]
    split <;> rfl
  · rw [classifyValid_underload _ _ _ _ _ hm]
    split <;> rfl
  · rw [hf] at hf'
    exact nomatch hf'

/-- R25: a deck that settles. -/
theorem settleTest_settles (hp : 1 ≤ p.window) (h : Settles p x.deck.window) : settleTest p x =
    (x.mod fun k => { k with
      reference := some k.window.sum
      settledRun := 1
      motionCount := if k.mode = .motion then k.motionCount else 0 }).enter
        (settledMode p x.deck) := by
  unfold settleTest
  dsimp only
  rw [if_pos ((settles_iff hp x.deck).mpr h)]

theorem settleTest_waits (hp : 1 ≤ p.window) (h : ¬Settles p x.deck.window) :
    settleTest p x = x := by
  unfold settleTest
  dsimp only
  rw [if_neg (fun hh => h ((settles_iff hp x.deck).mp hh))]

/-- A sample leaves the band around the reference level (R26). -/
abbrev Leaves (p : LegalParams) (g ref : Int) : Prop :=
  p.window * (p.stabBand * p.interval * 1000) < ((p.window * g - ref).natAbs : Int)

theorem bandTest_eq {ref : Int} (hr : x.deck.reference = some ref) : bandTest p g x =
    if Leaves p g ref then
      (x.mod fun k => { dropReference k with motionCount := min 16 (x.deck.motionCount + 1) }).enter
        (if 15 ≤ x.deck.motionCount then .noise else .motion)
    else x.mod fun k => { k with
      settledRun := min p.window.toNat (k.settledRun + 1)
      motionCount := if p.window ≤ (min p.window.toNat (k.settledRun + 1) : Nat) then 0
        else k.motionCount } := by
  have hl : leavesBand p x.deck g = decide (Leaves p g ref) := by
    simp only [leavesBand, hr, Option.getD_some, stabBandGrams]
  have hm : (min 16 (x.deck.motionCount + 1) = 16) = (15 ≤ x.deck.motionCount) := by
    rw [eq_iff_iff]
    omega
  unfold bandTest
  simp only [hl, decide_eq_true_eq, satInc_eq_min, hm]

end
end Sys2Proof.Machine

/-!
The zero logic of a sample (R36 to R40): what each of its steps leaves of the classification, and what each does
to T and its marks.
-/

namespace Sys2Proof.Machine

/-! ### What a step of the zero logic leaves -/

/-- What the classification works out besides the state. -/
def Deck.levels (k : Deck) : List Int × Option Int × Nat × Nat :=
  (k.window, k.reference, k.settledRun, k.motionCount)

/-- A settled deck is EMPTY or STEADY as its window stands against T (R25, R38). -/
def SettledByT (p : LegalParams) (k : Deck) : Prop :=
  isSettled k.mode = true → k.mode = settledMode p k

/-- What a step of the zero logic leaves from `x` to `y`: a settled deck stays settled, by its T; an unsettled one
keeps its state; an entry marks the state that it leads to. -/
structure ZeroKeeps (p : LegalParams) (x y : Monitor) : Prop where
  levels : y.deck.levels = x.deck.levels
  settled : isSettled y.deck.mode = isSettled x.deck.mode
  unsettled : isSettled x.deck.mode = false → y.deck.mode = x.deck.mode
  byT : SettledByT p x.deck → SettledByT p y.deck
  marked : (y.deck.mode = x.deck.mode ∧ y.deck.history = x.deck.history ∧
      y.deck.entryNumber = x.deck.entryNumber) ∨
    y.deck.history[modeNumber y.deck.mode] = some y.deck.entryNumber

/-- Only the zero's own fields differ. -/
def ZeroOnly (k k' : Deck) : Prop :=
  ∃ t zs pu zl tr pz, k' = { k with
    zeroOffset := t, zeroSet := zs, powerUpSpent := pu, zeroLimit := zl, trackRun := tr
    pendingZero := pz }

section
variable {p : LegalParams} {x y : Monitor}

theorem ZeroKeeps.refl (p : LegalParams) (x : Monitor) : ZeroKeeps p x x :=
  ⟨rfl, rfl, fun _ => rfl, id, .inl ⟨rfl, rfl, rfl⟩⟩

theorem ZeroKeeps.trans {z : Monitor} (h : ZeroKeeps p x y) (h' : ZeroKeeps p y z) :
    ZeroKeeps p x z where
  levels := h'.levels.trans h.levels
  settled := h'.settled.trans h.settled
  unsettled hx := (h'.unsettled (h.settled.trans hx)).trans (h.unsettled hx)
  byT hx := h'.byT (h.byT hx)
  marked := by
    rcases h'.marked with ⟨hm', hh', he'⟩ | hmark
    · rcases h.marked with ⟨hm, hh, he⟩ | hmark
      · exact .inl ⟨hm'.trans hm, hh'.trans hh, he'.trans he⟩
      · refine .inr ?_
        simp only [hm', hh', he']
        exact hmark
    · exact .inr hmark

/-- A step that leaves T. -/
theorem ZeroKeeps.of_same (h : ZeroOnly x.deck y.deck) (ht : y.deck.zeroOffset = x.deck.zeroOffset) :
    ZeroKeeps p x y := by
  obtain ⟨t, zs, pu, zl, tr, pz, h⟩ := h
  have hs : settledMode p y.deck = settledMode p x.deck := by
    unfold settledMode withinEmptyBand
    rw [ht, h]
  have hm : y.deck.mode = x.deck.mode := by rw [h]
  refine ⟨by rw [h]; rfl, by rw [hm], fun _ => hm, fun hx hy => ?_, .inl ⟨hm, by rw [h], by rw [h]⟩⟩
  rw [hs, hm]
  exact hx (hm ▸ hy)

/-- R38: the deck of a new T is EMPTY or STEADY anew; the change is an entry. -/
theorem reclassify_cases (p : LegalParams) (y : Monitor) :
    (reclassify p y = y ∧ SettledByT p y.deck) ∨
      (isSettled y.deck.mode = true ∧ reclassify p y = y.enter (settledMode p y.deck)) := by
  unfold reclassify
  by_cases hs : isSettled y.deck.mode = true
  · by_cases hm : settledMode p y.deck = y.deck.mode
    · exact .inl ⟨if_neg fun h => h.2 hm, fun _ => hm.symm⟩
    · exact .inr ⟨hs, if_pos ⟨hs, hm⟩⟩
  · exact .inl ⟨if_neg fun h => hs h.1, fun h => absurd h hs⟩

/-- A settled deck reclassified is in the state that its T gives. -/
theorem reclassify_mode (hs : isSettled y.deck.mode = true) :
    (reclassify p y).deck.mode = settledMode p y.deck := by
  rcases reclassify_cases p y with ⟨h, hb⟩ | ⟨-, h⟩ <;> rw [h]
  · exact hb hs
  · rfl

@[simp] theorem reclassify_zeroPart (p : LegalParams) (y : Monitor) :
    (reclassify p y).deck.zeroOffset = y.deck.zeroOffset ∧
      (reclassify p y).deck.zeroSet = y.deck.zeroSet ∧
      (reclassify p y).deck.powerUpSpent = y.deck.powerUpSpent ∧
      (reclassify p y).deck.zeroLimit = y.deck.zeroLimit ∧
      (reclassify p y).deck.trackRun = y.deck.trackRun ∧
      (reclassify p y).deck.pendingZero = y.deck.pendingZero := by
  rcases reclassify_cases p y with ⟨h, -⟩ | ⟨-, h⟩ <;> rw [h] <;> exact ⟨rfl, rfl, rfl, rfl, rfl, rfl⟩

/-- It notes an entry to EMPTY or STEADY at most. -/
theorem reclassify_notes (p : LegalParams) (y : Monitor) : ∃ l, (reclassify p y).notes = y.notes ++ l ∧
    ∀ n ∈ l, ∃ m, n = .entered m ∧ raisesEntry m = false := by
  rcases reclassify_cases p y with ⟨h, -⟩ | ⟨-, h⟩ <;> rw [h]
  · exact ⟨[], by simp⟩
  · refine ⟨[.entered (settledMode p y.deck)], rfl, fun n hn => ⟨_, List.mem_singleton.mp hn, ?_⟩⟩
    unfold settledMode
    split <;> rfl

/-- A step that gives a new T and reclassifies. -/
theorem ZeroKeeps.of_reclassify (h : ZeroOnly x.deck y.deck) : ZeroKeeps p x (reclassify p y) := by
  obtain ⟨t, zs, pu, zl, tr, pz, h⟩ := h
  have hm : y.deck.mode = x.deck.mode := by rw [h]
  rcases reclassify_cases p y with ⟨e, hb⟩ | ⟨hs, e⟩ <;> rw [e]
  · exact ⟨by rw [h]; rfl, by rw [hm], fun _ => hm, fun _ => hb, .inl ⟨hm, by rw [h], by rw [h]⟩⟩
  · refine ⟨?_, ?_, fun hx => ?_, fun _ _ => rfl, .inr ?_⟩
    · show y.deck.levels = _
      rw [h]
      rfl
    · rw [← hm, hs]
      exact settledMode_settled p y.deck
    · rw [← hm, hs] at hx
      exact nomatch hx
    · show (upd y.deck.history (modeNumber (settledMode p y.deck)) fun _ => _)[
        modeNumber (settledMode p y.deck)] = _
      rw [upd_get, if_pos rfl]
      rfl

end

/-! ### The steps -/

section
variable (p : LegalParams) (d : DeckId) (clear capturing busy : Bool) (g w : Int) (x : Monitor)

theorem powerUpZero_keeps : ZeroKeeps p x (powerUpZero p d clear x) := by
  unfold powerUpZero
  dsimp only
  split
  · split
    · exact .of_reclassify ⟨_, _, _, _, _, _, rfl⟩
    · exact .of_same ⟨_, _, _, _, _, _, rfl⟩ rfl
  · exact .refl p x

theorem countDeadline_zeroKeeps : ZeroKeeps p x (countDeadline x) := by
  unfold countDeadline
  split
  · exact .refl p x
  · split <;> exact .of_same ⟨_, _, _, _, _, _, rfl⟩ rfl

theorem pendingZeroTest_keeps : ZeroKeeps p x (pendingZeroTest p d clear capturing x) := by
  unfold pendingZeroTest
  dsimp only
  split
  · split
    · exact .of_reclassify ⟨_, _, _, _, _, _, rfl⟩
    · exact .of_same ⟨_, _, _, _, _, _, rfl⟩ rfl
  · exact countDeadline_zeroKeeps p x

theorem trackZero_keeps : ZeroKeeps p x (trackZero p d clear busy g w x) := by
  unfold trackZero
  dsimp only
  split
  · split
    · exact .of_same ⟨_, _, _, _, _, _, rfl⟩ rfl
    · split
      · exact .of_reclassify ⟨_, _, _, _, _, _, rfl⟩
      · split <;> exact .of_same ⟨_, _, _, _, _, _, rfl⟩ rfl
  · exact .of_same ⟨_, _, _, _, _, _, rfl⟩ rfl

variable {p d clear capturing busy g w x}

/-- The power-up zero is not tried: it has been, or the deck is not settled or not clear (R36). -/
theorem powerUpZero_none
    (h : x.deck.powerUpSpent = true ∨ isSettled x.deck.mode = false ∨ clear = false) :
    powerUpZero p d clear x = x := by
  unfold powerUpZero
  dsimp only
  rw [if_neg]
  rintro ⟨hu, hs, hc⟩
  rcases h with h | h | h <;> simp_all

/-- R38: a ZERO that cannot be tested waits. -/
theorem pendingZeroTest_waits
    (h : x.deck.pendingZero = none ∨ capturing = true ∨ isSettled x.deck.mode = false ∨ clear = false) :
    pendingZeroTest p d clear capturing x = countDeadline x := by
  unfold pendingZeroTest
  dsimp only
  rw [if_neg]
  rintro ⟨hz, hn, hs, hc⟩
  rcases h with h | h | h | h <;> simp_all

theorem countDeadline_none (h : x.deck.pendingZero = none) : countDeadline x = x := by
  simp only [countDeadline, h]

/-- The sample that brings a deadline to 0. -/
theorem countDeadline_ends {n : Nat} (h : x.deck.pendingZero = some n) (hn : n ≤ 1) :
    countDeadline x = (x.mod fun k => { k with pendingZero := none }).note (.zero .motion) := by
  simp only [countDeadline, h, if_pos hn]

/-- A sample with more time left. -/
theorem countDeadline_counts {n : Nat} (h : x.deck.pendingZero = some n) (hn : 2 ≤ n) :
    countDeadline x = x.mod fun k => { k with pendingZero := some (n - 1) } := by
  simp only [countDeadline, h, if_neg (show ¬n ≤ 1 by omega)]

/-- R39: below the 100th qualifying sample tracking counts or starts anew, and that is all. -/
theorem trackZero_counts (h : x.deck.trackRun < 99 ∨ qualifies p clear busy w x.deck = false) :
    ∃ n, trackZero p d clear busy g w x = x.mod fun k => { k with trackRun := n } := by
  unfold trackZero
  dsimp only
  split
  · next hq =>
    have ht : x.deck.trackRun + 1 < 100 := by
      rcases h with h | h
      · omega
      · exact nomatch hq.symm.trans h
    exact ⟨_, if_pos ht⟩
  · exact ⟨0, rfl⟩

/-- R39: not EMPTY, not clear or in a capture: the sample does not qualify. -/
theorem qualifies_not {k : Deck} (h : isSettled k.mode = false ∨ clear = false ∨ busy = true) :
    qualifies p clear busy w k = false := by
  unfold qualifies
  simp only [decide_eq_false_iff_not]
  rintro ⟨hm, -, hc, -, hb⟩
  rcases h with h | h | h
  · rw [hm] at h
    exact nomatch h
  · simp_all
  · simp_all

/-- R36: the settled gross within the power-up range becomes part of T. -/
theorem powerUpZero_takes (hu : x.deck.powerUpSpent = false) (hs : isSettled x.deck.mode = true)
    (hc : clear = true) (hr : ((settledGross p x.deck).natAbs : Int) ≤ powerUpRange p d) :
    powerUpZero p d clear x = reclassify p ((x.mod fun k =>
      { k with
        zeroOffset := k.zeroOffset + settledGross p k
        zeroSet := true
        powerUpSpent := true }).note (.zero .zeroSet)) := by
  unfold powerUpZero
  dsimp only
  rw [if_pos ⟨by simp [hu], hs, hc⟩, if_pos hr]

/-- R36: outside the range the power-up zero is spent. -/
theorem powerUpZero_refuses (hu : x.deck.powerUpSpent = false) (hs : isSettled x.deck.mode = true)
    (hc : clear = true) (hr : powerUpRange p d < ((settledGross p x.deck).natAbs : Int)) :
    powerUpZero p d clear x =
      (x.mod fun k => { k with powerUpSpent := true }).note (.zero .zeroRange) := by
  unfold powerUpZero
  dsimp only
  rw [if_pos ⟨by simp [hu], hs, hc⟩, if_neg (by omega)]

/-- R38: the settled G within the zero range becomes T. -/
theorem pendingZeroTest_takes (hz : x.deck.pendingZero ≠ none) (hn : capturing = false)
    (hs : isSettled x.deck.mode = true) (hc : clear = true)
    (hr : ((settledRaw p x.deck).natAbs : Int) ≤ zeroRange p d) :
    pendingZeroTest p d clear capturing x = reclassify p ((x.mod fun k =>
      { k with
        zeroOffset := settledRaw p k
        zeroSet := true
        powerUpSpent := true
        zeroLimit := false
        pendingZero := none }).note (.zero .zeroSet)) := by
  unfold pendingZeroTest
  dsimp only
  rw [if_pos ⟨Option.isSome_iff_ne_none.mpr hz, by simp [hn], hs, hc⟩, if_pos hr]

/-- R38: outside the range the ZERO ends. -/
theorem pendingZeroTest_refuses (hz : x.deck.pendingZero ≠ none) (hn : capturing = false)
    (hs : isSettled x.deck.mode = true) (hc : clear = true)
    (hr : zeroRange p d < ((settledRaw p x.deck).natAbs : Int)) :
    pendingZeroTest p d clear capturing x =
      (x.mod fun k => { k with pendingZero := none }).note (.zero .zeroRange) := by
  unfold pendingZeroTest
  dsimp only
  rw [if_pos ⟨Option.isSome_iff_ne_none.mpr hz, by simp [hn], hs, hc⟩, if_neg (by omega)]

/-- R39: the 100th qualifying sample within the zero range makes T its G. -/
theorem trackZero_moves (hq : qualifies p clear busy w x.deck = true) (ht : x.deck.trackRun = 99)
    (hr : (g.natAbs : Int) ≤ zeroRange p d) : trackZero p d clear busy g w x =
      reclassify p (x.mod fun k => { k with zeroOffset := g, trackRun := 0, zeroLimit := false }) := by
  unfold trackZero
  dsimp only
  rw [if_pos hq, if_neg (by omega), if_pos hr]

/-- R40: outside it the zero limit is reached, and reported once. -/
theorem trackZero_limits (hq : qualifies p clear busy w x.deck = true) (ht : x.deck.trackRun = 99)
    (hr : zeroRange p d < (g.natAbs : Int)) : trackZero p d clear busy g w x =
      if x.deck.zeroLimit then x.mod fun k => { k with trackRun := 0 }
      else (x.mod fun k => { k with trackRun := 0, zeroLimit := true }).note (.zero .zeroLimit) := by
  unfold trackZero
  dsimp only
  rw [if_pos hq, if_neg (by omega), if_neg (by omega)]

end

/-! ### What the steps leave of the zero -/

section
variable (p : LegalParams) (d : DeckId) (clear capturing busy : Bool) (g w : Int) (x : Monitor)

/-- The power-up zero leaves the tracking run and the pending ZERO. -/
theorem powerUpZero_zero : (powerUpZero p d clear x).deck.trackRun = x.deck.trackRun ∧
    (powerUpZero p d clear x).deck.pendingZero = x.deck.pendingZero := by
  unfold powerUpZero
  dsimp only
  split
  · split <;> simp
  · exact ⟨rfl, rfl⟩

theorem countDeadline_trackRun : (countDeadline x).deck.trackRun = x.deck.trackRun := by
  unfold countDeadline
  split
  · rfl
  · split <;> rfl

/-- The pending ZERO leaves the tracking run. -/
theorem pendingZeroTest_trackRun :
    (pendingZeroTest p d clear capturing x).deck.trackRun = x.deck.trackRun := by
  unfold pendingZeroTest
  dsimp only
  split
  · split <;> simp
  · exact countDeadline_trackRun x

/-! ### Where MOTION is noted (R38) -/

variable {p d clear capturing busy g w x}

theorem reclassify_motion (h : .zero .motion ∈ (reclassify p x).notes) : .zero .motion ∈ x.notes := by
  obtain ⟨l, hn, hl⟩ := reclassify_notes p x
  rw [hn] at h
  rcases List.mem_append.mp h with h | h
  · exact h
  · obtain ⟨m, hm, -⟩ := hl _ h
    exact nomatch hm

theorem powerUpZero_motion (h : .zero .motion ∈ (powerUpZero p d clear x).notes) :
    .zero .motion ∈ x.notes := by
  unfold powerUpZero at h
  dsimp only at h
  split at h
  · split at h
    · simpa using reclassify_motion h
    · simpa using h
  · exact h

/-- MOTION is noted by a deadline that has run. -/
theorem countDeadline_motion (h : .zero .motion ∈ (countDeadline x).notes) :
    .zero .motion ∈ x.notes ∨ ∃ n, x.deck.pendingZero = some n ∧ n ≤ 1 := by
  unfold countDeadline at h
  split at h
  · exact .inl h
  · next n hn =>
    split at h
    · next hle => exact .inr ⟨n, hn, hle⟩
    · exact .inl h

theorem pendingZeroTest_motion (h : .zero .motion ∈ (pendingZeroTest p d clear capturing x).notes) :
    .zero .motion ∈ x.notes ∨ ∃ n, x.deck.pendingZero = some n ∧ n ≤ 1 := by
  unfold pendingZeroTest at h
  dsimp only at h
  split at h
  · refine .inl ?_
    split at h
    · simpa using reclassify_motion h
    · simpa using h
  · exact countDeadline_motion h

theorem trackZero_motion (h : .zero .motion ∈ (trackZero p d clear busy g w x).notes) :
    .zero .motion ∈ x.notes := by
  unfold trackZero at h
  dsimp only at h
  split at h
  · split at h
    · exact h
    · split at h
      · simpa using reclassify_motion h
      · split at h
        · exact h
        · simpa using h
  · exact h

end
end Sys2Proof.Machine

/-!
What a sample leaves when its monitor has taken its place: the deck, a hold and a measurement's window apart, and
the DECK events, which are those of the monitor's notes.
-/

namespace Sys2Proof.Machine

/-! ### The DECK events of a monitor's notes (R35 to R40) -/

/-- The DECK category of a port after a note of deck `d`. -/
def noteEvent (d : DeckId) (s : State) (e : EventCell) : DeckNote → EventCell
  | .entered m => if raisesEntry m then withEvent (.deckEntered d m) s e else e
  | .zero c => withEvent (.deckZero d c) s e

theorem handleNote_deckEvents (d : DeckId) (s : State) (n : DeckNote) (q : Port) :
    (handleNote d s n).deckEvents q = noteEvent d s (s.deckEvents q) n := by
  cases n with
  | entered m =>
    simp only [handleNote, noteEvent]
    split
    · simp [raise_deckEvents, categoryOf]
    · rfl
  | zero c =>
    have hr : (s.raise (.deckZero d c)).deckEvents q =
        withEvent (.deckZero d c) s (s.deckEvents q) := by
      simp [raise_deckEvents, categoryOf]
    cases c with
    | zeroLimit =>
      have hs := congrArg (fun v => v.2.2 q)
        (reportDowngrade_sensing (s.raise (.deckZero d .zeroLimit)) .zeroLimit d)
      exact hs.trans hr
    | _ => exact hr

/-- Placing a monitor adds the DECK events of its notes, in their order. -/
theorem applyMonitor_deckEvents (d : DeckId) (x : Monitor) (s : State) (q : Port) :
    (applyMonitor d x s).deckEvents q = x.notes.foldl (noteEvent d s) (s.deckEvents q) := by
  have hf : ∀ (ns : List DeckNote) (t : State), t.clock = s.clock →
      (ns.foldl (handleNote d) t).deckEvents q = ns.foldl (noteEvent d s) (t.deckEvents q) := by
    intro ns
    induction ns with
    | nil => intro t _; rfl
    | cons n ns ih =>
      intro t ht
      have hc : (handleNote d t n).clock = s.clock := by
        have hb := (RestStands.handleNote d t n).blocks
        simp only [Prod.mk.injEq] at hb
        exact hb.2.2.2.2.2.trans ht
      have hn : noteEvent d t (t.deckEvents q) n = noteEvent d s (t.deckEvents q) n := by
        cases n <;> simp only [noteEvent, withEvent, ht]
      rw [List.foldl_cons, List.foldl_cons, ih _ hc, handleNote_deckEvents, hn]
  exact hf x.notes _ rfl

/-- The last reporting note is the zero's. -/
def LastZero (c : ZeroCause) (ns : List DeckNote) : Prop :=
  ∃ l r, ns = l ++ .zero c :: r ∧ ∀ n ∈ r, ∃ m, n = .entered m ∧ raisesEntry m = false

/-- Then the zero's event is the latest. -/
theorem LastZero.latest {c : ZeroCause} {ns : List DeckNote} (h : LastZero c ns) (d : DeckId)
    (s : State) (e : EventCell) : (ns.foldl (noteEvent d s) e).latest =
      some (.deckZero d c, ⟨s.clock.day, s.clock.sec⟩) := by
  obtain ⟨l, r, rfl, hr⟩ := h
  have hq : ∀ e : EventCell, r.foldl (noteEvent d s) e = e := by
    intro e
    induction r with
    | nil => rfl
    | cons n r ih =>
      obtain ⟨m, rfl, hm⟩ := hr n (.head _)
      rw [List.foldl_cons, show noteEvent d s e (.entered m) = e by simp [noteEvent, hm]]
      exact ih fun n hn => hr n (.tail _ hn)
  rw [List.foldl_append, List.foldl_cons, hq]
  rfl

theorem LastZero.of_append (l : List DeckNote) (c : ZeroCause) : LastZero c (l ++ [.zero c]) :=
  ⟨l, [], rfl, by simp⟩

/-- A reclassification reports nothing after it. -/
theorem LastZero.reclassify {c : ZeroCause} {x : Monitor} (p : LegalParams) (h : LastZero c x.notes) :
    LastZero c (reclassify p x).notes := by
  obtain ⟨l, r, hx, hr⟩ := h
  obtain ⟨r', hn, hr'⟩ := reclassify_notes p x
  refine ⟨l, r ++ r', by simp [hn, hx], fun n hm => ?_⟩
  rcases List.mem_append.mp hm with h | h
  · exact hr n h
  · exact hr' n h

/-! ### Measurements (R165, R167) -/

section
variable (s : State)

theorem makeChange_sensing (w : Write) : (makeChange s w).sensing = s.sensing := by
  have hg : ∀ (s : State) (n : Nat), (reportGone n s).sensing = s.sensing := by
    intro s n
    unfold reportGone disarm examineActive
    split
    · split <;> simp
    · simp
  have hc : ∀ s, (clearTables s).sensing = s.sensing := by
    intro s
    exact foldl_keeps (view := State.sensing) hg _ (s.setVisit (make .cleared))
  unfold makeChange
  dsimp only
  split
  · exact hc _
  · rfl

/-- A write of shunt parameters reaches no other block. -/
theorem applyEffects_shuntD {ws : List Write} (h : ∀ w ∈ ws, ∃ d i, w.1 = .shuntD d i)
    (old : LegalParams) : applyEffects old ws s = s := by
  have hn : ∀ f : ParamId → Bool, (∀ d i, f (.shuntD d i) = false) → (ws.any fun w => f w.1) = false := by
    intro f hf
    simp only [List.any_eq_false]
    intro w hw
    obtain ⟨d, i, hi⟩ := h w hw
    simp [hi, hf]
  have hd := hn (fun i => decide (i = .decks)) fun _ _ => rfl
  have ht := hn (fun i => decide (i = .threshold)) fun _ _ => rfl
  have hw := hn isWindowParam fun _ _ => rfl
  have hz : ∀ e, (ws.any fun w => forgets e w.1) = false := fun e => hn (forgets e) fun _ _ => rfl
  simp [applyEffects, applyZeros, hd, ht, hw, hz]

/-- A write of shunt parameters raises METROLOGY events alone. -/
theorem legalWrite_sensing {ws : List Write} (h : ∀ w ∈ ws, ∃ d i, w.1 = .shuntD d i) :
    (legalWrite ws s).sensing = s.sensing := by
  have hw : ∀ ds, (writeLegal ws ds s).sensing = s.sensing := fun ds =>
    (foldl_keeps (view := State.sensing) (fun s d => changeStatusWithEvent_sensing s ..) ds _).trans
      (foldl_keeps (view := State.sensing) makeChange_sensing ws s)
  unfold legalWrite
  split
  · rfl
  · rw [applyEffects_shuntD _ h, noticeConditions_sensing, hw]

theorem completeReference_sensing (d : DeckId) (diffs : List Int) :
    (completeReference d diffs s).sensing = s.sensing := by
  unfold completeReference
  dsimp only
  split
  · rfl
  · split
    · simp
    · split
      · simp
      · rw [endAdjusted_sensing, legalWrite_sensing]
        · rfl
        · intro w hw
          obtain ⟨i, hi⟩ := mem_cellWrites hw
          exact ⟨d, i, hi⟩

theorem completeCheck_sensing (d : DeckId) (diffs : List Int) :
    (completeCheck d diffs s).sensing = s.sensing := by
  unfold completeCheck
  dsimp only
  split
  · rfl
  · rw [setMetroDeck_sensing, reportDowngrade_sensing]
    rfl

@[simp] theorem shuntSample_sensing (d : DeckId) (raw : Vector Int 4) :
    (shuntSample d raw s).1.sensing = s.sensing := by
  unfold shuntSample
  split
  · rfl
  · dsimp only
    split
    · rfl
    · split
      · split <;> rfl
      · dsimp only
        split
        · exact completeReference_sensing s d _
        · exact completeCheck_sensing s d _

end

/-! ### After the monitor -/

/-- No test capture of the deck can end on a sample: the deck is not settled, or the operation in flight is that of
another deck (R159). -/
def NoTestEnd (d : DeckId) (s : State) : Prop :=
  isSettled (s.deckMode d) = false ∨ ∀ o, s.operation = some o → o.deck ≠ d

section
variable {d : DeckId} {s : State}

/-- A deck that the operation in flight is not about has no test capture. -/
theorem testCaptureOn_away (h : ∀ o, s.operation = some o → o.deck ≠ d) :
    s.testCaptureOn d = false := by
  unfold State.testCaptureOn
  cases ho : s.operation with
  | none => rfl
  | some o => simp [h o ho]

theorem testWindowEnded_away (h : ∀ o, s.operation = some o → o.deck ≠ d) :
    testWindowEnded d s = false := by
  unfold testWindowEnded
  cases ho : s.operation with
  | none => rfl
  | some o =>
    simp only
    split
    · simp [h o ho]
    · rfl

/-- The part of a sample for test captures is an abort at most. -/
theorem testCaptureStep_noEnd (h : NoTestEnd d s) :
    testCaptureStep false d s = s ∨ testCaptureStep false d s = abortTestCapture d s := by
  rcases h with h | h
  · exact .inr (testCaptureStep_unsettled h)
  · refine .inl ?_
    have ha : abortTestCapture d s = s := by simp [abortTestCapture, testCaptureOn_away h]
    simp [testCaptureStep, ha, testWindowEnded_away h]

/-- The captures' part of a sample leaves that. -/
theorem NoTestEnd.orderStep (h : NoTestEnd d s) (raw : Vector Int 4) (w : Option Int) :
    NoTestEnd d (orderStep false d (takeGross d raw w s)) := by
  rcases h with h | h
  · left
    have hm : (Machine.orderStep false d (takeGross d raw w s)).deckMode d = s.deckMode d := by
      simp [State.deckMode]
    rw [hm]
    exact h
  · right
    have hg : (takeGross d raw w s).operation = s.operation := by
      cases w with
      | none => rfl
      | some w =>
        have hc : (captureSample d w s).testCaptureOn d = false := testCaptureOn_away h
        simp only [takeGross, testSample, hc]
        rfl
    have ho : (Machine.orderStep false d (takeGross d raw w s)).operation = s.operation := by
      rw [← hg]
      simp [State.operation]
    rw [ho]
    exact h

/-- What follows the monitor leaves the pairs and the DECK events. -/
theorem sampleTail_sensing (h : NoTestEnd d s) (raw : Vector Int 4) (w : Option Int)
    (entered : Bool) : (sampleTail false d raw w entered s).sensing = s.sensing := by
  unfold sampleTail
  rcases testCaptureStep_noEnd (h.orderStep raw w) with e | e <;> simp [e]

/-- Of the decks it leaves all but a hold and, where a measurement ends, the window (R30). -/
theorem sampleTail_deck (h : NoTestEnd d s) (raw : Vector Int 4) (w : Option Int) (entered : Bool) :
    ∃ hold window, (sampleTail false d raw w entered s).decks[d] =
        { s.decks[d] with hold := hold, window := window } ∧
      (s.metro.decks[d].run = none → window = s.decks[d].window) := by
  have hb : ∀ t, (noticeConditions (recoverMap t)).decks = t.decks := by simp
  have h5 : (testCaptureStep false d (orderStep false d (takeGross d raw w s))).decks = s.decks ∧
      (testCaptureStep false d (orderStep false d (takeGross d raw w s))).metro.decks =
        s.metro.decks := by
    rcases testCaptureStep_noEnd (h.orderStep raw w) with e | e <;> simp [e]
  have hsched : ∀ t : State, ∃ hold,
      (schedule entered d t).decks[d] = { t.decks[d] with hold := hold } := by
    intro t
    unfold schedule
    split
    · exact ⟨true, by simp [startCheck, startRun, holdDeck]⟩
    · exact ⟨t.decks[d].hold, rfl⟩
  unfold sampleTail
  simp only [hb]
  generalize testCaptureStep false d (orderStep false d (takeGross d raw w s)) = t at h5
  obtain ⟨hold, hs⟩ := hsched (shuntSample d raw t).1
  rw [hs]
  by_cases hr : s.metro.decks[d].run = none
  · have ht : t.metro.decks[d].run = none := by
      rw [h5.2]
      exact hr
    rw [shuntSample_none _ ht]
    exact ⟨hold, s.decks[d].window, by rw [h5.1], fun _ => rfl⟩
  · rcases shuntSample_decks d raw t with e | e
    · exact ⟨hold, s.decks[d].window, by rw [e, h5.1], fun _ => rfl⟩
    · refine ⟨hold, [], ?_, fun h => absurd h hr⟩
      rw [e, h5.1]
      simp [completeHold]

end

/-! ### The deck and the DECK events after a sample -/

section
variable (d : DeckId) (conv : Conversion) (s : State)

theorem abandonOn_clock (c : AbortCause) : (abandonOn c d s).clock = s.clock := by
  have ha : ∀ s, (abortOperation c s).clock = s.clock := by
    intro s
    unfold abortOperation
    split <;> rfl
  have hr : (abandonRun d s).clock = s.clock := by
    unfold abandonRun
    split
    · rfl
    · exact congrArg (fun v => v.2.2.2.2.2) (RestStands.applyMonitor d _ _).blocks
  unfold abandonOn
  split
  · rfl
  · split
    · exact (ha _).trans hr
    · exact hr

/-- Up to the monitor a sample leaves the pairs, the DECK events and the clock. -/
theorem sampleHead_sensing : (sampleHead d conv s).sensing = s.sensing ∧
    (sampleHead d conv s).clock = s.clock := by
  have hf : (frontEndStep d conv s).clock = s.clock :=
    congrArg (fun v => v.2.2.2.2.2) (RestStands.frontEndStep d s conv).blocks
  unfold sampleHead abandonOnError
  split
  · exact ⟨by simp, (abandonOn_clock d _ _).trans hf⟩
  · exact ⟨by simp, hf⟩

variable {d conv s}

/-- The deck after a sample is its monitor's, a hold and a measurement's window apart. -/
theorem sampled_deck (h : NoTestEnd d (afterMonitor d conv s)) : ∃ hold window,
    (sampled d conv s).decks[d] =
        { (sampleMonitor d conv s).deck with hold := hold, window := window } ∧
      ((sampleHead d conv s).metro.decks[d].run = none →
        window = (sampleMonitor d conv s).deck.window) := by
  obtain ⟨hold, window, he, hw⟩ := sampleTail_deck h conv.raw
    (sampleGross (recordOf s.legal d s.front[d] conv) (sampleHead d conv s).decks[d])
    ((sampleMonitor d conv s).notes.contains (.entered .empty))
  have hm : (afterMonitor d conv s).decks[d] = (sampleMonitor d conv s).deck := by simp
  rw [hm] at he hw
  refine ⟨hold, window, ?_, fun hr => hw ?_⟩
  · rw [sampled, sampleWhole_fst]
    exact he
  · exact (applyMonitor_flight d _ _).2.trans hr

/-- The DECK events after a sample are those of its monitor's notes. -/
theorem sampled_deckEvents (h : NoTestEnd d (afterMonitor d conv s)) (q : Port) :
    (sampled d conv s).deckEvents q =
      (sampleMonitor d conv s).notes.foldl (noteEvent d s) (s.deckEvents q) := by
  obtain ⟨hs, hc⟩ := sampleHead_sensing d conv s
  have ht := sampleTail_sensing h conv.raw
    (sampleGross (recordOf s.legal d s.front[d] conv) (sampleHead d conv s).decks[d])
    ((sampleMonitor d conv s).notes.contains (.entered .empty))
  have hn : noteEvent d (sampleHead d conv s) = noteEvent d s := by
    funext e n
    cases n <;> simp only [noteEvent, withEvent, hc]
  have he : (sampleHead d conv s).deckEvents = s.deckEvents := congrArg (fun v => v.2.2) hs
  calc (sampled d conv s).deckEvents q
      = (afterMonitor d conv s).deckEvents q := by
        rw [sampled, sampleWhole_fst]
        exact congrArg (fun v => v.2.2 q) ((drive_sensing _).trans ht)
    _ = _ := by rw [afterMonitor, applyMonitor_deckEvents, hn, he]

end
end Sys2Proof.Machine

/-!
A sample classifies its deck (O38): what a valid record makes of each of the eight states, and what an invalid one
makes of all.
-/

namespace Sys2Proof.Machine

/-! ### The classified deck -/

/-- The monitor after the classification of a valid sample with raw mass `g`, before the zero logic (R21). -/
def classified (p : LegalParams) (d : DeckId) (g : Int) (k : Deck) : Monitor :=
  classifyValid p d g (g - k.zeroOffset) ((Monitor.of k).mod (takeMass p g))

/-- The window with a sample taken, the oldest of S + 1 dropped (R20). -/
abbrev windowWith (p : LegalParams) (g : Int) (k : Deck) : List Int :=
  (k.window ++ [g]).drop (k.window.length + 1 - p.window.toNat)

section
variable {p : LegalParams} {d : DeckId} {g : Int} {k : Deck}

theorem takeMass_sameMarks : SameMarks k ((Monitor.of k).mod (takeMass p g)) :=
  ⟨rfl, rfl, rfl, rfl, rfl⟩

theorem takeMass_window (hl : (k.window.length : Int) ≤ p.window) :
    (takeMass p g k).window = windowWith p g k :=
  windowPush_eq _ _ _ (by omega)

/-- The classification makes at most one entry. -/
theorem classified_entersOnce (hp : 1 ≤ p.window) : EntersOnce k (classified p d g k) :=
  classifyValid_entersOnce hp takeMass_sameMarks

theorem classified_zeroFields : (classified p d g k).deck.zeroFields = (takeMass p g k).zeroFields :=
  classifyValid_zeroFields

theorem classified_zero (p : LegalParams) (d : DeckId) (g : Int) (k : Deck) :
    (classified p d g k).deck.zeroPart = k.zeroPart :=
  congrArg Prod.snd (classified_zeroFields (p := p) (d := d) (g := g) (k := k))

theorem ZeroKeeps.fields {x y : Monitor} (h : ZeroKeeps p x y) :
    y.deck.window = x.deck.window ∧ y.deck.reference = x.deck.reference ∧
      y.deck.settledRun = x.deck.settledRun ∧ y.deck.motionCount = x.deck.motionCount := by
  simpa [Deck.levels] using h.levels

/-! ### Each state's rows of the table of transitions

`M` is what the zero logic leaves of the classified deck. -/

variable {M : Monitor} (hM : ZeroKeeps p (classified p d g k) M)
include hM

theorem window_of_classified (hl : (k.window.length : Int) ≤ p.window) :
    M.deck.window = windowWith p g k := by
  have hz := congrArg Prod.fst (classified_zeroFields (p := p) (d := d) (g := g) (k := k))
  exact (hM.fields.1.trans hz).trans (takeMass_window hl)

/-- R22: NOSIGNAL is left when the window is full. -/
theorem mode_of_noSignal (hl : (k.window.length : Int) ≤ p.window) (hk : k.mode = .noSignal) :
    M.deck.mode = if p.window ≤ (windowWith p g k).length then .settling else .noSignal := by
  have hc : (classified p d g k).deck.mode =
      if p.window ≤ (windowWith p g k).length then .settling else .noSignal := by
    rw [classified, classifyValid_noSignal _ _ _ _ _ hk]
    simp only [windowFull, mod_keeps, of_keeps, takeMass_window hl, decide_eq_true_eq]
    split
    · rfl
    · exact hk
  rw [hM.unsettled, hc]
  rw [hc]
  split <;> rfl

/-- R23: OVERLOAD is left by a sample that is not above the limit. -/
theorem mode_of_overload (hk : k.mode = .overload) : M.deck.mode =
    if (p.maxD[d] + 9 * p.interval) * 1000 < g - k.zeroOffset then .overload else .settling := by
  have hc : (classified p d g k).deck.mode =
      if (p.maxD[d] + 9 * p.interval) * 1000 < g - k.zeroOffset then .overload else .settling := by
    rw [classified, classifyValid_overload _ _ _ _ _ hk]
    split
    · exact hk
    · rfl
  rw [hM.unsettled, hc]
  rw [hc]
  split <;> rfl

/-- R24: UNDERLOAD is left by a sample that is not below the limit. -/
theorem mode_of_underload (hk : k.mode = .underload) : M.deck.mode =
    if g - k.zeroOffset < -(20 * p.interval * 1000) then .underload else .settling := by
  have hc : (classified p d g k).deck.mode =
      if g - k.zeroOffset < -(20 * p.interval * 1000) then .underload else .settling := by
    rw [classified, classifyValid_underload _ _ _ _ _ hk]
    split
    · exact hk
    · rfl
  rw [hM.unsettled, hc]
  rw [hc]
  split <;> rfl

theorem motionCount_of_fault (hf : isFaultMode k.mode = true) :
    M.deck.motionCount = k.motionCount :=
  hM.fields.2.2.2.trans (classifyValid_fault_motionCount hf)

/-- R23, R27: a deck that becomes overloaded. -/
theorem fields_of_overloads (hf : isFaultMode k.mode = false)
    (ho : Overloads p d (g - k.zeroOffset) k) :
    M.deck.mode = .overload ∧ M.deck.reference = none ∧ M.deck.settledRun = 0 ∧
      M.deck.motionCount = k.motionCount := by
  have hc := classifyValid_overloads (g := g) (x := (Monitor.of k).mod (takeMass p g)) hf ho
  obtain ⟨-, hr, hs, hm⟩ := hM.fields
  rw [classified, hc] at hr hs hm
  refine ⟨?_, hr, hs, hm⟩
  rw [hM.unsettled] <;> rw [classified, hc] <;> rfl

/-- R24, R27: a deck that becomes underloaded. -/
theorem fields_of_underloads (hp : 1 ≤ p.window) (hf : isFaultMode k.mode = false)
    (ho : ¬Overloads p d (g - k.zeroOffset) k) (hu : Underloads p (g - k.zeroOffset) k) :
    M.deck.mode = .underload ∧ M.deck.reference = none ∧ M.deck.settledRun = 0 ∧
      M.deck.motionCount = k.motionCount := by
  have hc := classifyValid_underloads (g := g) (x := (Monitor.of k).mod (takeMass p g)) hp hf ho hu
  obtain ⟨-, hr, hs, hm⟩ := hM.fields
  rw [classified, hc] at hr hs hm
  refine ⟨?_, hr, hs, hm⟩
  rw [hM.unsettled] <;> rw [classified, hc] <;> rfl

omit hM in
/-- R26: within the limits a settled deck has the band test. -/
theorem classified_band (hp : 1 ≤ p.window) (hs : isSettled k.mode = true)
    (ho : ¬Overloads p d (g - k.zeroOffset) k) (hu : ¬Underloads p (g - k.zeroOffset) k) :
    classified p d g k = bandTest p g
      (((Monitor.of k).mod (takeMass p g)).mod (countRuns p d (g - k.zeroOffset))) := by
  rw [classified, classifyValid_within hp (settled_not_fault hs) ho hu]
  exact if_pos hs

/-- R26, R27: a settled deck whose sample leaves the band. -/
theorem fields_of_leaves (hp : 1 ≤ p.window) (hs : isSettled k.mode = true)
    (ho : ¬Overloads p d (g - k.zeroOffset) k) (hu : ¬Underloads p (g - k.zeroOffset) k)
    {ref : Int} (hr : k.reference = some ref) (hl : Leaves p g ref) :
    M.deck.mode = (if 15 ≤ k.motionCount then .noise else .motion) ∧
      M.deck.motionCount = min 16 (k.motionCount + 1) ∧ M.deck.reference = none ∧
      M.deck.settledRun = 0 := by
  have hc := classified_band hp hs ho hu
  rw [bandTest_eq hr, if_pos hl] at hc
  obtain ⟨-, href, hrun, hm⟩ := hM.fields
  rw [hc] at href hrun hm
  have hmode : (classified p d g k).deck.mode = if 15 ≤ k.motionCount then .noise else .motion := by
    rw [hc]
    rfl
  refine ⟨?_, hm, href, hrun⟩
  rw [hM.unsettled, hmode]
  rw [hmode]
  split <;> rfl

/-- R26, R27: a settled deck whose sample stays within the band. -/
theorem fields_of_stays (hp : 1 ≤ p.window) (hs : isSettled k.mode = true)
    (ho : ¬Overloads p d (g - k.zeroOffset) k) (hu : ¬Underloads p (g - k.zeroOffset) k)
    {ref : Int} (hr : k.reference = some ref) (hl : ¬Leaves p g ref) :
    isSettled M.deck.mode = true ∧ M.deck.reference = some ref ∧
      M.deck.settledRun = min p.window.toNat (k.settledRun + 1) ∧
      M.deck.motionCount = if p.window ≤ k.settledRun + 1 then 0 else k.motionCount := by
  have hc := classified_band hp hs ho hu
  rw [bandTest_eq hr, if_neg hl] at hc
  obtain ⟨-, href, hrun, hm⟩ := hM.fields
  rw [hc] at href hrun hm
  refine ⟨?_, href.trans hr, hrun, hm.trans ?_⟩
  · rw [hM.settled, hc]
    exact hs
  · have hw : (p.window ≤ (min p.window.toNat (k.settledRun + 1) : Nat)) =
        (p.window ≤ k.settledRun + 1) := by
      rw [eq_iff_iff]
      omega
    simp only [mod_keeps, of_keeps, takeMass, countRuns, hw]

omit hM in
/-- R25: within the limits a deck in SETTLING, MOTION or NOISE has the settling test. -/
theorem classified_settle (hp : 1 ≤ p.window) (hf : isFaultMode k.mode = false)
    (hs : isSettled k.mode = false)
    (ho : ¬Overloads p d (g - k.zeroOffset) k) (hu : ¬Underloads p (g - k.zeroOffset) k) :
    classified p d g k = settleTest p
      (((Monitor.of k).mod (takeMass p g)).mod (countRuns p d (g - k.zeroOffset))) := by
  rw [classified, classifyValid_within hp hf ho hu]
  exact if_neg (ne_true_of_eq_false hs)

/-- R25, R27: a deck that settles is EMPTY or STEADY by the T that the sample leaves. -/
theorem fields_of_settles (hp : 1 ≤ p.window) (hl : (k.window.length : Int) ≤ p.window)
    (hf : isFaultMode k.mode = false) (hs : isSettled k.mode = false)
    (ho : ¬Overloads p d (g - k.zeroOffset) k) (hu : ¬Underloads p (g - k.zeroOffset) k)
    (hw : Settles p (windowWith p g k)) :
    M.deck.mode = settledMode p M.deck ∧ M.deck.reference = some (windowWith p g k).sum ∧
      M.deck.settledRun = 1 ∧
      M.deck.motionCount = if k.mode = .motion then k.motionCount else 0 := by
  have hwin : (((Monitor.of k).mod (takeMass p g)).mod
      (countRuns p d (g - k.zeroOffset))).deck.window = windowWith p g k := takeMass_window hl
  have hc := classified_settle hp hf hs ho hu
  rw [settleTest_settles hp (by rwa [hwin])] at hc
  obtain ⟨-, href, hrun, hm⟩ := hM.fields
  rw [hc] at href hrun hm
  have hset : isSettled M.deck.mode = true := by
    rw [hM.settled, hc]
    exact settledMode_settled p _
  refine ⟨hM.byT (fun _ => ?_) hset, href.trans (congrArg (fun l => some (List.sum l)) hwin), hrun, hm⟩
  rw [hc]
  rfl

/-- R25: a deck that does not settle. -/
theorem fields_of_waits (hp : 1 ≤ p.window) (hl : (k.window.length : Int) ≤ p.window)
    (hf : isFaultMode k.mode = false) (hs : isSettled k.mode = false)
    (ho : ¬Overloads p d (g - k.zeroOffset) k) (hu : ¬Underloads p (g - k.zeroOffset) k)
    (hw : ¬Settles p (windowWith p g k)) :
    M.deck.mode = k.mode ∧ M.deck.motionCount = k.motionCount := by
  have hwin : (((Monitor.of k).mod (takeMass p g)).mod
      (countRuns p d (g - k.zeroOffset))).deck.window = windowWith p g k := takeMass_window hl
  have hc := classified_settle hp hf hs ho hu
  rw [settleTest_waits hp (by rwa [hwin])] at hc
  obtain ⟨-, -, -, hm⟩ := hM.fields
  rw [hc] at hm
  refine ⟨?_, hm⟩
  rw [hM.unsettled] <;> rw [hc]
  · rfl
  · exact hs

/-- R32: a state that the sample leads to carries the latest mark. -/
theorem history_of_entered (hp : 1 ≤ p.window) (hm : M.deck.mode ≠ k.mode) :
    M.deck.history[modeNumber M.deck.mode] = some M.deck.entryNumber := by
  rcases hM.marked with ⟨hmode, hh, he⟩ | h
  · have hmarks := (classified_entersOnce (d := d) (g := g) (k := k) hp).marks
    have hne : ¬(classified p d g k).deck.mode = k.mode := fun e => hm (hmode.trans e)
    simp only [hmode, hh, he, hmarks.history, hmarks.entryNumber, if_neg hne]
    simp
  · exact h

end
end Sys2Proof.Machine

/-!
The deck monitor within a sample: which deck it takes and what surrounds it, for a record that is valid and for
one that is not; and the classification of a sample as a whole (O38).
-/

namespace Sys2Proof.Machine

section
variable {d : DeckId} {conv : Conversion} {s : State}

/-! ### The monitor of a sample -/

/-- A record that is not invalid reaches the monitor with the front end alone changed (R21). -/
theorem sampleHead_notInvalid (h : recordOf s.legal d s.front[d] conv ≠ .invalid) :
    sampleHead d conv s = s.setFront d (convertDeck s.legal d conv) :=
  sampleHead_clean d conv s (recordOf_not_invalid h).1

/-- The monitor then takes the deck as it stands. -/
theorem sampleMonitor_notInvalid (h : recordOf s.legal d s.front[d] conv ≠ .invalid) :
    sampleMonitor d conv s =
      sampleDeck s.legal d (surroundings s d) (recordOf s.legal d s.front[d] conv) s.decks[d] := by
  rw [sampleMonitor, sampleHead_notInvalid h]
  rfl

/-- R21: a valid record on a deck without a hold: the classification and the zero logic. -/
theorem sampleMonitor_valid {g : Int} (h : recordOf s.legal d s.front[d] conv = .valid g)
    (hh : s.decks[d].hold = false) : sampleMonitor d conv s =
      trackZero s.legal d (surroundings s d).clear (surroundings s d).busyHere g
        (g - s.decks[d].zeroOffset)
        (beforeTracking s.legal d (surroundings s d) g s.decks[d]) := by
  rw [sampleMonitor_notInvalid (by rw [h]; nofun), h]
  simp only [sampleDeck, hh]

theorem beforeTracking_eq (p : LegalParams) (d : DeckId) (e : Surroundings) (g : Int) (k : Deck) :
    beforeTracking p d e g k =
      pendingZeroTest p d e.clear e.capturing (powerUpZero p d e.clear (classified p d g k)) := rfl

theorem beforeTracking_keeps (p : LegalParams) (d : DeckId) (e : Surroundings) (g : Int) (k : Deck) :
    ZeroKeeps p (classified p d g k) (beforeTracking p d e g k) :=
  (powerUpZero_keeps ..).trans (pendingZeroTest_keeps ..)

/-- The zero logic of a valid sample leaves the classification. -/
theorem sampleMonitor_keeps {g : Int} (h : recordOf s.legal d s.front[d] conv = .valid g)
    (hh : s.decks[d].hold = false) :
    ZeroKeeps s.legal (classified s.legal d g s.decks[d]) (sampleMonitor d conv s) := by
  rw [sampleMonitor_valid h hh]
  exact (beforeTracking_keeps ..).trans (trackZero_keeps ..)

/-- R36 to R39: with no zero to be found, waited for or moved the zero logic changes the tracking run at most. -/
theorem sampleMonitor_noZero {g : Int} (h : recordOf s.legal d s.front[d] conv = .valid g)
    (hh : s.decks[d].hold = false) (hu : s.decks[d].powerUpSpent = true)
    (hz : s.decks[d].pendingZero = none) (ht : s.decks[d].trackRun < 99) :
    ∃ n, sampleMonitor d conv s =
      (classified s.legal d g s.decks[d]).mod fun k => { k with trackRun := n } := by
  have hc := classified_zero s.legal d g s.decks[d]
  simp only [Deck.zeroPart, Prod.mk.injEq] at hc
  obtain ⟨-, -, hcu, -, hct, hcz⟩ := hc
  rw [sampleMonitor_valid h hh, beforeTracking_eq, powerUpZero_none (.inl (hcu.trans hu)),
    pendingZeroTest_waits (.inl (hcz.trans hz)), countDeadline_none (hcz.trans hz)]
  exact trackZero_counts (.inl (hct.trans_lt ht))

/-- Without a measurement on the deck there is none to abandon. -/
theorem sampleHead_noRun (hr : s.metro.decks[d].run = none) :
    sampleHead d conv s = frontEndStep d conv s := by
  unfold sampleHead abandonOnError
  split
  · exact abandonOn_none _ ((frontEndStep_flight d s conv).2.trans hr)
  · rfl

/-- R22: an invalid record on a deck without a measurement and without a pending ZERO. -/
theorem sampleMonitor_invalid (h : recordOf s.legal d s.front[d] conv = .invalid)
    (hr : s.metro.decks[d].run = none) (hz : s.decks[d].pendingZero = none) :
    sampleMonitor d conv s = classifyInvalid (.of s.decks[d]) := by
  have hd : (sampleHead d conv s).decks[d] = s.decks[d] := by
    simp only [sampleHead_noRun hr, frontEndStep_decks]
  have hp : (classifyInvalid (.of s.decks[d])).deck.pendingZero = none := by
    unfold classifyInvalid
    dsimp only
    split <;> exact hz
  rw [sampleMonitor, h, hd]
  unfold sampleDeck
  cases s.decks[d].hold <;> exact countDeadline_none hp

/-! ### The deck that it leaves -/

/-- A record that is not invalid leaves the operation in flight up to the monitor's part. -/
theorem NoTestEnd.of_operation (h : recordOf s.legal d s.front[d] conv ≠ .invalid)
    (ho : ∀ o, s.operation = some o → o.deck ≠ d) : NoTestEnd d (afterMonitor d conv s) := by
  have he : (afterMonitor d conv s).operation = s.operation := by
    rw [afterMonitor, (RestStands.applyMonitor d _ _).operation, sampleHead_notInvalid h]
    rfl
  exact .inr (by rwa [he])

/-- After an invalid record the deck is in NOSIGNAL (R22). -/
theorem sampleMonitor_noSignal (h : recordOf s.legal d s.front[d] conv = .invalid) :
    (sampleMonitor d conv s).deck.mode = .noSignal := by
  rw [sampleMonitor, h]
  exact (sampleDeck_invalid ..).2.2.1

theorem afterMonitor_deckMode :
    (afterMonitor d conv s).deckMode d = (sampleMonitor d conv s).deck.mode := by
  simp [State.deckMode]

theorem NoTestEnd.of_invalid (h : recordOf s.legal d s.front[d] conv = .invalid) :
    NoTestEnd d (afterMonitor d conv s) := by
  left
  rw [afterMonitor_deckMode, sampleMonitor_noSignal h]
  rfl

/-- With no measurement on it the deck of an invalid record is its monitor's. -/
theorem sampled_deck_invalid (h : recordOf s.legal d s.front[d] conv = .invalid)
    (hr : s.metro.decks[d].run = none) :
    (sampled d conv s).decks[d] = (sampleMonitor d conv s).deck := by
  have hrun : (sampleHead d conv s).metro.decks[d].run = none := by
    rw [sampleHead_noRun hr]
    exact (frontEndStep_flight d s conv).2.trans hr
  have hg : sampleGross .invalid (sampleHead d conv s).decks[d] = none := by
    unfold sampleGross
    cases (sampleHead d conv s).decks[d].hold <;> rfl
  have hm : (afterMonitor d conv s).deckMode d = .noSignal := by
    rw [afterMonitor_deckMode, sampleMonitor_noSignal h]
  have hr' : (abortTestCapture d (orderStep false d (afterMonitor d conv s))).metro.decks[d].run =
      none := by
    simpa using (applyMonitor_flight d (sampleHead d conv s) (sampleMonitor d conv s)).2.trans hrun
  rw [sampled, sampleWhole_fst, h, hg, State.drive_decks, sampleTail_noSignal _ _ hm,
    shuntSample_none _ hr']
  simp

/-! ### The entry of a sample -/

/-- R29, R32, R35: what a sample that has entered one state at most leaves of marks and DECK events. -/
theorem entered_of_marks {k x : Deck} {M : Monitor} {t : State} (hM : EntryMarks k M)
    (hx : x.entryNumber = M.deck.entryNumber ∧ x.history = M.deck.history ∧
      x.lastSettled = M.deck.lastSettled)
    (ht : ∀ q, t.deckEvents q = M.notes.foldl (noteEvent d s) (s.deckEvents q)) :
    x.entryNumber = (if M.deck.mode = k.mode then k.entryNumber else k.entryNumber + 1) ∧
      x.history = (if M.deck.mode = k.mode then k.history
        else k.history.set (modeNumber M.deck.mode) (some (k.entryNumber + 1))) ∧
      x.lastSettled = (if M.deck.mode ≠ k.mode ∧ isSettled M.deck.mode = true
        then some M.deck.mode else k.lastSettled) ∧
      ∀ q, t.deckEvents q =
        if M.deck.mode ≠ k.mode ∧ (isFaultMode M.deck.mode = true ∨ M.deck.mode = .noise) then
          withEvent (.deckEntered d M.deck.mode) s (s.deckEvents q)
        else s.deckEvents q := by
  obtain ⟨he, hh, hl⟩ := hx
  refine ⟨he.trans hM.entryNumber, hh.trans hM.history, hl.trans hM.lastSettled, fun q => ?_⟩
  rw [ht, hM.notes]
  by_cases hm : M.deck.mode = k.mode
  · rw [if_pos hm, if_neg (fun h => h.1 hm)]
    rfl
  · rw [if_neg hm]
    simp only [List.foldl_cons, List.foldl_nil, noteEvent, raisesEntry, decide_eq_true_eq, ne_eq, hm,
      not_false_eq_true, true_and]

end

/-- Settles O38: a valid sample by the state of its deck, and an invalid one. -/
theorem samplesClassifyTheDeck : Obligations.SamplesClassifyTheDeck := by
  refine ⟨fun d conv g s hp hd hr hh ho hrun hl => ⟨_, exec_deckSample conv hp hd, ?valid⟩,
    fun d conv s hp hd hr hh hrun hz => ⟨_, exec_deckSample conv hp hd, ?invalid⟩⟩
  case valid =>
    have hv : recordOf s.legal d s.front[d] conv ≠ .invalid := by rw [hr]; nofun
    have hS : 1 ≤ s.legal.window := by have := (recordOf_not_invalid hv).2.window; omega
    have hK := sampleMonitor_keeps hr hh
    have hend : NoTestEnd d (afterMonitor d conv s) := .of_operation hv (by simp [ho])
    obtain ⟨hold, window, hx, hw⟩ := sampled_deck hend
    have hev := sampled_deckEvents hend
    have hwin : window = windowWith s.legal g s.decks[d] :=
      (hw (by rw [sampleHead_notInvalid hv]; exact hrun)).trans (window_of_classified hK hl)
    simp only [State.deckMode, hx]
    refine ⟨hwin, mode_of_noSignal hK hl, mode_of_overload hK, mode_of_underload hK,
      motionCount_of_fault hK, fun hf hov => (fields_of_overloads hK hf hov).1,
      fun hf hov hun => (fields_of_underloads hK hS hf hov hun).1, fun hf hou => ?limit,
      fun hf hov hun => ⟨fun hs ref href => ⟨fields_of_leaves hK hS hs hov hun href, fun hin =>
        fields_of_stays hK hS hs hov hun href (not_lt.mpr hin)⟩, fun hs => ⟨fun hset => ?settles,
        fields_of_waits hK hS hl hf hs hov hun⟩⟩,
      history_of_entered hK hS, fun hu hz ht => ?entered⟩
    case limit =>
      by_cases hov : Overloads s.legal d (g - s.decks[d].zeroOffset) s.decks[d]
      · exact (fields_of_overloads hK hf hov).2
      · exact (fields_of_underloads hK hS hf hov (hou.resolve_left hov)).2
    case settles =>
      obtain ⟨hmode, hfields⟩ := fields_of_settles hK hS hl hf hs hov hun hset
      refine ⟨?_, hfields⟩
      rw [hmode, settledMode_eq, window_of_classified hK hl]
    case entered =>
      obtain ⟨n, hM⟩ := sampleMonitor_noZero hr hh hu hz ht
      have hc := (classified_entersOnce (d := d) (g := g) (k := s.decks[d]) hS).marks
      refine entered_of_marks (t := sampled d conv s) ?_ ⟨rfl, rfl, rfl⟩ hev
      rw [hM]
      exact ⟨hc.notes, hc.entryNumber, hc.history, hc.lastSettled⟩
  case invalid =>
    have hM := sampleMonitor_invalid hr hrun hz
    have hx := sampled_deck_invalid hr hrun
    have hev := sampled_deckEvents (.of_invalid hr)
    have hm := sampleMonitor_noSignal hr
    have hmarks : EntryMarks s.decks[d] (sampleMonitor d conv s) := by
      rw [hM]
      exact (classifyInvalid_entersOnce _).marks
    have he := entered_of_marks (t := sampled d conv s) hmarks ⟨rfl, rfl, rfl⟩ hev
    simp only [hm] at he
    rw [hx]
    refine ⟨?_, he⟩
    rw [hM]
    unfold classifyInvalid
    dsimp only
    split
    · next h0 => simp [dropReference, ← h0]
    · rfl

end Sys2Proof.Machine

/-!
The zero steps of a sample (O39): a pending ZERO that waits, ends or is taken, the power-up zero, and the 100th
sample of a tracking run.
-/

namespace Sys2Proof.Machine

/-! ### The zero up to the monitor -/

section
variable {d : DeckId} {conv : Conversion} {s : State}

/-- An abandoned measurement leaves the zero (R30). -/
theorem sampleHead_zeroPart : (sampleHead d conv s).decks[d].zeroPart = s.decks[d].zeroPart := by
  have hh : ∀ k, (abandonHold k).deck.zeroPart = k.zeroPart := by
    intro k
    unfold abandonHold
    dsimp only
    split <;> rfl
  have hr : ∀ s : State, (abandonRun d s).decks[d].zeroPart = s.decks[d].zeroPart := by
    intro s
    unfold abandonRun
    split
    · rfl
    · simpa using hh s.decks[d]
  have ha : ∀ s : State, (abandonOn .deckFault d s).decks[d].zeroPart = s.decks[d].zeroPart := by
    intro s
    unfold abandonOn
    split
    · rfl
    · split
      · simpa using hr s
      · exact hr s
  unfold sampleHead abandonOnError
  split
  · rw [ha]
    simp only [frontEndStep_decks]
  · simp only [frontEndStep_decks]

/-- An invalid record leaves T and the pending ZERO. -/
theorem classifyInvalid_zero (k : Deck) :
    (classifyInvalid (.of k)).deck.zeroOffset = k.zeroOffset ∧
      (classifyInvalid (.of k)).deck.zeroSet = k.zeroSet ∧
      (classifyInvalid (.of k)).deck.pendingZero = k.pendingZero := by
  unfold classifyInvalid
  dsimp only
  split <;> exact ⟨rfl, rfl, rfl⟩

/-! ### A ZERO that waits (R38) -/

/-- What a sample that cannot test a ZERO with `n` samples left leaves of it: T stands; the deadline falls, or the
ZERO ends with MOTION. -/
structure Waited (k : Deck) (n : Nat) (x : Monitor) : Prop where
  zeroOffset : x.deck.zeroOffset = k.zeroOffset
  zeroSet : x.deck.zeroSet = k.zeroSet
  counts : 2 ≤ n → x.deck.pendingZero = some (n - 1)
  ends : n ≤ 1 → x.deck.pendingZero = none ∧ LastZero .motion x.notes

theorem countDeadline_waited {k : Deck} {n : Nat} {x : Monitor} (ht : x.deck.zeroOffset = k.zeroOffset)
    (hs : x.deck.zeroSet = k.zeroSet) (hz : x.deck.pendingZero = some n) :
    Waited k n (countDeadline x) := by
  rcases Nat.lt_or_ge n 2 with h | h
  · rw [countDeadline_ends hz (by omega)]
    exact ⟨ht, hs, fun _ => by omega, fun _ => ⟨rfl, .of_append _ _⟩⟩
  · rw [countDeadline_counts hz h]
    exact ⟨ht, hs, fun _ => rfl, fun _ => by omega⟩

/-- An invalid record makes a ZERO wait. -/
theorem waited_invalid (h : recordOf s.legal d s.front[d] conv = .invalid) {n : Nat}
    (hz : s.decks[d].pendingZero = some n) : Waited s.decks[d] n (sampleMonitor d conv s) := by
  have hk := sampleHead_zeroPart (d := d) (conv := conv) (s := s)
  simp only [Deck.zeroPart, Prod.mk.injEq] at hk
  obtain ⟨hkt, hks, -, -, -, hkz⟩ := hk
  obtain ⟨ht, hs, hp⟩ := classifyInvalid_zero (sampleHead d conv s).decks[d]
  have hM : sampleMonitor d conv s =
      countDeadline (classifyInvalid (.of (sampleHead d conv s).decks[d])) := by
    rw [sampleMonitor, h]
    unfold sampleDeck
    cases (sampleHead d conv s).decks[d].hold <;> rfl
  rw [hM]
  exact countDeadline_waited (ht.trans hkt) (hs.trans hks) (hp.trans (hkz.trans hz))

/-- A shunt hold makes it wait (R30). -/
theorem waited_hold (h : recordOf s.legal d s.front[d] conv ≠ .invalid)
    (hh : s.decks[d].hold = true) {n : Nat} (hz : s.decks[d].pendingZero = some n) :
    Waited s.decks[d] n (sampleMonitor d conv s) := by
  have hM : sampleMonitor d conv s = countDeadline (.of s.decks[d]) := by
    rw [sampleMonitor_notInvalid h]
    cases hr : recordOf s.legal d s.front[d] conv with
    | invalid => exact absurd hr h
    | shunted => simp only [sampleDeck, hh]
    | valid g => simp only [sampleDeck, hh]
  rw [hM]
  exact countDeadline_waited rfl rfl hz

/-- A deck that a valid sample does not settle. -/
theorem classified_unsettled {p : LegalParams} {g : Int} {k : Deck} (hp : 1 ≤ p.window)
    (hl : (k.window.length : Int) ≤ p.window) (hs : isSettled k.mode = false)
    (hw : isFaultMode k.mode = true ∨ ¬Settles p (windowWith p g k)) :
    isSettled (classified p d g k).deck.mode = false := by
  have hK := ZeroKeeps.refl p (classified p d g k)
  rcases faultMode_cases k.mode with hm | hm | hm | hf
  · rw [mode_of_noSignal hK hl hm]
    split <;> rfl
  · rw [mode_of_overload hK hm]
    split <;> rfl
  · rw [mode_of_underload hK hm]
    split <;> rfl
  · by_cases ho : Overloads p d (g - k.zeroOffset) k
    · rw [(fields_of_overloads hK hf ho).1]
      rfl
    · by_cases hu : Underloads p (g - k.zeroOffset) k
      · rw [(fields_of_underloads hK hp hf ho hu).1]
        rfl
      · have hns := hw.resolve_left (by simp [hf])
        rw [(fields_of_waits hK hp hl hf hs ho hu hns).1]
        exact hs

/-- A valid sample on a deck that is not clear, not settled, or in a capture makes it wait. -/
theorem waited_valid {g : Int} (h : recordOf s.legal d s.front[d] conv = .valid g)
    (hh : s.decks[d].hold = false) {n : Nat} (hz : s.decks[d].pendingZero = some n)
    (hw : clearOfAxles s d = false ∨ (s.order.engine ≠ none ∧ s.decks[d].powerUpSpent = true) ∨
      isSettled (classified s.legal d g s.decks[d]).deck.mode = false) :
    Waited s.decks[d] n (sampleMonitor d conv s) := by
  have hk := classified_zero s.legal d g s.decks[d]
  simp only [Deck.zeroPart, Prod.mk.injEq] at hk
  obtain ⟨hkt, hks, hku, -, -, hkz⟩ := hk
  have hcap : s.order.engine ≠ none → s.orderCapture = true := Option.isSome_iff_ne_none.mpr
  have hB : beforeTracking s.legal d (surroundings s d) g s.decks[d] =
      countDeadline (classified s.legal d g s.decks[d]) := by
    rw [beforeTracking_eq, powerUpZero_none, pendingZeroTest_waits]
    · rcases hw with hc | ⟨he, -⟩ | hs
      · exact .inr (.inr (.inr hc))
      · exact .inr (.inl (by simp [surroundings, hcap he]))
      · exact .inr (.inr (.inl hs))
    · rcases hw with hc | ⟨-, hu⟩ | hs
      · exact .inr (.inr hc)
      · exact .inl (hku.trans hu)
      · exact .inr (.inl hs)
  have hq : qualifies s.legal (surroundings s d).clear (surroundings s d).busyHere
      (g - s.decks[d].zeroOffset) (countDeadline (classified s.legal d g s.decks[d])).deck = false := by
    apply qualifies_not
    rcases hw with hc | ⟨he, -⟩ | hs
    · exact .inr (.inl hc)
    · exact .inr (.inr (by simp [surroundings, hcap he]))
    · exact .inl (by rw [(countDeadline_keeps _).2.2.1]; exact hs)
  obtain ⟨r, hr⟩ := trackZero_counts (d := d) (g := g) (.inr hq)
  obtain ⟨ht, hs, hc, he⟩ := countDeadline_waited hkt hks (hkz.trans hz)
  rw [sampleMonitor_valid h hh, hB, hr]
  exact ⟨ht, hs, hc, he⟩

/-! ### The commands that name a step -/

theorem LastZero.mem {c : ZeroCause} {ns : List DeckNote} (h : LastZero c ns) : .zero c ∈ ns := by
  obtain ⟨l, r, rfl, -⟩ := h
  simp

/-- ZERO_DEADLINE_EXPIRED is the sample in which MOTION is noted. -/
theorem exec_zeroDeadlineExpired (hp : s.power = .running) (hd : d.val < deckCount s.legal) :
    exec (.zeroDeadlineExpired d conv) s =
      .next (if .zero .motion ∈ (sampleMonitor d conv s).notes then sampled d conv s else s.drive) := by
  have hu : deckInUse s.legal d = true := by simpa [deckInUse] using hd
  have hn : (sampleWhole false d conv s).2.deadline =
      (sampleMonitor d conv s).notes.contains (.zero .motion) := rfl
  show runCommand (takeSampleIf false (·.deadline) d conv) s = _
  rw [runCommand_running hp, takeSampleIf, if_pos hu]
  simp only [hn, List.contains_iff_mem]
  split <;> rfl

/-- ZERO_TRACKING_MOVE is the 100th sample of a tracking run. -/
theorem exec_zeroTrackingMove (hp : s.power = .running) (hd : d.val < deckCount s.legal) :
    exec (.zeroTrackingMove d conv) s =
      .next (if trackingDue (sampleHead d conv s).legal d (surroundings (sampleHead d conv s) d)
          (recordOf s.legal d s.front[d] conv) (sampleHead d conv s).decks[d] = true
        then sampled d conv s else s.drive) := by
  have hu : deckInUse s.legal d = true := by simpa [deckInUse] using hd
  show runCommand (takeSampleIf false (·.tracking) d conv) s = _
  rw [runCommand_running hp, takeSampleIf, if_pos hu]
  show Host.Outcome.next (ite (trackingDue (sampleHead d conv s).legal d
    (surroundings (sampleHead d conv s) d) (recordOf s.legal d s.front[d] conv)
    (sampleHead d conv s).decks[d] = true) (sampleWhole false d conv s).1 s).drive = _
  split <;> rfl

/-- MOTION is noted by a deadline that has run alone (R38). -/
theorem sampleMonitor_motion (h : .zero .motion ∈ (sampleMonitor d conv s).notes) :
    ∃ n, s.decks[d].pendingZero = some n ∧ n ≤ 1 := by
  have hk := congrArg (fun v => v.2.2.2.2.2) (sampleHead_zeroPart (d := d) (conv := conv) (s := s))
  change (sampleHead d conv s).decks[d].pendingZero = s.decks[d].pendingZero at hk
  have hmarks : ∀ {k : Deck} {x : Monitor}, EntersOnce k x → .zero .motion ∉ x.notes := by
    intro k x hx hm
    rw [hx.marks.notes] at hm
    split at hm <;> simp at hm
  have hinv := (classifyInvalid_zero (sampleHead d conv s).decks[d]).2.2.trans hk
  rw [sampleMonitor] at h
  unfold sampleDeck at h
  split at h
  · exact hinv ▸ (countDeadline_motion h).resolve_left (hmarks (classifyInvalid_entersOnce _))
  · exact hk ▸ (countDeadline_motion h).resolve_left (by simp)
  · exact hinv ▸ (countDeadline_motion h).resolve_left (hmarks (classifyInvalid_entersOnce _))
  · exact hk ▸ (countDeadline_motion h).resolve_left (by simp)
  · next g hh hr =>
    have hv : recordOf s.legal d s.front[d] conv ≠ .invalid := by rw [hr]; nofun
    have hS : 1 ≤ (sampleHead d conv s).legal.window := by
      have := (recordOf_not_invalid hv).2.window
      rw [sampleHead_notInvalid hv]
      exact this.trans' (by omega)
    rcases pendingZeroTest_motion (trackZero_motion h) with h | ⟨n, hn, hle⟩
    · exact absurd (powerUpZero_motion h) (hmarks (classified_entersOnce hS))
    · have hz := congrArg (fun v => v.2.2.2.2.2)
        (classified_zero (sampleHead d conv s).legal d g (sampleHead d conv s).decks[d])
      rw [(powerUpZero_zero _ _ _ _).2] at hn
      exact ⟨n, hk.symm.trans (hz.symm.trans hn), hle⟩

/-- Before the 100th sample of a run tracking is not due (R39). -/
theorem trackingDue_early {p : LegalParams} {e : Surroundings} {r : Record} {k : Deck}
    (h : k.trackRun < 99) : trackingDue p d e r k = false := by
  unfold trackingDue
  split
  · next g _ =>
    have hc := congrArg (fun v => v.2.2.2.2.1) (classified_zero p d g k)
    have ht : (beforeTracking p d e g k).deck.trackRun = k.trackRun := by
      rw [beforeTracking_eq, pendingZeroTest_trackRun, (powerUpZero_zero _ _ _ _).1]
      exact hc
    have hlt : ¬100 ≤ (beforeTracking p d e g k).deck.trackRun + 1 := by omega
    simp [hlt]
  · rfl

/-- The zero, the state and the DECK events that a sample leaves are its monitor's. -/
theorem sampled_zero (h : NoTestEnd d (afterMonitor d conv s)) :
    (sampled d conv s).decks[d].zeroPart = (sampleMonitor d conv s).deck.zeroPart ∧
      (sampled d conv s).deckMode d = (sampleMonitor d conv s).deck.mode ∧
      ∀ c, LastZero c (sampleMonitor d conv s).notes → ∀ q,
        ((sampled d conv s).deckEvents q).latest =
          some (.deckZero d c, ⟨s.clock.day, s.clock.sec⟩) := by
  obtain ⟨hold, window, hx, -⟩ := sampled_deck h
  refine ⟨?_, ?_, fun c hc q => ?_⟩
  · rw [hx]
    rfl
  · rw [State.deckMode, hx]
  · rw [sampled_deckEvents h]
    exact hc.latest d s _

/-- A sample on which a ZERO waits, as DECK_SAMPLE and as ZERO_DEADLINE_EXPIRED. -/
theorem Waited.sampled {n : Nat} (h : Waited s.decks[d] n (sampleMonitor d conv s))
    (hend : NoTestEnd d (afterMonitor d conv s)) (hp : s.power = .running)
    (hd : d.val < deckCount s.legal) :
    (2 ≤ n → ∃ t, exec (.deckSample d conv) s = .next t ∧ t.decks[d].pendingZero = some (n - 1) ∧
      t.decks[d].zeroOffset = s.decks[d].zeroOffset ∧ t.decks[d].zeroSet = s.decks[d].zeroSet) ∧
    (n ≤ 1 → ∃ t, exec (.zeroDeadlineExpired d conv) s = .next t ∧
      exec (.deckSample d conv) s = .next t ∧ t.decks[d].pendingZero = none ∧
      (t.decks[d].zeroOffset = s.decks[d].zeroOffset ∧ t.decks[d].zeroSet = s.decks[d].zeroSet) ∧
      ∀ q, (t.deckEvents q).latest = some (.deckZero d .motion, ⟨s.clock.day, s.clock.sec⟩)) := by
  obtain ⟨hz, -, hev⟩ := sampled_zero hend
  simp only [Deck.zeroPart, Prod.mk.injEq] at hz
  obtain ⟨ht, hs, -, -, -, hpz⟩ := hz
  have hkept := And.intro (ht.trans h.zeroOffset) (hs.trans h.zeroSet)
  refine ⟨fun hn => ⟨_, exec_deckSample conv hp hd, hpz.trans (h.counts hn), hkept⟩, fun hn => ?_⟩
  obtain ⟨hnone, hlast⟩ := h.ends hn
  exact ⟨_, (exec_zeroDeadlineExpired hp hd).trans (by rw [if_pos hlast.mem]),
    exec_deckSample conv hp hd, hpz.trans hnone, hkept, hev _ hlast⟩

end

/-! ### A zero that is tested (R36, R38) -/

/-- A valid sample settles its deck or leaves it settled, clear of axles, with no capture in flight and no tracking
move due. -/
structure ZeroTestable (d : DeckId) (conv : Conversion) (g : Int) (s : State) : Prop where
  record : recordOf s.legal d s.front[d] conv = .valid g
  unheld : s.decks[d].hold = false
  clear : clearOfAxles s d = true
  noCapture : s.order.engine = none
  noOperation : s.operation = none
  early : s.decks[d].trackRun < 99
  settled : isSettled (classified s.legal d g s.decks[d]).deck.mode = true
  window : (classified s.legal d g s.decks[d]).deck.window = windowWith s.legal g s.decks[d]

/-- A sample within the limits that stays in its deck's band, or that settles it, leaves it settled. -/
theorem classified_settled {p : LegalParams} {d : DeckId} {g : Int} {k : Deck} (hp : 1 ≤ p.window)
    (hl : (k.window.length : Int) ≤ p.window)
    (ho : ¬Overloads p d (g - k.zeroOffset) k) (hu : ¬Underloads p (g - k.zeroOffset) k)
    (h : (isSettled k.mode = true ∧ ∃ ref, k.reference = some ref ∧ ¬Leaves p g ref) ∨
      (isSettled k.mode = false ∧ isFaultMode k.mode = false ∧ Settles p (windowWith p g k))) :
    isSettled (classified p d g k).deck.mode = true := by
  have hK := ZeroKeeps.refl p (classified p d g k)
  rcases h with ⟨hs, ref, hr, hin⟩ | ⟨hs, hf, hw⟩
  · exact (fields_of_stays hK hp hs ho hu hr hin).1
  · rw [(fields_of_settles hK hp hl hf hs ho hu hw).1]
    exact settledMode_settled p _

/-- EMPTY or STEADY as a window stands against a T. -/
def modeBy (p : LegalParams) (win : List Int) (t : Int) : DeckMode :=
  if ((win.sum - p.window * t).natAbs : Int) ≤ p.window * (p.emptyBand * p.interval * 1000) then
    .empty
  else .steady

/-- A deck that takes a zero is reclassified by it (R38). -/
theorem reclassify_modeBy {p : LegalParams} {y : Monitor} (hs : isSettled y.deck.mode = true) :
    (reclassify p y).deck.mode = modeBy p y.deck.window y.deck.zeroOffset :=
  (reclassify_mode hs).trans (settledMode_eq p y.deck)

/-- A settled deck with the window `win` has taken the zero `t`, and reports it. -/
structure TakesZero (p : LegalParams) (win : List Int) (t : Int) (x : Monitor) : Prop where
  zeroOffset : x.deck.zeroOffset = t
  zeroSet : x.deck.zeroSet = true
  powerUpSpent : x.deck.powerUpSpent = true
  mode : x.deck.mode = modeBy p win t
  reported : LastZero .zeroSet x.notes

theorem TakesZero.of_reclassify {p : LegalParams} {y : Monitor} (hs : isSettled y.deck.mode = true)
    (hz : y.deck.zeroSet = true) (hu : y.deck.powerUpSpent = true) (hn : LastZero .zeroSet y.notes) :
    TakesZero p y.deck.window y.deck.zeroOffset (reclassify p y) := by
  obtain ⟨ht, hz', hu', -⟩ := reclassify_zeroPart p y
  exact ⟨ht, hz'.trans hz, hu'.trans hu, reclassify_modeBy hs, hn.reclassify p⟩

section
variable {d : DeckId} {conv : Conversion} {g : Int} {s : State}

theorem ZeroTestable.surroundings (h : ZeroTestable d conv g s) :
    Machine.surroundings s d = ⟨true, false, false⟩ := by
  have ho : s.orderCapture = false := by simp [State.orderCapture, h.noCapture]
  have ht : s.testCapture = false := by simp only [State.testCapture, h.noOperation]
  have hd : s.testCaptureOn d = false := by simp only [State.testCaptureOn, h.noOperation]
  simp only [Machine.surroundings, h.clear, ho, ht, hd, Bool.or_self]

/-- Tracking only counts, or starts anew. -/
theorem ZeroTestable.monitor (h : ZeroTestable d conv g s) : ∃ n, sampleMonitor d conv s =
    (pendingZeroTest s.legal d true false
      (powerUpZero s.legal d true (classified s.legal d g s.decks[d]))).mod
        fun k => { k with trackRun := n } := by
  rw [sampleMonitor_valid h.record h.unheld, beforeTracking_eq, h.surroundings]
  refine trackZero_counts (.inl ?_)
  have hc := congrArg (fun v => v.2.2.2.2.1) (classified_zero s.legal d g s.decks[d])
  rw [pendingZeroTest_trackRun, (powerUpZero_zero _ _ _ _).1]
  exact hc.trans_lt h.early

theorem settledRaw_eq (h : ZeroTestable d conv g s) :
    settledRaw s.legal (classified s.legal d g s.decks[d]).deck =
      roundDiv (windowWith s.legal g s.decks[d]).sum s.legal.window := by
  rw [settledRaw, h.window]

theorem settledGross_eq (h : ZeroTestable d conv g s) :
    settledGross s.legal (classified s.legal d g s.decks[d]).deck =
      roundDiv ((windowWith s.legal g s.decks[d]).sum - s.legal.window * s.decks[d].zeroOffset)
        s.legal.window := by
  have ht := congrArg Prod.fst (classified_zero s.legal d g s.decks[d])
  change (classified s.legal d g s.decks[d]).deck.zeroOffset = s.decks[d].zeroOffset at ht
  rw [settledGross, h.window, ht]

/-- R38: a pending ZERO on a settled deck. -/
theorem ZeroTestable.pending (h : ZeroTestable d conv g s) (hu : s.decks[d].powerUpSpent = true)
    (hz : s.decks[d].pendingZero ≠ none) {M : Monitor} (hM : sampleMonitor d conv s = M)
    {raw : Int} (hraw : roundDiv (windowWith s.legal g s.decks[d]).sum s.legal.window = raw) :
    M.deck.pendingZero = none ∧
      ((raw.natAbs : Int) ≤ s.legal.maxD[d] * 20 →
        TakesZero s.legal (windowWith s.legal g s.decks[d]) raw M ∧ M.deck.zeroLimit = false) ∧
      (s.legal.maxD[d] * 20 < (raw.natAbs : Int) → M.deck.zeroOffset = s.decks[d].zeroOffset ∧
        M.deck.zeroSet = s.decks[d].zeroSet ∧ LastZero .zeroRange M.notes) := by
  obtain ⟨n, hn⟩ := h.monitor
  have hk := classified_zero s.legal d g s.decks[d]
  simp only [Deck.zeroPart, Prod.mk.injEq] at hk
  obtain ⟨hkt, hks, hku, -, -, hkz⟩ := hk
  have hr := (settledRaw_eq h).trans hraw
  have hz' : (classified s.legal d g s.decks[d]).deck.pendingZero ≠ none := by rwa [hkz]
  rw [hM, powerUpZero_none (.inl (hku.trans hu))] at hn
  rcases lt_or_ge (s.legal.maxD[d] * 20) (raw.natAbs : Int) with hrange | hrange
  · rw [pendingZeroTest_refuses hz' rfl h.settled rfl (by rwa [hr])] at hn
    rw [hn]
    exact ⟨rfl, fun hle => by omega, fun _ => ⟨hkt, hks, .of_append _ _⟩⟩
  · rw [pendingZeroTest_takes hz' rfl h.settled rfl (by rwa [hr])] at hn
    obtain ⟨hT, hS, hU, hm, hrep⟩ := TakesZero.of_reclassify (p := s.legal)
      (y := ((classified s.legal d g s.decks[d]).mod fun k => { k with
        zeroOffset := settledRaw s.legal k, zeroSet := true, powerUpSpent := true, zeroLimit := false
        pendingZero := none }).note (.zero .zeroSet)) h.settled rfl rfl (.of_append _ _)
    obtain ⟨-, -, -, hl, -, hp⟩ := reclassify_zeroPart s.legal
      (((classified s.legal d g s.decks[d]).mod fun k => { k with
        zeroOffset := settledRaw s.legal k, zeroSet := true, powerUpSpent := true, zeroLimit := false
        pendingZero := none }).note (.zero .zeroSet))
    simp only [note_keeps, mod_keeps, hr, h.window] at hT hm hl hp
    rw [hn]
    exact ⟨hp, fun _ => ⟨⟨hT, hS, hU, hm, hrep⟩, hl⟩, fun hlt => by omega⟩

/-- R36: the power-up zero of a settled deck without a pending ZERO. -/
theorem ZeroTestable.powerUp (h : ZeroTestable d conv g s) (hu : s.decks[d].powerUpSpent = false)
    (hz : s.decks[d].pendingZero = none) {M : Monitor} (hM : sampleMonitor d conv s = M)
    {gross : Int} (hg : roundDiv ((windowWith s.legal g s.decks[d]).sum -
      s.legal.window * s.decks[d].zeroOffset) s.legal.window = gross) :
    M.deck.powerUpSpent = true ∧ M.deck.zeroLimit = s.decks[d].zeroLimit ∧
      ((gross.natAbs : Int) ≤ s.legal.maxD[d] * 100 → TakesZero s.legal
        (windowWith s.legal g s.decks[d]) (s.decks[d].zeroOffset + gross) M) ∧
      (s.legal.maxD[d] * 100 < (gross.natAbs : Int) → M.deck.zeroOffset = s.decks[d].zeroOffset ∧
        M.deck.zeroSet = s.decks[d].zeroSet ∧ LastZero .zeroRange M.notes) := by
  obtain ⟨n, hn⟩ := h.monitor
  have hk := classified_zero s.legal d g s.decks[d]
  simp only [Deck.zeroPart, Prod.mk.injEq] at hk
  obtain ⟨hkt, hks, hku, hkl, -, hkz⟩ := hk
  have hr := (settledGross_eq h).trans hg
  have hp := (powerUpZero_zero s.legal d true (classified s.legal d g s.decks[d])).2.trans
    (hkz.trans hz)
  rw [hM, pendingZeroTest_waits (.inl hp), countDeadline_none hp] at hn
  rcases lt_or_ge (s.legal.maxD[d] * 100) (gross.natAbs : Int) with hrange | hrange
  · rw [powerUpZero_refuses (hku.trans hu) h.settled rfl (by rwa [hr])] at hn
    rw [hn]
    exact ⟨rfl, hkl, fun hle => by omega, fun _ => ⟨hkt, hks, .of_append _ _⟩⟩
  · rw [powerUpZero_takes (hku.trans hu) h.settled rfl (by rwa [hr])] at hn
    obtain ⟨hT, hS, hU, hm, hrep⟩ := TakesZero.of_reclassify (p := s.legal)
      (y := ((classified s.legal d g s.decks[d]).mod fun k => { k with
        zeroOffset := k.zeroOffset + settledGross s.legal k, zeroSet := true
        powerUpSpent := true }).note (.zero .zeroSet)) h.settled rfl rfl (.of_append _ _)
    obtain ⟨-, -, -, hl, -⟩ := reclassify_zeroPart s.legal
      (((classified s.legal d g s.decks[d]).mod fun k => { k with
        zeroOffset := k.zeroOffset + settledGross s.legal k, zeroSet := true
        powerUpSpent := true }).note (.zero .zeroSet))
    simp only [note_keeps, mod_keeps, hr, hkt, h.window] at hT hm hl
    rw [hn]
    exact ⟨hU, hl.trans hkl, fun _ => ⟨hT, hS, hU, hm, hrep⟩, fun hlt => by omega⟩

end
end Sys2Proof.Machine

/-!
The 100th sample of a tracking run (R39, R40), and the zero steps of a sample as a whole (O39).
-/

namespace Sys2Proof.Machine

section
variable {d : DeckId} {conv : Conversion} {g : Int} {s : State}

/-! ### The 100th sample of a tracking run -/

/-- A valid sample on an EMPTY deck with its zero set, clear of axles, with nothing in flight, is the 100th in the
band around the reference level and in the tracking band. -/
structure TrackingDue (d : DeckId) (conv : Conversion) (g : Int) (s : State) : Prop where
  record : recordOf s.legal d s.front[d] conv = .valid g
  unheld : s.decks[d].hold = false
  empty : s.decks[d].mode = .empty
  zeroSet : s.decks[d].zeroSet = true
  tried : s.decks[d].powerUpSpent = true
  noPending : s.decks[d].pendingZero = none
  due : s.decks[d].trackRun = 99
  band : ∃ ref, s.decks[d].reference = some ref ∧ ¬Leaves s.legal g ref
  clear : clearOfAxles s d = true
  noCapture : s.order.engine = none
  noOperation : s.operation = none
  noRun : s.metro.decks[d].run = none
  near : ((g - s.decks[d].zeroOffset).natAbs : Int) ≤ s.legal.interval * 500

namespace TrackingDue

/-- The classification leaves such a deck EMPTY, without a note. -/
theorem classified (h : TrackingDue d conv g s) :
    (Machine.classified s.legal d g s.decks[d]).deck.mode = .empty ∧
      (Machine.classified s.legal d g s.decks[d]).notes = [] := by
  obtain ⟨ref, hr, hin⟩ := h.band
  obtain ⟨hw, -, he, hm⟩ := (recordOf_not_invalid (by rw [h.record]; nofun) :
    cellErrors conv = 0 ∧ RecordParams s.legal d).2
  have hn := h.near
  have ho : ¬Overloads s.legal d (g - s.decks[d].zeroOffset) s.decks[d] := by
    rintro ⟨hov, -⟩
    omega
  have hu : ¬Underloads s.legal (g - s.decks[d].zeroOffset) s.decks[d] := by
    rintro ⟨hun, -⟩
    omega
  rw [classified_band (by omega) (by rw [h.empty]; rfl) ho hu, bandTest_eq hr, if_neg hin]
  exact ⟨h.empty, rfl⟩

theorem surroundings (h : TrackingDue d conv g s) :
    Machine.surroundings s d = ⟨true, false, false⟩ := by
  have ho : s.orderCapture = false := by simp [State.orderCapture, h.noCapture]
  have ht : s.testCapture = false := by simp only [State.testCapture, h.noOperation]
  have hd : s.testCaptureOn d = false := by simp only [State.testCaptureOn, h.noOperation]
  simp only [Machine.surroundings, h.clear, ho, ht, hd, Bool.or_self]

/-- Before tracking nothing but the classification is due. -/
theorem before (h : TrackingDue d conv g s) :
    beforeTracking s.legal d (Machine.surroundings s d) g s.decks[d] =
      Machine.classified s.legal d g s.decks[d] := by
  have hk := classified_zero s.legal d g s.decks[d]
  simp only [Deck.zeroPart, Prod.mk.injEq] at hk
  obtain ⟨-, -, hku, -, -, hkz⟩ := hk
  rw [beforeTracking_eq, powerUpZero_none (.inl (hku.trans h.tried)),
    pendingZeroTest_waits (.inl (hkz.trans h.noPending)), countDeadline_none (hkz.trans h.noPending)]

/-- The sample qualifies. -/
theorem qualifies (h : TrackingDue d conv g s) : Machine.qualifies s.legal true false
    (g - s.decks[d].zeroOffset) (Machine.classified s.legal d g s.decks[d]).deck = true := by
  have hs := congrArg (fun v => v.2.1) (classified_zero s.legal d g s.decks[d])
  exact decide_eq_true ⟨h.classified.1, hs.trans h.zeroSet, rfl, h.near, rfl⟩

theorem trackRun (h : TrackingDue d conv g s) :
    (Machine.classified s.legal d g s.decks[d]).deck.trackRun = 99 :=
  (congrArg (fun v => v.2.2.2.2.1) (classified_zero s.legal d g s.decks[d])).trans h.due

theorem monitor (h : TrackingDue d conv g s) : sampleMonitor d conv s =
    trackZero s.legal d true false g (g - s.decks[d].zeroOffset)
      (Machine.classified s.legal d g s.decks[d]) := by
  rw [sampleMonitor_valid h.record h.unheld, h.before, h.surroundings]

/-- ZERO_TRACKING_MOVE is then the sample. -/
theorem exec_move (h : TrackingDue d conv g s) (hp : s.power = .running)
    (hd : d.val < deckCount s.legal) :
    exec (.zeroTrackingMove d conv) s = .next (sampled d conv s) := by
  have hv : recordOf s.legal d s.front[d] conv ≠ .invalid := by rw [h.record]; nofun
  have hb : beforeTracking s.legal d ⟨true, false, false⟩ g s.decks[d] =
      Machine.classified s.legal d g s.decks[d] := by
    rw [← h.surroundings]
    exact h.before
  have ht : trackingDue s.legal d (Machine.surroundings s d) (.valid g) s.decks[d] = true := by
    rw [h.surroundings]
    simp only [trackingDue, h.unheld, hb, h.qualifies, h.trackRun]
    rfl
  rw [exec_zeroTrackingMove hp hd, h.record, sampleHead_notInvalid hv]
  exact congrArg _ (if_pos ht)

end TrackingDue

/-- With no operation and no measurement in flight what follows the monitor leaves every status. -/
theorem sampleTail_status (ho : s.operation = none) (hr : s.metro.decks[d].run = none)
    (raw : Vector Int 4) (w : Option Int) (entered : Bool) :
    (sampleTail false d raw w entered s).deckStatus = s.deckStatus := by
  have hg : (takeGross d raw w s).operation = none := by
    cases w with
    | none => exact ho
    | some w =>
      have hc : (captureSample d w s).testCaptureOn d = false :=
        testCaptureOn_away (s := captureSample d w s) fun o h => nomatch ho.symm.trans h
      simp only [takeGross, testSample, hc]
      exact ho
  have h4 : (orderStep false d (takeGross d raw w s)).operation = none := by
    rw [← hg]
    simp [State.operation]
  have hr4 : (orderStep false d (takeGross d raw w s)).metro.decks[d].run = none := by
    simpa using hr
  rw [sampleTail, testCaptureStep_none h4, shuntSample_none _ hr4]
  simp

theorem sampled_status (ho : s.operation = none) (hr : s.metro.decks[d].run = none) :
    (sampled d conv s).deckStatus = (afterMonitor d conv s).deckStatus := by
  have hhead : sampleHead d conv s = frontEndStep d conv s := sampleHead_noRun hr
  have hop : (afterMonitor d conv s).operation = none := by
    rw [afterMonitor, (RestStands.applyMonitor d _ _).operation, hhead,
      (RestStands.frontEndStep d s conv).operation, ho]
  have hrun : (afterMonitor d conv s).metro.decks[d].run = none := by
    rw [afterMonitor, (applyMonitor_flight d _ _).2, hhead, (frontEndStep_flight d s conv).2, hr]
  rw [sampled, sampleWhole_fst, (drive_standing _).2]
  exact sampleTail_status hop hrun _ _ _

/-- The status that a monitor's notes leave: lowered by ZERO_LIMIT (R40). -/
theorem afterMonitor_status (hv : recordOf s.legal d s.front[d] conv ≠ .invalid) :
    (.zero .zeroLimit ∉ (sampleMonitor d conv s).notes →
      (afterMonitor d conv s).deckStatus d = s.deckStatus d) ∧
    ((sampleMonitor d conv s).notes = [.zero .zeroLimit] →
      (afterMonitor d conv s).deckStatus d = downgraded (s.deckStatus d)) := by
  have hs : (sampleHead d conv s).deckStatus = s.deckStatus := by
    rw [sampleHead_notInvalid hv, setFront_deckStatus]
  refine ⟨fun hn => ?_, fun hn => ?_⟩
  · rw [afterMonitor, (applyMonitor_quiet _ _ _ hn).2.1, hs]
  · rw [afterMonitor, applyMonitor, hn]
    simp [handleNote, hs]

/-- R39, R40: T follows the 100th sample, or stands at the limit, whose report lowers the deck. -/
theorem TrackingDue.sampled (h : TrackingDue d conv g s) :
    (Machine.sampled d conv s).decks[d].trackRun = 0 ∧
      ((g.natAbs : Int) ≤ s.legal.maxD[d] * 20 →
        (Machine.sampled d conv s).decks[d].zeroOffset = g ∧
        (Machine.sampled d conv s).decks[d].zeroLimit = false ∧
        (Machine.sampled d conv s).deckStatus d = s.deckStatus d) ∧
      (s.legal.maxD[d] * 20 < (g.natAbs : Int) →
        (Machine.sampled d conv s).decks[d].zeroOffset = s.decks[d].zeroOffset ∧
        (Machine.sampled d conv s).decks[d].zeroLimit = true ∧
        (Machine.sampled d conv s).deckMode d = .empty ∧
        (s.decks[d].zeroLimit = false →
          (Machine.sampled d conv s).deckStatus d = downgraded (s.deckStatus d)) ∧
        (s.decks[d].zeroLimit = true →
          (Machine.sampled d conv s).deckStatus d = s.deckStatus d)) := by
  have hv : recordOf s.legal d s.front[d] conv ≠ .invalid := by rw [h.record]; nofun
  have hend : NoTestEnd d (afterMonitor d conv s) := .of_operation hv (by simp [h.noOperation])
  obtain ⟨hz, hmode, -⟩ := sampled_zero hend
  obtain ⟨hquiet, hlimit⟩ := afterMonitor_status hv
  have hk := classified_zero s.legal d g s.decks[d]
  simp only [Deck.zeroPart, Prod.mk.injEq] at hz hk
  obtain ⟨ht, -, -, hl, hrun, -⟩ := hz
  obtain ⟨hkt, -, -, hkl, -, -⟩ := hk
  obtain ⟨hempty, hnotes⟩ := h.classified
  rw [sampled_status h.noOperation h.noRun, ht, hl, hrun, hmode]
  rcases lt_or_ge (s.legal.maxD[d] * 20) (g.natAbs : Int) with hr | hr
  · have hM := h.monitor.trans (trackZero_limits h.qualifies h.trackRun hr)
    cases hz : s.decks[d].zeroLimit with
    | true =>
      rw [if_pos (hkl.trans hz)] at hM
      rw [hM] at hquiet ⊢
      exact ⟨rfl, fun hle => by omega, fun _ => ⟨hkt, hkl.trans hz, hempty, nofun,
        fun _ => hquiet (by rw [(mod_keeps _ _).2, hnotes]; exact List.not_mem_nil)⟩⟩
    | false =>
      rw [if_neg (by rw [hkl, hz]; nofun)] at hM
      rw [hM] at hlimit ⊢
      exact ⟨rfl, fun hle => by omega, fun _ => ⟨hkt, rfl, hempty,
        fun _ => hlimit (by rw [(note_keeps _ _).2, (mod_keeps _ _).2, hnotes]; rfl), nofun⟩⟩
  · have hM := h.monitor.trans (trackZero_moves h.qualifies h.trackRun hr)
    have hno : .zero .zeroLimit ∉ (sampleMonitor d conv s).notes := by
      rw [hM]
      obtain ⟨l, hn, hl⟩ := reclassify_notes s.legal
        ((Machine.classified s.legal d g s.decks[d]).mod fun k =>
          { k with zeroOffset := g, trackRun := 0, zeroLimit := false })
      rw [hn, mod_keeps _ _ |>.2, hnotes, List.nil_append]
      intro hm
      obtain ⟨m, e, -⟩ := hl _ hm
      exact nomatch e
    refine ⟨by simp [hM], fun _ => ⟨by simp [hM], by simp [hM], hquiet hno⟩, fun hlt => by omega⟩

end

/-- Settles O39: a ZERO that waits, a zero that is taken or refused, and the tracking move. -/
theorem zeroStepsOfASample : Obligations.ZeroStepsOfASample := by
  intro d conv s hp hd hl
  refine ⟨fun n hz hn hr => ?invalid, fun h2 => ?noDeadline,
    fun n hz ho => ⟨fun hh hr => ?hold, fun g hh hr hw => ?waits⟩,
    fun g hr hh hov hun hc he ho hrun ht hs => ?tested,
    fun g ref hr hh hm hset hu hz ht href hin hc he ho hrun hnear => ?tracking, fun ht => ?early⟩
  case invalid =>
    have hw := waited_invalid hr hz
    obtain ⟨t, h1, h2, hp0, ⟨hT, hS⟩, hev⟩ := (hw.sampled (.of_invalid hr) hp hd).2 hn
    have ht : t = sampled d conv s :=
      Host.Outcome.next.inj (h2.symm.trans (exec_deckSample conv hp hd))
    refine ⟨t, h1, h2, hp0, hT, hS, ?_, hev⟩
    rw [ht, (sampled_zero (.of_invalid hr)).2.1, sampleMonitor_noSignal hr]
  case noDeadline =>
    rw [exec_zeroDeadlineExpired hp hd, if_neg]
    intro hm
    obtain ⟨n, hn, hle⟩ := sampleMonitor_motion hm
    have := h2 n hn
    omega
  case hold => exact (waited_hold hr hh hz).sampled (.of_operation hr ho) hp hd
  case waits =>
    have hv : recordOf s.legal d s.front[d] conv ≠ .invalid := by rw [hr]; nofun
    have hS : 1 ≤ s.legal.window := by have := (recordOf_not_invalid hv).2.window; omega
    refine (waited_valid hr hh hz (hw.imp_right (.imp_right ?_))).sampled (.of_operation hv ho) hp hd
    exact fun ⟨hset, hf⟩ => classified_unsettled hS hl hset hf
  case tested =>
    have hv : recordOf s.legal d s.front[d] conv ≠ .invalid := by rw [hr]; nofun
    have hS : 1 ≤ s.legal.window := by have := (recordOf_not_invalid hv).2.window; omega
    have hno : ¬Overloads s.legal d (g - s.decks[d].zeroOffset) s.decks[d] :=
      fun h => absurd h.1 (not_lt.mpr hov)
    have hnu : ¬Underloads s.legal (g - s.decks[d].zeroOffset) s.decks[d] :=
      fun h => absurd h.1 (not_lt.mpr hun)
    have hsettled := classified_settled hS hl hno hnu
      (hs.imp_left fun ⟨hset, ref, href, hin⟩ => ⟨hset, ref, href, not_lt.mpr hin⟩)
    have h : ZeroTestable d conv g s := ⟨hr, hh, hc, he, ho, ht, hsettled,
      window_of_classified (.refl _ _) hl⟩
    obtain ⟨hz, hmode, hev⟩ := sampled_zero (.of_operation hv (by simp [ho]) :
      NoTestEnd d (afterMonitor d conv s))
    simp only [Deck.zeroPart, Prod.mk.injEq] at hz
    obtain ⟨hzt, hzs, hzu, hzl, -, hzp⟩ := hz
    refine ⟨fun hu hne => ⟨_, exec_deckSample conv hp hd, ?_⟩,
      fun hu hn => ⟨_, exec_deckSample conv hp hd, ?_⟩⟩
    · obtain ⟨hnone, htake, hrefuse⟩ := h.pending hu hne rfl rfl
      refine ⟨hzp.trans hnone, fun hin => ?_, fun hout => ?_⟩
      · obtain ⟨hk, hlim⟩ := htake hin
        exact ⟨⟨hzt.trans hk.zeroOffset, hzs.trans hk.zeroSet, hzu.trans hk.powerUpSpent,
          hmode.trans hk.mode⟩, hzl.trans hlim, hev _ hk.reported⟩
      · obtain ⟨hT, hZ, hrep⟩ := hrefuse hout
        exact ⟨hzt.trans hT, hzs.trans hZ, hev _ hrep⟩
    · obtain ⟨hspent, hlim, htake, hrefuse⟩ := h.powerUp hu hn rfl rfl
      refine ⟨hzu.trans hspent, hzl.trans hlim, fun hin => ?_, fun hout => ?_⟩
      · have hk := htake hin
        exact ⟨⟨hzt.trans hk.zeroOffset, hzs.trans hk.zeroSet, hzu.trans hk.powerUpSpent,
          hmode.trans hk.mode⟩, hev _ hk.reported⟩
      · obtain ⟨hT, hZ, hrep⟩ := hrefuse hout
        exact ⟨hzt.trans hT, hzs.trans hZ, hev _ hrep⟩
  case tracking =>
    have h : TrackingDue d conv g s := ⟨hr, hh, hm, hset, hu, hz, ht, ⟨ref, href, not_lt.mpr hin⟩,
      hc, he, ho, hrun, hnear⟩
    have hgross : (sampled d conv s).decks[d].gross = some (g - s.decks[d].zeroOffset) := by
      rw [sampled_gross, sampleMonitor_notInvalid (by rw [hr]; nofun), hr]
      exact sampleDeck_valid _ _ _ hh g
    obtain ⟨hrun0, hmove, hlimit⟩ := h.sampled
    simp only [← downgraded_eq]
    exact ⟨_, h.exec_move hp hd, exec_deckSample conv hp hd, hrun0, hgross, hmove, hlimit⟩
  case early =>
    rw [exec_zeroTrackingMove hp hd, if_neg]
    have hk := congrArg (fun v => v.2.2.2.2.1) (sampleHead_zeroPart (d := d) (conv := conv) (s := s))
    rw [trackingDue_early (hk.trans_lt ht)]
    nofun

end Sys2Proof.Machine

/-!
What the order side, the deck monitors, the statuses, the session and the requests leave of the axle sensor unit, the
number of decks in use, the session's being open, the AXLE events and the clock.
-/

namespace Sys2Proof.Machine

/-! ### The view -/

/-- The AXLE category of each port's event set. -/
def State.axleEvents (s : State) (p : Port) : EventCell := (s.portState p).events[(1 : Fin 9)]

/-- The axle sensor unit with what R48, R55 and R56 read of the metrology unit, and the AXLE events and the clock. -/
def State.axleSide (s : State) : AxleUnit × Nat × Bool × (Port → EventCell) × Clock :=
  (s.axle, deckCount s.legal, s.sessionOpen, s.axleEvents, s.clock)

/-- Neither the axle side nor the axle check unit differs. -/
@[simp] abbrev SameAxles (t s : State) : Prop := t.axleSide = s.axleSide ∧ t.check = s.check

section
variable (s : State)

@[simp] theorem setFront_axles (d : DeckId) (f : FrontEnd → FrontEnd) :
    SameAxles (s.setFront d f) s := ⟨rfl, rfl⟩
@[simp] theorem setDeck_axles (d : DeckId) (f : Deck → Deck) : SameAxles (s.setDeck d f) s := ⟨rfl, rfl⟩
@[simp] theorem setOrder_axles (f : OrderUnit → OrderUnit) : SameAxles (s.setOrder f) s := ⟨rfl, rfl⟩
@[simp] theorem setVisit_axles (f : VisitUnit → VisitUnit) : SameAxles (s.setVisit f) s := ⟨rfl, rfl⟩
@[simp] theorem setTicket_axles (f : TicketUnit → TicketUnit) : SameAxles (s.setTicket f) s := ⟨rfl, rfl⟩
@[simp] theorem setWatch_axles (f : WatchUnit → WatchUnit) : SameAxles (s.setWatch f) s := ⟨rfl, rfl⟩
@[simp] theorem setMetroDeck_axles (d : DeckId) (f : MetroDeck → MetroDeck) :
    SameAxles (s.setMetroDeck d f) s := ⟨rfl, rfl⟩
@[simp] theorem setCheck_axleSide (f : AxleCheck → AxleCheck) : (s.setCheck f).axleSide = s.axleSide := rfl

theorem setMetro_axles {f : Metrology → Metrology} (hl : (f s.metro).legal = s.metro.legal)
    (hs : (f s.metro).session = s.metro.session) : SameAxles (s.setMetro f) s := by
  refine ⟨?_, rfl⟩
  simp only [State.axleSide, State.sessionOpen, State.legal, State.setMetro_metro, hl, hs]
  rfl

/-- A raised event: an AXLE event enters that category, another leaves it (R177). -/
theorem raise_axleEvents (c : Cause) (p : Port) : (s.raise c).axleEvents p =
    if categoryOf c = 1 then withEvent c s (s.axleEvents p) else s.axleEvents p := by
  by_cases h : categoryOf c = 1
  · simp [State.axleEvents, State.portState, State.raise, countEvent, h, withEvent, satInc_eq_min,
      State.now]
  · have hv : ¬(categoryOf c).val = 1 := fun e => h (Fin.ext e)
    simp [State.axleEvents, State.portState, State.raise, countEvent, h, hv]

@[simp] theorem raise_axles {c : Cause} (h : ¬categoryOf c = 1) : SameAxles (s.raise c) s := by
  have he : (s.raise c).axleEvents = s.axleEvents := by
    funext p
    rw [raise_axleEvents, if_neg h]
  exact ⟨congrArg (fun e => (s.axle, deckCount s.legal, s.sessionOpen, e, s.clock)) he, rfl⟩

theorem raiseAll_axles {cs : List Cause} (h : ∀ c ∈ cs, ¬categoryOf c = 1) :
    SameAxles (s.raiseAll cs) s := by
  induction cs generalizing s with
  | nil => exact ⟨rfl, rfl⟩
  | cons c cs ih =>
    have hc := raise_axles s (h c (.head _))
    have ht := ih (s.raise c) fun x hx => h x (.tail _ hx)
    exact ⟨ht.1.trans hc.1, ht.2.trans hc.2⟩

@[simp] theorem drive_axleSide : s.drive.axleSide = s.axleSide := by
  have he : s.drive.axleEvents = s.axleEvents := by
    funext p
    simp [State.axleEvents, State.portState, State.drive]
  exact congrArg (fun e => (s.axle, deckCount s.legal, s.sessionOpen, e, s.clock)) he

/-- Steps that each leave the axles. -/
theorem foldl_axles {α : Type} {f : State → α → State} (h : ∀ s a, SameAxles (f s a) s) (l : List α) :
    SameAxles (l.foldl f s) s :=
  ⟨foldl_keeps (view := State.axleSide) (fun s a => (h s a).1) l s,
    foldl_keeps (view := State.check) (fun s a => (h s a).2) l s⟩

/-! ### The order queue -/

@[simp] theorem noticeConditions_axles : SameAxles (noticeConditions s) s := by
  obtain ⟨n, h⟩ := noticeConditions_eq s
  simp [h]

@[simp] theorem raiseLeft_axles (o : Order) (r : OrderResult) : SameAxles (raiseLeft o r s) s := by
  simp [raiseLeft, categoryOf]

@[simp] theorem promoteFrom_axles (l : List Order) : SameAxles (promoteFrom l s) s := by
  induction l generalizing s with
  | nil => simp [promoteFrom]
  | cons o l ih =>
    unfold promoteFrom
    split
    · simp [activate]
    · simpa using ih (raiseLeft o .stale s)

@[simp] theorem leaveActive_axles (r : OrderResult) : SameAxles (leaveActive r s) s := by
  unfold leaveActive
  split <;> simp [promote]

@[simp] theorem examineActive_axles (n : Nat) : SameAxles (examineActive n s) s := by
  unfold examineActive
  split
  · split <;> simp
  · simp

@[simp] theorem reportAmended_axles (n : Nat) : SameAxles (reportAmended n s) s := by
  simp [reportAmended]

@[simp] theorem reportGone_axles (n : Nat) : SameAxles (reportGone n s) s := by
  simp [reportGone, disarm]

@[simp] theorem abortCapture_axles (c : AbortCause) : SameAxles (abortCapture c s) s := by
  rcases abortCapture_cases c s with h | ⟨e, a, -, -, h⟩ <;> simp [h, categoryOf]

@[simp] theorem axleMoved_axles : SameAxles (axleMoved s) s := by
  simp [axleMoved]

@[simp] theorem setActiveState_axles (st : OrderState) : SameAxles (setActiveState st s) s := by
  simp [setActiveState]

@[simp] theorem completeActive_axles (n : Option Nat) : SameAxles (completeActive n s) s := by
  unfold completeActive
  split <;> simp [categoryOf]

@[simp] theorem queueSlip_axles (e : BridgeEnd) (k : SlipKind) (content : List PrintField) :
    SameAxles (queueSlip e k content s) s := by
  unfold queueSlip
  split <;> simp [categoryOf]

@[simp] theorem finishSurvey_axles : SameAxles (finishSurvey s) s := by
  unfold finishSurvey
  split <;> simp

@[simp] theorem leaveWithoutPass_axles : SameAxles (leaveWithoutPass s) s := by
  unfold leaveWithoutPass
  split <;> simp

@[simp] theorem passEndActive_axles : SameAxles (passEndActive s) s := by
  unfold passEndActive
  split
  · simp
  · split <;> simp

@[simp] theorem emptyStops_axleSide : (emptyStops s).axleSide = s.axleSide := by
  simp [emptyStops]

@[simp] theorem passEnd_axleSide : (passEnd s).axleSide = s.axleSide := by
  simp [passEnd]

/-! ### The weighing step and captures -/

@[simp] theorem queueTicket_axles (t : Ticket) (e : BridgeEnd) : SameAxles (queueTicket t e s) s := by
  unfold queueTicket
  split <;> simp [categoryOf]

@[simp] theorem reportTicket_axles (t : Ticket) : SameAxles (reportTicket t s) s := by
  simp [reportTicket, categoryOf]

@[simp] theorem reportClosed_axles (v : Visit) : SameAxles (reportClosed v s) s := by
  unfold reportClosed
  split <;> simp [disarm]

@[simp] theorem weighingStep_axles (r : CaptureResult) : SameAxles (weighingStep r s).2 s := by
  have h : ∀ c entry u, ∀ x ∈ (evaluate c entry u).notes, ¬categoryOf x = 1 := by
    intro c entry u x hx
    rw [evaluate_notes c entry u x hx]
    decide
  unfold weighingStep
  split
  · simp
  · split
    · simp
    · dsimp only
      split
      · simp [holdResult, raiseAll_axles _ (h _ _ _)]
      · simp [issueResult, raiseAll_axles _ (h _ _ _)]

@[simp] theorem releaseHeld_axles (v : Visit) (h : HeldTicket) : SameAxles (releaseHeld v h s).2 s := by
  simp [releaseHeld]

@[simp] theorem orderReleased_axles (n k : Nat) : SameAxles (orderReleased n k s) s := by
  unfold orderReleased
  split <;> simp

@[simp] theorem orderRejected_axles (n : Nat) : SameAxles (orderRejected n s) s := by
  unfold orderRejected
  split
  · split <;> simp
  · simp

@[simp] theorem startCapture_axles : SameAxles (startCapture s) s := by
  unfold startCapture
  split <;> simp

@[simp] theorem takeStop_axleSide (o : Order) (st : Stop) : (takeStop o st s).axleSide = s.axleSide := by
  unfold takeStop
  split <;> simp

@[simp] theorem returnOrder_axles (e : OrderCapture) (c : NotCompleted) :
    SameAxles (returnOrder e c s) s := by
  unfold returnOrder
  split <;> simp [categoryOf]

@[simp] theorem weighOrder_axles (e : OrderCapture) (o : Order) (mass : Int) (m : Marks) :
    SameAxles (weighOrder e o mass m s) s := by
  unfold weighOrder
  dsimp only
  split <;> next h =>
    have hw := weighingStep_axles s
    have hw := h ▸ hw _
    simpa [categoryOf] using hw

@[simp] theorem surveyStop_axles (e : OrderCapture) (m : Marks) (reported : Bool) :
    SameAxles (surveyStop e m reported s) s := by
  unfold surveyStop
  dsimp only
  split
  · simp
  · split <;> simp

@[simp] theorem completeStop_axleSide (e : OrderCapture) (o : Order) :
    (completeStop e o s).axleSide = s.axleSide := by
  unfold completeStop
  dsimp only
  split <;> simp [finishCheck]

@[simp] theorem completeCapture_axleSide : (completeCapture s).axleSide = s.axleSide := by
  unfold completeCapture
  split
  · dsimp only
    split <;> simp
  · rfl

@[simp] theorem testOnSample_axles : SameAxles (testOnSample s).1 s := by
  unfold testOnSample
  split
  · dsimp only
    split <;> simp [countTest]
  · simp

@[simp] theorem abortOnDeck_axles (d : DeckId) : SameAxles (abortOnDeck d s) s := by
  unfold abortOnDeck
  split <;> simp

@[simp] theorem captureStep_axleSide (endFirst : Bool) (d : DeckId) :
    (captureStep endFirst d s).axleSide = s.axleSide := by
  unfold captureStep
  dsimp only
  split <;> split <;> simp

@[simp] theorem orderStep_axleSide (endFirst : Bool) (d : DeckId) :
    (orderStep endFirst d s).axleSide = s.axleSide := by
  unfold orderStep
  dsimp only
  split <;> simp

/-! ### Statuses and the deck monitors -/

theorem logProtective_axles (k : LogKind) (d : Option DeckId) : SameAxles (s.logProtective k d) s :=
  setMetro_axles s (by simp) (by simp)

@[simp] theorem changeStatus_axles (p : Bool) (d : DeckId) (v : VStatus) (c : StatusCause) :
    SameAxles (changeStatus p d v c s) s := by
  rcases changeStatus_cases p d v c s with ⟨-, h⟩ | ⟨-, m, h, -, hl, -, hs, -⟩ <;> rw [h]
  · exact ⟨rfl, rfl⟩
  · exact setMetro_axles s hl hs

@[simp] theorem changeStatusWithEvent_axles (p : Bool) (d : DeckId) (v : VStatus) (c : StatusCause) :
    SameAxles (changeStatusWithEvent p d v c s) s := by
  unfold changeStatusWithEvent
  dsimp only
  split <;> simp [categoryOf]

@[simp] theorem reportDowngrade_axles (c : StatusCause) (d : DeckId) :
    SameAxles (reportDowngrade c d s) s := by
  simp [reportDowngrade, categoryOf]

@[simp] theorem frontEndStep_axles (d : DeckId) (conv : Conversion) :
    SameAxles (frontEndStep d conv s) s := by
  rw [frontEndStep_eq]
  split <;> simp

/-- A monitor's notes raise DECK and METROLOGY events alone (R35, R40). -/
@[simp] theorem handleNote_axles (d : DeckId) (n : DeckNote) : SameAxles (handleNote d s n) s := by
  by_cases h : n = .zero .zeroLimit
  · simp [h, handleNote, categoryOf]
  · rcases handleNote_cases s d n h with e | ⟨c, hc, e⟩
    · simp [e]
    · simp [e, hc]

@[simp] theorem applyMonitor_axles (d : DeckId) (x : Monitor) : SameAxles (applyMonitor d x s) s := by
  have h := foldl_axles ((s.setDeck d fun _ => x.deck).setMetroDeck d
    (countEntries (emptyEntries x.notes))) (fun s n => handleNote_axles s d n) x.notes
  exact ⟨h.1.trans rfl, h.2.trans rfl⟩

/-! ### Measurements and operations -/

/-- A change of the session record that leaves it open, or closed. -/
theorem setSession_axles {f : Session → Session} (h : ∀ r, (f r).isOpen = r.isOpen) :
    SameAxles (setSession f s) s := by
  have hs : (setSession f s).sessionOpen = s.sessionOpen := by
    simp only [State.sessionOpen, setSession_keeps]
    cases s.metro.session <;> simp [h]
  exact ⟨congrArg (fun o => (s.axle, deckCount s.legal, o, s.axleEvents, s.clock)) hs, rfl⟩

@[simp] theorem clearOperation_axles : SameAxles (clearOperation s) s :=
  setSession_axles s fun _ => rfl

@[simp] theorem switchShunt_axles (d : DeckId) (c : CellId) (on : Bool) :
    SameAxles (switchShunt d c on s) s := ⟨rfl, rfl⟩

@[simp] theorem startRun_axles (b : Bool) (d : DeckId) : SameAxles (startRun b d s) s := ⟨rfl, rfl⟩

@[simp] theorem schedule_axles (entered : Bool) (d : DeckId) : SameAxles (schedule entered d s) s := by
  unfold schedule
  split <;> simp [startCheck]

@[simp] theorem abandonRun_axles (d : DeckId) : SameAxles (abandonRun d s) s := by
  unfold abandonRun
  split <;> simp

@[simp] theorem raiseOutcome_axles (o : Operation) (r : OpOutcome) :
    SameAxles (raiseOutcome o r s) s := by
  simp [raiseOutcome, categoryOf]

@[simp] theorem abortOperation_axles (c : AbortCause) : SameAxles (abortOperation c s) s := by
  unfold abortOperation
  split <;> simp

@[simp] theorem abandonOn_axles (c : AbortCause) (d : DeckId) : SameAxles (abandonOn c d s) s := by
  unfold abandonOn
  split
  · simp
  · split <;> simp

@[simp] theorem abandonOperation_axles : SameAxles (abandonOperation s) s := by
  unfold abandonOperation
  split
  · simp
  · split <;> simp

@[simp] theorem abortTestCapture_axles (d : DeckId) : SameAxles (abortTestCapture d s) s := by
  unfold abortTestCapture
  split <;> simp

@[simp] theorem endRun_axles (d : DeckId) : SameAxles (endRun d s) s := ⟨rfl, rfl⟩

@[simp] theorem endRefused_axles (o : Operation) (c : Status) : SameAxles (endRefused o c s) s := by
  simp [endRefused]

@[simp] theorem endAdjusted_axles (o : Operation) (l : List Int) :
    SameAxles (endAdjusted o l s) s := by
  simp [endAdjusted]

@[simp] theorem endTest_axles (o : Operation) (k : TestKind) (c : TestCapture) :
    SameAxles (endTest o k c s) s := by
  have hs : ∀ s l, SameAxles (setSession (fun x => { x with results := x.results ++ l }) s) s :=
    fun s l => setSession_axles s fun _ => rfl
  unfold endTest
  dsimp only
  split <;> simp [logProtective_axles, hs]

@[simp] theorem takeGross_axles (d : DeckId) (raw : Vector Int 4) (w : Option Int) :
    SameAxles (takeGross d raw w s) s := by
  cases w with
  | none => exact ⟨rfl, rfl⟩
  | some w =>
    have hc : SameAxles (captureSample d w s) s := ⟨rfl, rfl⟩
    have ht : ∀ s, SameAxles (setSession (fun r =>
        { r with op := r.op.map fun o =>
          { o with capture := o.capture.map (addTestSample w raw) } }) s) s :=
      fun s => setSession_axles s fun _ => rfl
    simp only [takeGross, testSample]
    split
    · exact ⟨(ht _).1.trans hc.1, (ht _).2.trans hc.2⟩
    · exact hc

@[simp] theorem completeCheck_axles (d : DeckId) (diffs : List Int) :
    SameAxles (completeCheck d diffs s) s := by
  unfold completeCheck
  dsimp only
  split <;> simp [logProtective_axles]

end
end Sys2Proof.Machine

/-!
Legal writes and samples leave the axle side, but that a write of N changes the number of decks in use and a sample
may bring the map's recovery.
-/

namespace Sys2Proof.Machine

/-! ### Legal writes (R152) -/

/-- The axle side but for N, and the axle check unit. -/
def State.axlesApart (s : State) : AxleUnit × Bool × (Port → EventCell) × Clock × AxleCheck :=
  (s.axle, s.sessionOpen, s.axleEvents, s.clock, s.check)

theorem SameAxles.apart {s t : State} (h : SameAxles t s) : t.axlesApart = s.axlesApart := by
  simp only [SameAxles, State.axleSide, Prod.mk.injEq] at h
  simp only [State.axlesApart, h]

theorem SameAxles.of_apart {s t : State} (h : t.axlesApart = s.axlesApart)
    (hn : deckCount t.legal = deckCount s.legal) : SameAxles t s := by
  simp only [State.axlesApart, Prod.mk.injEq] at h
  simp only [SameAxles, State.axleSide, h, hn, and_self]

section
variable (s : State)

theorem clearTables_axles : SameAxles (clearTables s) s := by
  have h := foldl_axles (s.setVisit (make .cleared)) (f := fun s n => reportGone n s)
    (fun s n => by simp) (s.visit.visits.map (·.number))
  exact ⟨h.1.trans rfl, h.2.trans rfl⟩

theorem makeChange_apart (w : Write) : (makeChange s w).axlesApart = s.axlesApart := by
  unfold makeChange
  dsimp only
  split
  · rw [logDeliberate_eq, (logProtective_axles ..).apart, (clearTables_axles _).apart, logDeliberate_eq,
      (logProtective_axles ..).apart]
    rfl
  · rw [logDeliberate_eq, (logProtective_axles ..).apart]
    rfl

theorem lowerDecks_axles (ds : List DeckId) : SameAxles (lowerDecks ds s) s :=
  foldl_axles s (fun s d => by simp) ds

theorem writeLegal_apart (ws : List Write) (ds : List DeckId) :
    (writeLegal ws ds s).axlesApart = s.axlesApart := by
  have hw := foldl_keeps (view := State.axlesApart) makeChange_apart ws s
  have hc : ∀ s : State, SameAxles (setSession (supersede (decksAffectedBy ws)) s) s :=
    fun s => setSession_axles s fun _ => rfl
  have hm : ∀ s : State, (s.setMetro (rewriteCheck ws)).axlesApart = s.axlesApart := by
    intro s
    cases ws <;> rfl
  unfold writeLegal
  dsimp only
  rw [(lowerDecks_axles ..).apart, (hc _).apart, hm, hw]

/-- A parameter other than N leaves the number of decks in use. -/
theorem setLegalValue_deckCount (p : LegalParams) {i : ParamId} (h : i ≠ .decks) (v : Int) :
    deckCount (setLegalValue p i v) = deckCount p := by
  cases i with
  | decks => exact absurd rfl h
  | _ => rfl

theorem resultingSet_deckCount {ws : List Write} (h : ∀ w ∈ ws, w.1 ≠ .decks) (p : LegalParams) :
    deckCount (resultingSet p ws) = deckCount p := by
  unfold resultingSet
  induction ws generalizing p with
  | nil => rfl
  | cons w ws ih =>
    exact (ih (fun x hx => h x (.tail _ hx)) _).trans (setLegalValue_deckCount p (h w (.head _)) _)

theorem writeLegal_axles {ws : List Write} (h : ∀ w ∈ ws, w.1 ≠ .decks) (ds : List DeckId) :
    SameAxles (writeLegal ws ds s) s := by
  refine .of_apart (writeLegal_apart s ws ds) ?_
  simp only [State.legal, writeLegal_keeps, resultingSet_deckCount h]

theorem applyWindows_axles : SameAxles (applyWindows s) s :=
  foldl_axles s (fun s d => by simp) _

theorem applyZeros_axles (ws : List Write) : SameAxles (applyZeros ws s) s :=
  foldl_axles s (fun s d => by simp) _

/-- The map and the session's being open. -/
def State.mapOpen (s : State) : AxleMap × Bool := (s.axle.map, s.sessionOpen)

theorem SameAxles.mapOpen {s t : State} (h : SameAxles t s) : t.mapOpen = s.mapOpen := by
  simp only [SameAxles, State.axleSide, Prod.mk.injEq] at h
  simp only [State.mapOpen, h]

/-- A change of N starts pairs and decks, and leaves the map. -/
theorem applyDecks_mapOpen (old : LegalParams) : (applyDecks old s).mapOpen = s.mapOpen := by
  unfold applyDecks
  refine (foldl_keeps (view := State.mapOpen) (fun s j => ?_) ..).trans
    (foldl_keeps (view := State.mapOpen) (fun s d => ?_) ..)
  · split <;> rfl
  · split <;> rfl

/-- The effects of a write, but those of a change of N. -/
theorem applyEffects_axles (old : LegalParams) {ws : List Write} (h : ∀ w ∈ ws, w.1 ≠ .decks) :
    SameAxles (applyEffects old ws s) s := by
  have hn : (ws.any fun w => decide (w.1 = .decks)) = false := by simpa using h
  have hc : ∀ s : State, SameAxles (capBudgets s) s := fun _ => ⟨rfl, rfl⟩
  unfold applyEffects
  simp only [hn, Bool.false_eq_true, if_false]
  split <;> split <;> simp [hc, applyZeros_axles, applyWindows_axles]

theorem applyEffects_mapOpen (old : LegalParams) (ws : List Write) :
    (applyEffects old ws s).mapOpen = s.mapOpen := by
  have hc : ∀ s : State, (capBudgets s).mapOpen = s.mapOpen := fun _ => rfl
  unfold applyEffects
  dsimp only
  split <;> split <;> split <;>
    simp only [hc, (applyZeros_axles _ _).mapOpen, (applyWindows_axles _).mapOpen, applyDecks_mapOpen]

/-- A legal write leaves the map and the session open. -/
theorem legalWrite_mapOpen (ws : List Write) : (legalWrite ws s).mapOpen = s.mapOpen := by
  have h := writeLegal_apart s ws (decksLowered s ws)
  simp only [State.axlesApart, Prod.mk.injEq] at h
  unfold legalWrite
  split
  · rfl
  · rw [(noticeConditions_axles _).mapOpen, applyEffects_mapOpen]
    simp only [State.mapOpen, h]

theorem legalWrite_axles {ws : List Write} (h : ∀ w ∈ ws, w.1 ≠ .decks) :
    SameAxles (legalWrite ws s) s := by
  unfold legalWrite
  split
  · exact ⟨rfl, rfl⟩
  · simp [applyEffects_axles _ _ h, writeLegal_axles _ h]

/-- The writes of four cells of a deck do not name N. -/
theorem legalWrite_cells (p : LegalParams) {f : CellId → ParamId} (v : CellId → Int)
    (hf : ∀ i, f i ≠ .decks) : SameAxles (legalWrite (changesOf p (cellWrites f v)) s) s := by
  refine legalWrite_axles s fun w hw => ?_
  obtain ⟨i, hi⟩ := mem_cellWrites hw
  exact hi ▸ hf i

/-! ### Samples (R21) -/

theorem endAdjustZero_axles (o : Operation) (c : TestCapture) : SameAxles (endAdjustZero o c s) s := by
  have hw : ∀ s p ds, SameAxles (writeLegal (changesOf p (cellWrites (.zero o.deck) (newZero c))) ds s) s := by
    refine fun s p ds => writeLegal_axles s (fun w hw => ?_) ds
    obtain ⟨i, hi⟩ := mem_cellWrites hw
    simp [hi]
  unfold endAdjustZero
  dsimp only
  split <;> simp [hw]

theorem endAdjustSpan_axles (o : Operation) (ref : Nat) (c : TestCapture) :
    SameAxles (endAdjustSpan o ref c s) s := by
  unfold endAdjustSpan
  dsimp only
  split
  · simp
  · split
    · simp
    · split
      · simp
      · simp [legalWrite_cells]

@[simp] theorem endTestCapture_axles : SameAxles (endTestCapture s) s := by
  unfold endTestCapture
  split
  · simp
  · split
    · simp
    · split <;> simp [endAdjustZero_axles, endAdjustSpan_axles]

@[simp] theorem testCaptureStep_axles (endFirst : Bool) (d : DeckId) :
    SameAxles (testCaptureStep endFirst d s) s := by
  unfold testCaptureStep
  dsimp only
  split <;> split <;> simp

theorem completeReference_axles (d : DeckId) (diffs : List Int) :
    SameAxles (completeReference d diffs s) s := by
  unfold completeReference
  dsimp only
  split
  · simp
  · split
    · simp
    · split
      · simp
      · simp [legalWrite_cells]

@[simp] theorem shuntSample_axles (d : DeckId) (raw : Vector Int 4) :
    SameAxles (shuntSample d raw s).1 s := by
  unfold shuntSample
  split
  · simp
  · dsimp only
    split
    · simp
    · split
      · split <;> simp
      · dsimp only
        split <;> simp [completeReference_axles]

theorem sampleHead_axles (d : DeckId) (conv : Conversion) : SameAxles (sampleHead d conv s) s := by
  unfold sampleHead abandonOnError
  split <;> simp

/-- What precedes the test of the map's recovery in a sample. -/
def sampleBefore (endFirst : Bool) (d : DeckId) (raw : Vector Int 4) (w : Option Int) (entered : Bool)
    (s : State) : State :=
  schedule entered d
    (shuntSample d raw (testCaptureStep endFirst d (orderStep endFirst d (takeGross d raw w s)))).1

theorem sampleTail_eq (endFirst : Bool) (d : DeckId) (raw : Vector Int 4) (w : Option Int)
    (entered : Bool) : sampleTail endFirst d raw w entered s =
      noticeConditions (recoverMap (sampleBefore endFirst d raw w entered s)) := rfl

theorem sampleBefore_axleSide (endFirst : Bool) (d : DeckId) (raw : Vector Int 4) (w : Option Int)
    (entered : Bool) : (sampleBefore endFirst d raw w entered s).axleSide = s.axleSide := by
  simp [sampleBefore]

end
end Sys2Proof.Machine

/-!
The rows of section 3.4, one by one (O47).
-/

namespace Sys2Proof.Machine

/-! ### A pass's ends -/

/-- The boundary at which the vehicles of a pass enter a bridge of `n` decks, and that at which they leave. -/
def entryBoundary (n : Nat) (pass : Direction) : Nat := if pass = .forward then 0 else n

def exitBoundary (n : Nat) (pass : Direction) : Nat := if pass = .forward then n else 0

/-- The deck at the entry boundary of a pass; that at its exit boundary is the entry deck of the other direction. -/
def IsEntryDeck (n : Nat) : Direction → DeckId → Prop
  | .forward, k => k.val = 0
  | .reverse, k => k.val + 1 = n

def IsExitDeck (n : Nat) : Direction → DeckId → Prop
  | .forward, k => k.val + 1 = n
  | .reverse, k => k.val = 0

/-- The decks on the entry side and on the exit side of an interior boundary. -/
def AreSides (j : Nat) : Direction → DeckId → DeckId → Prop
  | .forward, en, ex => en.val + 1 = j ∧ ex.val = j
  | .reverse, en, ex => ex.val + 1 = j ∧ en.val = j

theorem deckAt_val {i : Nat} {k : DeckId} (h : k.val = i) : deckAt i = some k := by
  subst h
  simp [deckAt, k.isLt]

/-! ### Within a pass (R50) -/

section
variable {n : Nat} {pass d : Direction} {m : AxleMap} {k : DeckId}

theorem entryBoundary_ne_exitBoundary (hn : 1 ≤ n) : entryBoundary n pass ≠ exitBoundary n pass := by
  cases pass <;> simp [entryBoundary, exitBoundary] <;> omega

theorem IsEntryDeck.deckAt (h : IsEntryDeck n pass k) :
    deckAt (if pass = .forward then 0 else n - 1) = some k := by
  cases pass <;> simp only [IsEntryDeck] at h <;> exact deckAt_val (by simp; omega)

theorem IsExitDeck.deckAt (h : IsExitDeck n pass k) :
    deckAt (if pass = .forward then n - 1 else 0) = some k := by
  cases pass <;> simp only [IsExitDeck] at h <;> exact deckAt_val (by simp; omega)

theorem crossInPass_enter (hk : IsEntryDeck n pass k) :
    crossInPass n pass (entryBoundary n pass) pass m =
      if 16 ≤ m.list.length then .error .listFull
      else if 255 < m.departed + m.list.length + 1 then .error .indexLimit
      else .ok { m with list := m.list ++ [⟨m.departed + m.list.length + 1, k⟩] } := by
  simp [crossInPass, entryBoundary, hk.deckAt]

theorem crossInPass_leaveBack (hk : IsEntryDeck n pass k) (hd : d ≠ pass) {l : List Axle} {a : Axle}
    (hl : m.list = l ++ [a]) : crossInPass n pass (entryBoundary n pass) d m =
      if a.deck = k then .ok { m with list := l } else .error .noAxle := by
  simp [crossInPass, entryBoundary, hk.deckAt, hd, hl]

theorem crossInPass_leave (hn : 1 ≤ n) (hk : IsExitDeck n pass k) {l : List Axle} {a : Axle}
    (hl : m.list = a :: l) : crossInPass n pass (exitBoundary n pass) pass m =
      if a.deck = k then .ok { m with list := l, departed := m.departed + 1 } else .error .noAxle := by
  have hb := (entryBoundary_ne_exitBoundary (pass := pass) hn).symm
  unfold entryBoundary exitBoundary at hb
  simp only [crossInPass, exitBoundary, hk.deckAt, hb, hl, if_true, if_false, decide_true]

theorem crossInPass_enterBack (hn : 1 ≤ n) (hk : IsExitDeck n pass k) (hd : d ≠ pass) :
    crossInPass n pass (exitBoundary n pass) d m =
      if m.departed = 0 then .error .noAxle
      else if 16 ≤ m.list.length then .error .listFull
      else .ok { m with list := ⟨m.departed, k⟩ :: m.list, departed := m.departed - 1 } := by
  have hb := (entryBoundary_ne_exitBoundary (pass := pass) hn).symm
  unfold entryBoundary exitBoundary at hb
  simp [crossInPass, exitBoundary, hk.deckAt, hb, hd]

theorem axlesOn_eq_zero (m : AxleMap) (d : DeckId) : axlesOn m d = 0 ↔ ∀ x ∈ m.list, x.deck ≠ d := by
  simp [axlesOn, List.filter_eq_nil_iff]

/-- At an interior boundary the front-most record on the entry side moves on, or the back-most on the exit side
moves back. -/
theorem crossInPass_inner {j : Nat} {en ex : DeckId} (h0 : 0 < j) (hj : j < n)
    (hs : AreSides j pass en ex) : crossInPass n pass j d m =
      if d = pass then
        (if axlesOn m en = 0 then .error .noAxle else .ok { m with list := moveFirst en ex m.list })
      else if axlesOn m ex = 0 then .error .noAxle
      else .ok { m with list := moveLast ex en m.list } := by
  have h0' : j ≠ 0 := by omega
  have hj' : j ≠ n := by omega
  cases pass <;> obtain ⟨h1, h2⟩ := hs
  · have hen : deckAt (j - 1) = some en := deckAt_val (by omega)
    simp [crossInPass, h0', hj', hen, deckAt_val h2]
  · have hex : deckAt (j - 1) = some ex := deckAt_val (by omega)
    simp [crossInPass, h0', hj', hex, deckAt_val h2]

end

/-! ### Moving a record (R50) -/

theorem moveFirst_append {a b : DeckId} {u : List Axle} {x : Axle} (v : List Axle) (hx : x.deck = a)
    (hu : ∀ y ∈ u, y.deck ≠ a) :
    moveFirst a b (u ++ x :: v) = u ++ { x with deck := b } :: v := by
  induction u with
  | nil => simp [moveFirst, hx]
  | cons y u ih =>
    rw [List.cons_append, moveFirst, if_neg (hu y (.head _)), ih fun z hz => hu z (.tail _ hz)]
    rfl

theorem moveLast_append {a b : DeckId} (u : List Axle) {x : Axle} {v : List Axle} (hx : x.deck = a)
    (hv : ∀ y ∈ v, y.deck ≠ a) :
    moveLast a b (u ++ x :: v) = u ++ { x with deck := b } :: v := by
  have hr : (u ++ x :: v).reverse = v.reverse ++ x :: u.reverse := by simp
  rw [moveLast, hr, moveFirst_append _ hx fun y hy => hv y (List.mem_reverse.mp hy)]
  simp

/-! ### The crossing of a VALID map (R49 to R53) -/

/-- What a crossing comes to, once the pass has taken it. -/
def crossOutcome (started : Bool) : Except FaultReason AxleMap → MapStep
  | .error e => .fault e
  | .ok m => .applied (closePass m).1 started (closePass m).2

section
variable {n : Nat} {pass d : Direction} {m : AxleMap} {k : DeckId} {j : Nat}

theorem crossMap_inPass (hm : m.direction = some pass) :
    crossMap n j d m = crossOutcome false (crossInPass n pass j d m) := by
  simp only [crossMap, hm]
  cases crossInPass n pass j d m <;> rfl

theorem closePass_nil (h : m.list = []) : closePass m = (⟨m.valid, none, [], 0⟩, true) := by
  obtain ⟨v, dir, l, dep⟩ := m
  cases h
  rfl

theorem closePass_ne (h : m.list ≠ []) : closePass m = (m, false) := by
  simp [closePass, h]

/-- A list that an outward crossing leaves: emptied, it ends the pass. -/
theorem crossOutcome_of_list (m : AxleMap) : crossOutcome false (.ok m) =
    if m.list = [] then .applied ⟨m.valid, none, [], 0⟩ false true else .applied m false false := by
  by_cases h : m.list = []
  · simp [crossOutcome, closePass_nil h, h]
  · simp [crossOutcome, closePass_ne h, h]

/-- The first crossing of a pass places one axle on the entry deck (R49). -/
theorem crossMap_first (hm : m.direction = none) (hl : m.list = []) (hd : m.departed = 0)
    (hk : IsEntryDeck n pass k) : crossMap n (entryBoundary n pass) pass m =
      .applied ⟨m.valid, some pass, [⟨1, k⟩], 0⟩ true false := by
  obtain ⟨v, dir, l, dep⟩ := m
  cases hm
  cases hl
  cases hd
  have h := crossInPass_enter (m := ⟨v, some pass, [], 0⟩) hk
  cases pass <;> simp [entryBoundary] at h <;> simp [crossMap, entryBoundary, h, closePass]

theorem crossMap_notEntry (hm : m.direction = none) (h : j ≠ entryBoundary n d) :
    crossMap n j d m = .fault .notEntry := by
  cases d <;> simp [entryBoundary] at h <;> simp [crossMap, hm, h]

variable (hm : m.direction = some pass)
include hm

theorem crossMap_enter (hk : IsEntryDeck n pass k) : crossMap n (entryBoundary n pass) pass m =
    if 16 ≤ m.list.length then .fault .listFull
    else if 255 < m.departed + m.list.length + 1 then .fault .indexLimit
    else .applied { m with list := m.list ++ [⟨m.departed + m.list.length + 1, k⟩] } false false := by
  rw [crossMap_inPass hm, crossInPass_enter hk]
  split
  · rfl
  · split
    · rfl
    · simp [crossOutcome_of_list]

theorem crossMap_leaveBack (hk : IsEntryDeck n pass k) (hd : d ≠ pass) {l : List Axle} {a : Axle}
    (hl : m.list = l ++ [a]) : crossMap n (entryBoundary n pass) d m =
      if a.deck = k then
        (if l = [] then .applied ⟨m.valid, none, [], 0⟩ false true
          else .applied { m with list := l } false false)
      else .fault .noAxle := by
  rw [crossMap_inPass hm, crossInPass_leaveBack hk hd hl]
  split
  · rw [crossOutcome_of_list]
  · rfl

theorem crossMap_leave (hn : 1 ≤ n) (hk : IsExitDeck n pass k) {l : List Axle} {a : Axle}
    (hl : m.list = a :: l) : crossMap n (exitBoundary n pass) pass m =
      if a.deck = k then
        (if l = [] then .applied ⟨m.valid, none, [], 0⟩ false true
          else .applied { m with list := l, departed := m.departed + 1 } false false)
      else .fault .noAxle := by
  rw [crossMap_inPass hm, crossInPass_leave hn hk hl]
  split
  · rw [crossOutcome_of_list]
  · rfl

theorem crossMap_enterBack (hn : 1 ≤ n) (hk : IsExitDeck n pass k) (hd : d ≠ pass) :
    crossMap n (exitBoundary n pass) d m =
      if m.departed = 0 then .fault .noAxle
      else if 16 ≤ m.list.length then .fault .listFull
      else .applied { m with list := ⟨m.departed, k⟩ :: m.list, departed := m.departed - 1 }
        false false := by
  rw [crossMap_inPass hm, crossInPass_enterBack hn hk hd]
  split
  · rfl
  · split
    · rfl
    · simp [crossOutcome_of_list]

theorem crossMap_onward {en ex : DeckId} (h0 : 0 < j) (hj : j < n) (hs : AreSides j pass en ex)
    {u v : List Axle} {a : Axle} (hl : m.list = u ++ a :: v) (ha : a.deck = en)
    (hu : ∀ x ∈ u, x.deck ≠ en) : crossMap n j pass m =
      .applied { m with list := u ++ { a with deck := ex } :: v } false false := by
  have hon : axlesOn m en ≠ 0 := fun h =>
    (axlesOn_eq_zero m en).mp h a (by simp [hl]) ha
  rw [crossMap_inPass hm, crossInPass_inner h0 hj hs, if_pos rfl, if_neg hon, hl,
    moveFirst_append v ha hu]
  simp [crossOutcome_of_list]

theorem crossMap_onward_absent {en ex : DeckId} (h0 : 0 < j) (hj : j < n) (hs : AreSides j pass en ex)
    (h : ∀ x ∈ m.list, x.deck ≠ en) : crossMap n j pass m = .fault .noAxle := by
  rw [crossMap_inPass hm, crossInPass_inner h0 hj hs, if_pos rfl, if_pos ((axlesOn_eq_zero m en).mpr h)]
  rfl

theorem crossMap_backward {en ex : DeckId} (h0 : 0 < j) (hj : j < n) (hs : AreSides j pass en ex)
    (hd : d ≠ pass) {u v : List Axle} {a : Axle} (hl : m.list = u ++ a :: v) (ha : a.deck = ex)
    (hv : ∀ x ∈ v, x.deck ≠ ex) : crossMap n j d m =
      .applied { m with list := u ++ { a with deck := en } :: v } false false := by
  have hon : axlesOn m ex ≠ 0 := fun h =>
    (axlesOn_eq_zero m ex).mp h a (by simp [hl]) ha
  rw [crossMap_inPass hm, crossInPass_inner h0 hj hs, if_neg hd, if_neg hon, hl,
    moveLast_append u ha hv]
  simp [crossOutcome_of_list]

theorem crossMap_backward_absent {en ex : DeckId} (h0 : 0 < j) (hj : j < n) (hs : AreSides j pass en ex)
    (hd : d ≠ pass) (h : ∀ x ∈ m.list, x.deck ≠ ex) : crossMap n j d m = .fault .noAxle := by
  rw [crossMap_inPass hm, crossInPass_inner h0 hj hs, if_neg hd, if_pos ((axlesOn_eq_zero m ex).mpr h)]
  rfl

end

/-- Settles O47: each row of section 3.4 is a case of the crossing. -/
theorem crossingsMoveAxles : Obligations.CrossingsMoveAxles := by
  intro n h1 h4
  refine ⟨fun m j dir hm hl hd => ⟨?first_forward, ?first_reverse, ?notEntry⟩,
    fun m pass entry exit hm hfwd hrev => ?_⟩
  case first_forward =>
    rintro rfl rfl k hk
    exact crossMap_first (pass := .forward) hm hl hd hk
  case first_reverse =>
    rintro rfl rfl k hk
    exact crossMap_first (pass := .reverse) hm hl hd hk
  case notEntry =>
    intro hf hr
    refine crossMap_notEntry hm ?_
    cases dir
    · exact fun h => hf ⟨rfl, h⟩
    · exact fun h => hr ⟨rfl, h⟩
  intro back entryB exitB moved ended
  have hen : IsEntryDeck n pass entry := by
    cases pass
    · exact (hfwd rfl).1
    · exact (hrev rfl).2
  have hex : IsExitDeck n pass exit := by
    cases pass
    · exact (hfwd rfl).2
    · exact (hrev rfl).1
  have hb : back ≠ pass := by cases pass <;> simp [back]
  refine ⟨fun hlen hidx => ?_, fun hlen => ?_, fun hlen hidx => ?_, fun l a hl ha => ?_, fun l a hl ha => ?_,
    fun l a hl ha => ?_, fun l a hl ha => ?_, fun hd => ?_, fun hd hlen => ?_, fun hd hlen => ?_,
    fun j en ex h0 hj hsf hsr => ?inner⟩
  · exact (crossMap_enter hm hen).trans (by rw [if_neg (by omega), if_neg (by omega)])
  · exact (crossMap_enter hm hen).trans (if_pos hlen)
  · exact (crossMap_enter hm hen).trans (by rw [if_neg (by omega), if_pos hidx])
  · exact (crossMap_leaveBack hm hen hb hl).trans (if_pos ha)
  · exact (crossMap_leaveBack hm hen hb hl).trans (if_neg ha)
  · exact (crossMap_leave hm h1 hex hl).trans (if_pos ha)
  · exact (crossMap_leave hm h1 hex hl).trans (if_neg ha)
  · exact (crossMap_enterBack hm h1 hex hb).trans (if_pos hd)
  · exact (crossMap_enterBack hm h1 hex hb).trans (by rw [if_neg (by omega), if_neg (by omega)])
  · exact (crossMap_enterBack hm h1 hex hb).trans (by rw [if_neg (by omega), if_pos hlen])
  case inner =>
    have hs : AreSides j pass en ex := by
      cases pass
      · exact hsf rfl
      · exact hsr rfl
    exact ⟨fun u a v hl ha hu => crossMap_onward hm h0 hj hs hl ha hu,
      crossMap_onward_absent hm h0 hj hs,
      fun u a v hl ha hv => crossMap_backward hm h0 hj hs hb hl ha hv,
      crossMap_backward_absent hm h0 hj hs hb⟩

end Sys2Proof.Machine

/-!
A crossing that a VALID map takes keeps its content sound (R48).
-/

namespace Sys2Proof.Machine

/-! ### A sound map -/

theorem indicesFrom_iff (n : Nat) (l : List Axle) :
    indicesFrom n l = true ↔ l.map (·.index) = List.range' n l.length := by
  induction l generalizing n with
  | nil => simp [indicesFrom]
  | cons a l ih => simp [indicesFrom, ih, List.range'_succ]

/-- A record in the list does not stand nearer to the exit end than one before it. -/
def NotAhead : Direction → Axle → Axle → Prop
  | .forward, a, b => b.deck ≤ a.deck
  | .reverse, a, b => a.deck ≤ b.deck

theorem NotAhead.trans {pass : Direction} {a b c : Axle} (h : NotAhead pass a b)
    (h' : NotAhead pass b c) : NotAhead pass a c := by
  cases pass
  · exact le_trans (α := DeckId) h' h
  · exact le_trans (α := DeckId) h h'

theorem decksInOrder_iff (pass : Direction) (l : List Axle) :
    decksInOrder pass l = true ↔ l.Pairwise (NotAhead pass) := by
  induction l with
  | nil => simp [decksInOrder]
  | cons a l ih =>
    cases l with
    | nil => simp [decksInOrder]
    | cons b l =>
      have hab : decksInOrder pass (a :: b :: l) = true ↔
          NotAhead pass a b ∧ decksInOrder pass (b :: l) = true := by
        cases pass <;> simp [decksInOrder, NotAhead]
      rw [hab, ih, List.pairwise_cons (a := a)]
      refine and_congr_left fun hp => ⟨fun h x hx => ?_, fun h => h b (.head _)⟩
      rcases List.mem_cons.mp hx with rfl | hx
      · exact h
      · exact h.trans (List.rel_of_pairwise_cons hp hx)

/-- The content of a map in a pass, but for the list's not being empty (R48). -/
structure PassSound (n : Nat) (pass : Direction) (m : AxleMap) : Prop where
  length : m.list.length ≤ 16
  indices : m.list.map (·.index) = List.range' (m.departed + 1) m.list.length
  most : m.departed + m.list.length ≤ 255
  onBridge : ∀ a ∈ m.list, a.deck.val < n
  order : m.list.Pairwise (NotAhead pass)

theorem mapOk_inPass {n : Nat} {pass : Direction} {m : AxleMap} (hm : m.direction = some pass) :
    mapOk n m = true ↔ PassSound n pass m ∧ m.list ≠ [] := by
  simp only [mapOk, hm, Bool.and_eq_true, decide_eq_true_eq, indicesFrom_iff, decksInOrder_iff,
    List.all_eq_true, Bool.not_eq_true', List.isEmpty_eq_false_iff]
  exact ⟨fun ⟨⟨⟨⟨hl, hi⟩, hd⟩, ho⟩, hp, hne⟩ => ⟨⟨hl, hi, hd, ho, hp⟩, hne⟩,
    fun ⟨⟨hl, hi, hd, ho, hp⟩, hne⟩ => ⟨⟨⟨⟨hl, hi⟩, hd⟩, ho⟩, hp, hne⟩⟩

theorem PassSound.mapOk {n : Nat} {pass : Direction} {m : AxleMap} (h : PassSound n pass m)
    (hm : m.direction = some pass) (hne : m.list ≠ []) : mapOk n m = true :=
  (mapOk_inPass hm).mpr ⟨h, hne⟩

theorem mapOk_outside {n : Nat} {m : AxleMap} (hm : m.direction = none) :
    mapOk n m = true ↔ m.list = [] ∧ m.departed = 0 := by
  simp only [mapOk, hm, Bool.and_eq_true, decide_eq_true_eq, List.isEmpty_iff]
  refine ⟨And.right, fun ⟨hl, hd⟩ => ⟨?_, hl, hd⟩⟩
  simp [hl, hd, indicesFrom]

/-- A map without axles is sound on a bridge of any length. -/
theorem mapOk_empty {n : Nat} {m : AxleMap} (h : mapOk n m = true) (hl : m.list = []) (n' : Nat) :
    mapOk n' m = true := by
  cases hm : m.direction with
  | none => exact (mapOk_outside hm).mpr ((mapOk_outside hm).mp h)
  | some pass => exact absurd hl ((mapOk_inPass hm).mp h).2

/-! ### Records entering, leaving and moving -/

section
variable {n : Nat} {pass : Direction} {m : AxleMap} {k : DeckId} (h : PassSound n pass m)
include h

/-- No record of the pass stands behind its entry deck. -/
theorem PassSound.enters (hn : 1 ≤ n) (hk : IsEntryDeck n pass k) (hl : m.list.length < 16)
    (hi : m.departed + m.list.length + 1 ≤ 255) :
    PassSound n pass { m with list := m.list ++ [⟨m.departed + m.list.length + 1, k⟩] } where
  length := by simp; omega
  indices := by
    simp [h.indices, List.range'_concat]
    omega
  most := by simp; omega
  onBridge := by
    intro a ha
    rcases List.mem_append.mp ha with ha | ha
    · exact h.onBridge a ha
    · obtain rfl := List.mem_singleton.mp ha
      cases pass <;> simp only [IsEntryDeck] at hk ⊢ <;> omega
  order := by
    refine List.pairwise_append.mpr ⟨h.order, List.pairwise_singleton _ _, fun a ha b hb => ?_⟩
    obtain rfl := List.mem_singleton.mp hb
    have := h.onBridge a ha
    cases pass <;> simp only [IsEntryDeck, NotAhead, Fin.le_def] at hk ⊢ <;> omega

theorem PassSound.entersBack (hn : 1 ≤ n) (hk : IsExitDeck n pass k) (hl : m.list.length < 16)
    (hd : 1 ≤ m.departed) :
    PassSound n pass { m with list := ⟨m.departed, k⟩ :: m.list, departed := m.departed - 1 } where
  length := by simp; omega
  indices := by
    simp [h.indices, List.range'_succ]
    omega
  most := by
    have := h.most
    simp
    omega
  onBridge := by
    intro a ha
    rcases List.mem_cons.mp ha with rfl | ha
    · cases pass <;> simp only [IsExitDeck] at hk <;> simp <;> omega
    · exact h.onBridge a ha
  order := by
    refine List.pairwise_cons.mpr ⟨fun a ha => ?_, h.order⟩
    have := h.onBridge a ha
    cases pass <;> simp only [IsExitDeck, NotAhead, Fin.le_def] at hk ⊢ <;> omega

theorem PassSound.leaves {a : Axle} {l : List Axle} (hl : m.list = a :: l) :
    PassSound n pass { m with list := l, departed := m.departed + 1 } where
  length := by
    have := h.length
    simp [hl] at this ⊢
    omega
  indices := by
    have := h.indices
    simp [hl, List.range'_succ] at this
    exact this.2
  most := by
    have := h.most
    simp [hl] at this ⊢
    omega
  onBridge x hx := h.onBridge x (by simp [hl, hx])
  order := (List.pairwise_cons.mp (hl ▸ h.order)).2

theorem PassSound.leavesBack {a : Axle} {l : List Axle} (hl : m.list = l ++ [a]) :
    PassSound n pass { m with list := l } where
  length := by
    have := h.length
    simp [hl] at this ⊢
    omega
  indices := by
    have := h.indices
    simp [hl, List.range'_concat] at this
    exact this.1
  most := by
    have := h.most
    simp [hl] at this ⊢
    omega
  onBridge x hx := h.onBridge x (by simp [hl, hx])
  order := (List.pairwise_append.mp (hl ▸ h.order)).1

/-- A record takes another deck, between those of the records before and behind it. -/
theorem PassSound.moves {u v : List Axle} {a : Axle} (hl : m.list = u ++ a :: v) (hk : k.val < n)
    (hu : ∀ x ∈ u, NotAhead pass x { a with deck := k })
    (hv : ∀ x ∈ v, NotAhead pass { a with deck := k } x) :
    PassSound n pass { m with list := u ++ { a with deck := k } :: v } := by
  have hs := h
  rw [show m = { m with list := u ++ a :: v } by rw [← hl]] at hs
  obtain ⟨hlen, hind, hmost, hon, hord⟩ := hs
  refine ⟨by simpa using hlen, by simpa using hind, by simpa using hmost, fun x hx => ?_, ?_⟩
  · simp only [List.mem_append, List.mem_cons] at hx
    rcases hx with hx | rfl | hx
    · exact hon x (by simp [hx])
    · exact hk
    · exact hon x (by simp [hx])
  · obtain ⟨hpu, hpv, huv⟩ := List.pairwise_append.mp hord
    refine List.pairwise_append.mpr ⟨hpu, List.pairwise_cons.mpr ⟨hv, (List.pairwise_cons.mp hpv).2⟩,
      fun x hx y hy => ?_⟩
    rcases List.mem_cons.mp hy with rfl | hy
    · exact hu x hx
    · exact huv x hx y (.tail _ hy)

end

/-! ### The first and the last record on a deck -/

theorem first_on (k : DeckId) (l : List Axle) : (∀ x ∈ l, x.deck ≠ k) ∨
    ∃ u a v, l = u ++ a :: v ∧ a.deck = k ∧ ∀ x ∈ u, x.deck ≠ k := by
  induction l with
  | nil => exact .inl (by simp)
  | cons a l ih =>
    by_cases ha : a.deck = k
    · exact .inr ⟨[], a, l, rfl, ha, by simp⟩
    · rcases ih with h | ⟨u, b, v, rfl, hb, hu⟩
      · exact .inl (List.forall_mem_cons.mpr ⟨ha, h⟩)
      · exact .inr ⟨a :: u, b, v, rfl, hb, List.forall_mem_cons.mpr ⟨ha, hu⟩⟩

theorem last_on (k : DeckId) (l : List Axle) : (∀ x ∈ l, x.deck ≠ k) ∨
    ∃ u a v, l = u ++ a :: v ∧ a.deck = k ∧ ∀ x ∈ v, x.deck ≠ k := by
  rcases first_on k l.reverse with h | ⟨u, a, v, hl, ha, hu⟩
  · exact .inl fun x hx => h x (List.mem_reverse.mpr hx)
  · refine .inr ⟨v.reverse, a, u.reverse, ?_, ha, fun x hx => hu x (List.mem_reverse.mp hx)⟩
    rw [← List.reverse_reverse l, hl]
    simp

theorem exists_entryDeck {n : Nat} (h1 : 1 ≤ n) (h4 : n ≤ 4) (pass : Direction) :
    ∃ k, IsEntryDeck n pass k := by
  cases pass
  · exact ⟨0, rfl⟩
  · exact ⟨⟨n - 1, by omega⟩, by simp only [IsEntryDeck]; omega⟩

theorem exists_exitDeck {n : Nat} (h1 : 1 ≤ n) (h4 : n ≤ 4) (pass : Direction) :
    ∃ k, IsExitDeck n pass k := by
  cases pass
  · exact ⟨⟨n - 1, by omega⟩, by simp only [IsExitDeck]; omega⟩
  · exact ⟨0, rfl⟩

theorem exists_sides {n j : Nat} (h0 : 0 < j) (hj : j < n) (h4 : n ≤ 4) (pass : Direction) :
    ∃ en ex : DeckId, AreSides j pass en ex ∧ en.val < n ∧ ex.val < n := by
  cases pass
  · exact ⟨⟨j - 1, by omega⟩, ⟨j, by omega⟩, ⟨Nat.sub_add_cancel h0, rfl⟩, (Nat.sub_le j 1).trans_lt hj, hj⟩
  · exact ⟨⟨j, by omega⟩, ⟨j - 1, by omega⟩, ⟨Nat.sub_add_cancel h0, rfl⟩, hj, (Nat.sub_le j 1).trans_lt hj⟩

/-! ### Crossings -/

/-- The boundaries of a bridge: the two of a pass's ends, and the interior ones. -/
theorem boundary_cases {n j : Nat} (hj : j ≤ n) (pass : Direction) :
    j = entryBoundary n pass ∨ j = exitBoundary n pass ∨ 0 < j ∧ j < n := by
  cases pass <;> simp [entryBoundary, exitBoundary] <;> omega

section
variable {n j : Nat} {pass d : Direction} {m m' : AxleMap} {started ended : Bool}

/-- A list that an outward crossing leaves, sound and not empty, or empty with the pass ended. -/
theorem mapOk_afterLeaving (hm : m.direction = some pass) (h : PassSound n pass m)
    (he : (if m.list = [] then MapStep.applied ⟨m.valid, none, [], 0⟩ false true
      else .applied m false false) = .applied m' started ended) : mapOk n m' = true := by
  split at he
  · cases he
    rfl
  · rename_i hne
    cases he
    exact h.mapOk hm hne

/-- Within a pass each row that the map takes keeps it sound (R50). -/
theorem crossMap_sound_inPass (hm : m.direction = some pass) (h1 : 1 ≤ n) (h4 : n ≤ 4) (hj : j ≤ n)
    (h : PassSound n pass m) (hne : m.list ≠ [])
    (he : crossMap n j d m = .applied m' started ended) : mapOk n m' = true := by
  rcases boundary_cases hj pass with rfl | rfl | ⟨h0, hjn⟩
  · obtain ⟨k, hk⟩ := exists_entryDeck h1 h4 pass
    by_cases hd : d = pass
    · subst hd
      rw [crossMap_enter hm hk] at he
      split at he
      · cases he
      · split at he
        · cases he
        · cases he
          exact (h.enters h1 hk (by omega) (by omega)).mapOk hm (by simp)
    · obtain ⟨l, a, hl⟩ := List.eq_nil_or_concat' m.list |>.resolve_left hne
      rw [crossMap_leaveBack hm hk hd hl] at he
      split at he
      · exact mapOk_afterLeaving (m := { m with list := l }) hm (h.leavesBack hl) he
      · cases he
  · obtain ⟨k, hk⟩ := exists_exitDeck h1 h4 pass
    by_cases hd : d = pass
    · subst hd
      obtain ⟨a, l, hl⟩ := List.exists_cons_of_ne_nil hne
      rw [crossMap_leave hm h1 hk hl] at he
      split at he
      · exact mapOk_afterLeaving (m := { m with list := l, departed := m.departed + 1 }) hm
          (h.leaves hl) he
      · cases he
    · rw [crossMap_enterBack hm h1 hk hd] at he
      split at he
      · cases he
      · split at he
        · cases he
        · cases he
          exact (h.entersBack h1 hk (by omega) (by omega)).mapOk hm (by simp)
  · obtain ⟨en, ex, hs, hen, hex⟩ := exists_sides h0 hjn h4 pass
    by_cases hd : d = pass
    · subst hd
      rcases first_on en m.list with hno | ⟨u, a, v, hl, ha, hu⟩
      · rw [crossMap_onward_absent hm h0 hjn hs hno] at he
        cases he
      · rw [crossMap_onward hm h0 hjn hs hl ha hu] at he
        cases he
        obtain ⟨-, hav, hua⟩ := List.pairwise_append.mp (hl ▸ h.order)
        refine (h.moves hl hex (fun x hx => ?_) (fun x hx => ?_)).mapOk hm (by simp)
        · have h1 := hua x hx a (.head _)
          have h2 := Fin.val_ne_of_ne (hu x hx)
          cases d <;> simp only [AreSides, NotAhead, Fin.le_def, ha] at hs h1 ⊢ <;> omega
        · have h1 := (List.pairwise_cons.mp hav).1 x hx
          cases d <;> simp only [AreSides, NotAhead, Fin.le_def, ha] at hs h1 ⊢ <;> omega
    · rcases last_on ex m.list with hno | ⟨u, a, v, hl, ha, hv⟩
      · rw [crossMap_backward_absent hm h0 hjn hs hd hno] at he
        cases he
      · rw [crossMap_backward hm h0 hjn hs hd hl ha hv] at he
        cases he
        obtain ⟨-, hav, hua⟩ := List.pairwise_append.mp (hl ▸ h.order)
        refine (h.moves hl hen (fun x hx => ?_) (fun x hx => ?_)).mapOk hm (by simp)
        · have h1 := hua x hx a (.head _)
          cases pass <;> simp only [AreSides, NotAhead, Fin.le_def, ha] at hs h1 ⊢ <;> omega
        · have h1 := (List.pairwise_cons.mp hav).1 x hx
          have h2 := Fin.val_ne_of_ne (hv x hx)
          cases pass <;> simp only [AreSides, NotAhead, Fin.le_def, ha] at hs h1 ⊢ <;> omega

/-- Each crossing that the map takes keeps it sound (R48). -/
theorem crossMap_sound (h1 : 1 ≤ n) (h4 : n ≤ 4) (hj : j ≤ n) (h : mapOk n m = true)
    (he : crossMap n j d m = .applied m' started ended) : mapOk n m' = true := by
  cases hm : m.direction with
  | some pass =>
    obtain ⟨hs, hne⟩ := (mapOk_inPass hm).mp h
    exact crossMap_sound_inPass hm h1 h4 hj hs hne he
  | none =>
    obtain ⟨hl, hd⟩ := (mapOk_outside hm).mp h
    by_cases hb : j = entryBoundary n d
    · obtain ⟨k, hk⟩ := exists_entryDeck h1 h4 d
      rw [hb, crossMap_first hm hl hd hk] at he
      cases he
      have hs : PassSound n d ⟨m.valid, some d, [], 0⟩ := ⟨by simp, by simp, by simp, by simp, by simp⟩
      exact (hs.enters h1 hk (by simp) (by simp)).mapOk rfl (by simp)
    · rw [crossMap_notEntry hm hb] at he
      cases he

end
end Sys2Proof.Machine

/-!
The axle map keeps R48, and R56 while a session is open: what each command does to it (O55).
-/

namespace Sys2Proof.Machine

/-! ### Keeping the map -/

section
variable {s t : State}

/-- Where the axle side stands so does the map. -/
theorem MapOk.side (h : MapOk s) (ht : t.axleSide = s.axleSide) : MapOk t := by
  simp only [State.axleSide, Prod.mk.injEq] at ht
  simpa only [MapOk, ht] using h

theorem MapOk.same (h : MapOk s) (ht : SameAxles t s) : MapOk t := h.side ht.1

/-- A VALID map has no open session beside it (R56). -/
theorem MapOk.closed (h : MapOk s) (hv : s.axle.map.valid = true) : s.sessionOpen = false := by
  by_contra ho
  have := (h.2 (by simpa using ho)).1
  simp [hv] at this

/-- The content alone: no session is open. -/
theorem MapOk.of_closed (hm : mapOk (deckCount s.legal) s.axle.map = true)
    (ho : s.sessionOpen = false) : MapOk s :=
  ⟨hm, fun h => absurd (ho.symm.trans h) Bool.false_ne_true⟩

theorem setPort_map (p : Port) (f : PortState → PortState) (h : MapOk s) : MapOk (s.setPort p f) := h

theorem MapOk.raise (h : MapOk s) (c : Cause) : MapOk (s.raise c) := h

theorem MapOk.foldl {α : Type} {f : State → α → State} (hf : ∀ s a, MapOk s → MapOk (f s a))
    (l : List α) (h : MapOk s) : MapOk (l.foldl f s) := by
  induction l generalizing s with
  | nil => exact h
  | cons a l ih => exact ih (hf s a h)

/-! ### Taking and answering a request -/

theorem touchSession_axles (p : Port) (s : State) : SameAxles (touchSession p s) s := by
  unfold touchSession
  split
  · exact setSession_axles s fun r => by split <;> simp_all
  · exact ⟨rfl, rfl⟩

theorem answer_map {h : Header} {k : Byte} {r : Response} (hs : MapOk s) : MapOk (answer h k r s) := by
  unfold answer recordRefusal
  dsimp only
  split
  · split <;> exact hs
  · exact hs

theorem countRejection_map {k : ReqKind} (hs : MapOk s) : MapOk (countRejection k s) := by
  unfold countRejection
  split <;> exact hs

theorem routeRequest_map {h : Header} {k : ReqKind} {owner : State → State × Response}
    (ho : ∀ s, MapOk s → MapOk (owner s).1) (hs : MapOk s) : MapOk (routeRequest h k owner s) := by
  unfold routeRequest
  split
  · exact answer_map (countRejection_map hs)
  · split
    · exact answer_map hs
    · exact answer_map (ho s hs)

theorem runCommand_map {f : State → State} (hf : ∀ s, MapOk s → MapOk (f s)) (hs : MapOk s)
    (he : runCommand f s = .next t) : MapOk t := by
  rw [runCommand_next] at he
  cases he
  split
  · exact (hf s hs).side (drive_axleSide _)
  · exact hs

theorem request_map {h : Header} {k : ReqKind} {owner : State → State × Response}
    (ho : ∀ s, MapOk s → MapOk (owner s).1) (hs : MapOk s) (he : request h k owner s = .next t) :
    MapOk t := by
  refine runCommand_map (fun s hs => ?_) hs he
  dsimp only
  split
  · exact routeRequest_map ho (MapOk.same (s := s.setPort h.port _) hs (touchSession_axles _ _))
  · exact hs

/-- A request whose owner leaves the axle side. -/
theorem request_side {h : Header} {k : ReqKind} {owner : State → State × Response}
    (hs : MapOk s) (ho : ∀ s, (owner s).1.axleSide = s.axleSide) (he : request h k owner s = .next t) :
    MapOk t :=
  request_map (fun s hs => hs.side (ho s)) hs he

/-- An event that leaves the axle side. -/
theorem runCommand_side {f : State → State} (hs : MapOk s) (hf : ∀ s, (f s).axleSide = s.axleSide)
    (he : runCommand f s = .next t) : MapOk t :=
  runCommand_map (fun s hs => hs.side (hf s)) hs he

end

/-! ### Requests that leave the axle side -/

section
variable (s : State)

theorem ownClearEvents_map (h : Header) (l : List (Nat × Nat)) {s : State} (hs : MapOk s) :
    MapOk (ownClearEvents h l s).1 := by
  unfold ownClearEvents
  split <;> exact hs

theorem ownSetPortRate_map (h : Header) (n c : Nat) {s : State} (hs : MapOk s) :
    MapOk (ownSetPortRate h n c s).1 := by
  unfold ownSetPortRate
  split
  · exact hs
  · dsimp only
    split <;> exact hs

theorem ownClearDeckHistory_side (n : Nat) (l : List (Choice DeckMode × BitVec 32)) :
    (ownClearDeckHistory n l s).1.axleSide = s.axleSide := by
  unfold ownClearDeckHistory
  split
  · split <;> simp
  · simp

theorem ownZero_side (n : Nat) : (ownZero n s).1.axleSide = s.axleSide := by
  unfold ownZero
  split
  · simp
  · split
    · simp
    · exact (foldl_axles s (f := fun s d => s.setDeck d takeZero) (fun s d => by simp) _).1

theorem ownStageOrder_side (v : Nat) (k : Choice OrderKind) (st auto : Bool) (c : Option Nat) :
    (ownStageOrder v k st auto c s).1.axleSide = s.axleSide := by
  unfold ownStageOrder
  split
  · simp
  · dsimp only
    split
    · simp
    · unfold enqueue
      split <;> simp [activate]

theorem ownCancelOrder_side (v : Nat) : (ownCancelOrder v s).1.axleSide = s.axleSide := by
  unfold ownCancelOrder
  split
  · unfold cancelActive
    split <;> simp
  · split <;> simp [cancelStaged]

theorem ownCapture_side : (ownCapture s).1.axleSide = s.axleSide := by
  unfold ownCapture
  repeat' split
  all_goals simp

theorem ownFinishSurvey_side : (ownFinishSurvey s).1.axleSide = s.axleSide := by
  unfold ownFinishSurvey
  repeat' split
  all_goals simp

theorem ownSetClass_side (c : Nat) (b : ClassBody) : (ownSetClass c b s).1.axleSide = s.axleSide := by
  unfold ownSetClass
  dsimp only
  repeat' split
  all_goals simp

theorem ownDeleteClass_side (c : Nat) : (ownDeleteClass c s).1.axleSide = s.axleSide := by
  unfold ownDeleteClass
  repeat' split
  all_goals simp

theorem ownOpenVisit_side (plate : Text) (k : Choice VisitKind) (c : Nat) (g : Byte) (grade : Text) :
    (ownOpenVisit plate k c g grade s).1.axleSide = s.axleSide := by
  have he : ∀ e, (evict e s).axleSide = s.axleSide := by
    intro e
    cases e <;> simp [evict]
  unfold ownOpenVisit
  dsimp only
  repeat' split
  all_goals simp [he]

theorem ownAmendVisit_side (n : Nat) (r : BitVec 16) (a : Amendment) :
    (ownAmendVisit n r a s).1.axleSide = s.axleSide := by
  unfold ownAmendVisit
  repeat' split
  all_goals simp

theorem ownVoidVisit_side (n : Nat) (r : BitVec 16) :
    (ownVoidVisit n r s).1.axleSide = s.axleSide := by
  unfold ownVoidVisit
  repeat' split
  all_goals simp

theorem ownRemoveVisit_side (n : Nat) : (ownRemoveVisit n s).1.axleSide = s.axleSide := by
  unfold ownRemoveVisit
  repeat' split
  all_goals simp

theorem ownStoreTare_side (n : Nat) : (ownStoreTare n s).1.axleSide = s.axleSide := by
  unfold ownStoreTare
  repeat' split
  all_goals simp

theorem ownDeleteTare_side (plate : Text) : (ownDeleteTare plate s).1.axleSide = s.axleSide := by
  unfold ownDeleteTare
  split <;> simp

theorem ownReprint_side (n : Nat) (p : Choice BridgeEnd) :
    (ownReprint n p s).1.axleSide = s.axleSide := by
  unfold ownReprint
  repeat' split
  all_goals simp

theorem ownSetPrinting_side (c : Choice Bool) (i l : Nat) :
    (ownSetPrinting c i l s).1.axleSide = s.axleSide := by
  unfold ownSetPrinting
  split <;> simp

theorem ownSetWatch_side (w : Choice WatchTarget) : (ownSetWatch w s).1.axleSide = s.axleSide := by
  unfold ownSetWatch
  repeat' split
  all_goals simp

theorem ownClearWatchFlags_side (l : List (Choice WatchChannel × BitVec 16)) :
    (ownClearWatchFlags l s).1.axleSide = s.axleSide := by
  unfold ownClearWatchFlags
  repeat' split
  all_goals simp

theorem ownReleaseHold_side (n : Nat) : (ownReleaseHold n s).1.axleSide = s.axleSide := by
  unfold ownReleaseHold
  split
  · simp
  · split <;> simp [categoryOf]

theorem ownRejectHold_side (n : Nat) : (ownRejectHold n s).1.axleSide = s.axleSide := by
  unfold ownRejectHold
  repeat' split
  all_goals simp [categoryOf]

theorem ownOperation_side (k : Option OpKind) (n : Nat) :
    (ownOperation k n s).1.axleSide = s.axleSide := by
  have hs : ∀ k d, (startOperation k d s).axleSide = s.axleSide := by
    intro k d
    have ho : ∀ o, SameAxles (setSession (fun r => { r with op := some o }) s) s :=
      fun o => setSession_axles s fun _ => rfl
    unfold startOperation
    dsimp only
    split <;> simp [ho]
  unfold ownOperation
  repeat' split
  all_goals simp [hs]

theorem ownCertifyDeck_side (n : Nat) : (ownCertifyDeck n s).1.axleSide = s.axleSide := by
  have hc : ∀ d, (certify d s).axleSide = s.axleSide := by
    intro d
    simp [certify, logProtective_axles]
  unfold ownCertifyDeck
  repeat' split
  all_goals simp [hc]

theorem ownSetShuntMode_side (n : Nat) (m : Choice ShuntModeName) (p : Nat) :
    (ownSetShuntMode n m p s).1.axleSide = s.axleSide := by
  unfold ownSetShuntMode
  split <;> simp

theorem ownReleaseLog_side (q l r : Nat) : (ownReleaseLog q l r s).1.axleSide = s.axleSide := by
  unfold ownReleaseLog
  split
  · simp
  · exact (setMetro_axles s rfl rfl).1

theorem ownSetClock_map (d n : Nat) {s : State} (hs : MapOk s) : MapOk (ownSetClock d n s).1 := by
  have h1 : ∀ f, MapOk (s.setClock f) := fun _ => hs
  unfold ownSetClock
  split
  · exact hs
  · split
    · exact hs
    · exact (h1 _).same (logProtective_axles ..)

/-! ### Printer lines, the switch -/

theorem printRefused_side (e : BridgeEnd) : (printRefused e s).axleSide = s.axleSide := by
  unfold printRefused failHead
  dsimp only
  repeat' split
  all_goals simp [categoryOf]

theorem printAnswered_side (e : BridgeEnd) (a : PrintReply) :
    (printAnswered e a s).axleSide = s.axleSide := by
  have ht : (printTaken e s).axleSide = s.axleSide := by
    unfold printTaken
    split <;> simp
  unfold printAnswered
  split
  · split <;> simp [printerFails, printRefused_side, ht, categoryOf]
  · rfl

theorem statusAnswered_side (e : BridgeEnd) (a : QueryReply) :
    (statusAnswered e a s).axleSide = s.axleSide := by
  unfold statusAnswered
  split
  · split <;> simp [lineReady, endQuery, categoryOf]
  · rfl

theorem answerTimedOut_side (e : BridgeEnd) : (answerTimedOut e s).axleSide = s.axleSide := by
  unfold answerTimedOut
  split
  · exact printRefused_side s e
  · split <;> simp [endQuery]

theorem switchTaken_side (l : SwitchLevel) : (switchTaken l s).axleSide = s.axleSide := by
  have hm : SameAxles (s.setMetro fun m => { m with switch := l }) s := setMetro_axles s rfl rfl
  unfold switchTaken
  split
  · rfl
  · simp [logProtective_axles, categoryOf, hm]

/-! ### The map's recovery and the beams (R54, R55) -/

@[simp] theorem reportApplied_axles : SameAxles (reportApplied s) s := by
  simp [reportApplied]

@[simp] theorem reportCrossing_axleSide (a b : Bool) : (reportCrossing a b s).axleSide = s.axleSide := by
  unfold reportCrossing
  dsimp only
  split <;> split <;> simp

@[simp] theorem crossOnDeck_axles (d : DeckId) : SameAxles (crossOnDeck s d) s := by
  simp [crossOnDeck]

/-- What follows a crossing on the map leaves the axle side (R47). -/
theorem handleCrossing_axleSide (j : Boundary) (d : Direction) :
    (handleCrossing j d s).axleSide = (crossOnMap j d s).1.axleSide := by
  have h2 := fun s => (foldl_axles s crossOnDeck_axles (decksBeside s j)).1
  have h3 : ∀ s (l : List DeckId), (l.foldl (fun s d => abandonOn .motion d s) s).axleSide = s.axleSide :=
    fun s l => (foldl_axles s (fun s d => by simp) l).1
  have h5 : ∀ s (l : List DeckId), (l.foldl (fun s d => abortTestCapture d s) s).axleSide = s.axleSide :=
    fun s l => (foldl_axles s (fun s d => by simp) l).1
  have h2' := (foldl_axles (crossOnMap j d s).1 crossOnDeck_axles (decksBeside s j)).1
  unfold handleCrossing
  dsimp only
  rw [h5]
  split
  · rw [reportCrossing_axleSide, h3, h2']
  · rw [h3, h2']

end

section
variable {s t : State}

theorem recoverMap_map (hs : MapOk s) : MapOk (recoverMap s) := by
  unfold recoverMap
  split
  · rename_i hc
    have ho : s.sessionOpen = false := by
      simp only [mapCanRecover, Bool.and_eq_true, Bool.not_eq_true'] at hc
      exact hc.1.1.2
    have h1 : ∀ c, MapOk ((s.setMap fun _ => ⟨true, none, [], 0⟩).raise c) :=
      fun c => .of_closed ((mapOk_outside rfl).mpr ⟨rfl, rfl⟩) ho
    dsimp only
    split
    · exact (h1 _).side (passEnd_axleSide _)
    · exact h1 _
  · exact hs

theorem invalidateMap_map (hs : MapOk s) : MapOk (invalidateMap s) :=
  ⟨hs.1, fun ho => ⟨rfl, (hs.2 ho).2⟩⟩

theorem pairInUse_iff {p : LegalParams} {j : Boundary} :
    pairInUse p j = true ↔ j.val ≤ deckCount p := decide_eq_true_iff

theorem deckCount_bounds (p : LegalParams) : 1 ≤ deckCount p ∧ deckCount p ≤ 4 := by
  unfold deckCount
  split <;> omega

theorem crossOnMap_map {j : Boundary} (hj : j.val ≤ deckCount s.legal) (d : Direction)
    (hs : MapOk s) : MapOk (crossOnMap j d s).1 := by
  obtain ⟨h1, h4⟩ := deckCount_bounds s.legal
  unfold crossOnMap
  split
  · rename_i hv
    split
    · rename_i m started ended he
      exact .of_closed (s := s.setMap fun _ => m) (crossMap_sound h1 h4 hj hs.1 he) (hs.closed hv)
    · exact ((invalidateMap_map hs).raise _).same (axleMoved_axles _)
  · exact hs

theorem handlePhaseError_map (j : Boundary) (a b : BeamState) (hs : MapOk s) :
    MapOk (handlePhaseError j a b s) := by
  have h1 : MapOk (s.setPair j fun p => { p with errors := satInc 255 p.errors }) := hs
  exact ((invalidateMap_map h1).raise _).same (axleMoved_axles _)

theorem handleStuck_map (j : Boundary) (b : Beam) (hs : MapOk s) : MapOk (handleStuck j b s) := by
  unfold handleStuck
  dsimp only
  split
  · have h1 : MapOk (s.setPair j (markStuck b)) := hs
    exact ((invalidateMap_map h1).raise _).same (axleMoved_axles _)
  · exact hs

theorem handleDecoded_map {j : Boundary} (hj : j.val ≤ deckCount s.legal) (a b : BeamState)
    (x : Decoded) (hs : MapOk s) : MapOk (handleDecoded j a b x s) := by
  cases x with
  | quiet => exact hs
  | phaseError => exact handlePhaseError_map j a b hs
  | crossing d => exact (crossOnMap_map hj d hs).side (handleCrossing_axleSide s j d)

theorem takeTransition_map {j : Boundary} (hj : j.val ≤ deckCount s.legal) (hs : MapOk s) :
    MapOk (takeTransition j s) := by
  have hset : ∀ f, MapOk (s.setPair j f) := fun _ => hs
  unfold takeTransition
  dsimp only
  split
  · exact recoverMap_map ((hset _).same (noticeConditions_axles _))
  · split
    · exact hset _
    · exact recoverMap_map ((handleDecoded_map (s := s.setPair j _) hj _ _ _ (hset _)).same
        (noticeConditions_axles _))

theorem filterExpired_map (j : Boundary) (hs : MapOk s) : MapOk (filterExpired j s) := by
  unfold filterExpired
  split
  · rename_i h
    exact takeTransition_map (pairInUse_iff.mp h.1) hs
  · exact hs

theorem rawChange_map (j : Boundary) (raw : BeamState) (hs : MapOk s) : MapOk (rawChange j raw s) := by
  have h1 : MapOk (setRaw j raw s) := hs
  unfold rawChange
  split
  · exact hs
  · dsimp only
    split
    · exact filterExpired_map j h1
    · exact h1

theorem takeDue_map (hs : MapOk s) : MapOk (takeDue s) := by
  rw [takeDue_eq]
  refine hs.foldl (fun s j hs => ?_) _
  unfold takeIfDue
  split
  · exact filterExpired_map j hs
  · exact hs

theorem ownSetBeamFilter_map (ms : Nat) (hs : MapOk s) : MapOk (ownSetBeamFilter ms s).1 := by
  have h1 : MapOk (s.setAxle fun a => { a with filter := clamp 0 50 ms }) := hs
  rw [ownSetBeamFilter, accept_fst]
  exact takeDue_map h1

/-! ### Sessions and legal writes (R56, R157, R158) -/

theorem endSession_map (c : SessionEndCause) (hs : MapOk s) : MapOk (endSession c s) := by
  unfold endSession
  split
  · dsimp only
    have h1 : MapOk ((abandonOperation s).logProtective (.sessionEnd c)) :=
      (hs.same (abandonOperation_axles s)).same (logProtective_axles ..)
    generalize (abandonOperation s).logProtective (.sessionEnd c) = s1 at h1
    refine recoverMap_map (.of_closed h1.1 ?_)
    simp only [State.sessionOpen, State.setMetro_metro, setSession_keeps]
    cases s1.metro.session <;> rfl
  · exact hs

theorem resetPort_map (p : Port) (c : ResetCause) (hs : MapOk s) : MapOk (resetPort p c s) := by
  have h1 : MapOk (s.setPort p resetPortState) := hs
  unfold resetPort
  dsimp only
  split
  · exact endSession_map .portReset h1
  · exact h1

theorem replyEnds_map (p : Port) (hs : MapOk s) : MapOk (replyEnds p s) := by
  unfold replyEnds takeDeferred
  dsimp only
  split
  · split <;> split
    · exact resetPort_map p .request (s := (s.setPort p finishReply).setPort p applyRate) hs
    · exact resetPort_map p .request (s := s.setPort p finishReply) hs
    · exact hs
    · exact hs
  · exact hs

/-- The map as a session that opens leaves it: INVALID, its content kept (R56). -/
theorem closeMap_map (s : State) : (closeMap s).axle.map = { s.axle.map with valid := false } := by
  unfold closeMap
  split
  · rfl
  · rename_i hv
    rw [← Bool.eq_false_iff.mpr hv]

theorem ownOpenSession_map (hs : MapOk s) : MapOk (ownOpenSession s).1 := by
  unfold ownOpenSession
  split
  · exact hs
  · rename_i hr
    have hl : s.axle.map.list = [] := by
      by_contra hne
      rw [openRefusal, if_pos hne] at hr
      split at hr <;> cases hr
    have hc : ∀ s', s'.axle = s.axle → MapOk (closeMap s') := by
      intro s' he
      have hm := closeMap_map s'
      rw [he] at hm
      refine ⟨mapOk_empty (m := (closeMap s').axle.map) (n := deckCount s.legal) ?_ ?_ _, fun _ => ⟨?_, ?_⟩⟩
      · rw [hm]
        exact hs.1
      all_goals rw [hm]
      · exact hl
      · exact hl
    have ha : ∀ s', s'.axle = s.axle →
        MapOk ((noticeConditions (closeMap (abandonChecks s'))).raise .sessionOpened) := by
      intro s' he
      have hk := (foldl_axles s' (fun s d => abandonRun_axles s d) (List.finRange 4)).1
      have hx : (abandonChecks s').axle = s'.axle := congrArg Prod.fst hk
      exact ((hc _ (hx.trans he)).same (noticeConditions_axles _)).raise _
    exact ha _ rfl

theorem ownCloseSession_map (hs : MapOk s) : MapOk (ownCloseSession s).1 := by
  unfold ownCloseSession
  split
  · exact endSession_map .closed hs
  · exact hs

/-- Legal parameters change in a session alone, with the map empty: N may take any value (R56, R151). -/
theorem ownSetLegal_map (l : List LegalWrite) (hs : MapOk s) : MapOk (ownSetLegal l s).1 := by
  have hw : ∀ ws, s.sessionOpen = true → MapOk (legalWrite ws s) := by
    intro ws ho
    obtain ⟨hv, hl⟩ := hs.2 ho
    have hm := legalWrite_mapOpen s ws
    simp only [State.mapOpen, Prod.mk.injEq] at hm
    rw [MapOk, hm.1]
    exact ⟨mapOk_empty hs.1 hl _, fun _ => ⟨hv, hl⟩⟩
  have hg : legalGate s = none → s.sessionOpen = true := by
    intro h
    unfold legalGate at h
    split at h
    · cases h
    · simp_all
  unfold ownSetLegal
  split
  · exact hs
  · exact hs
  · rename_i hgate _
    split
    · exact hs
    · dsimp only
      split
      · exact hs
      · exact hw _ (hg hgate)

/-! ### Samples, the day, the restart, a millisecond -/

theorem takeSample_map (endFirst : Bool) (d : DeckId) (conv : Conversion) (hs : MapOk s) :
    MapOk (takeSample endFirst d conv s) := by
  unfold takeSample
  split
  · rw [sampleWhole_fst, sampleTail_eq]
    refine (recoverMap_map ?_).same (noticeConditions_axles _)
    exact ((hs.same (sampleHead_axles s d conv)).same (applyMonitor_axles _ _ _)).side
      (sampleBefore_axleSide ..)
  · exact hs

theorem takeSampleIf_map (endFirst : Bool) (named : Happened → Bool) (d : DeckId) (conv : Conversion)
    (hs : MapOk s) : MapOk (takeSampleIf endFirst named d conv s) := by
  rcases takeSampleIf_cases endFirst named d conv s with h | h <;> rw [h]
  · exact hs
  · exact takeSample_map endFirst d conv hs

theorem dueTest_axles (s : State) : SameAxles (dueTest s) s :=
  foldl_axles s (fun s d => by split <;> simp) _

theorem execDayRollover_map (hs : MapOk s) (h : execDayRollover s = .next t) : MapOk t := by
  unfold execDayRollover at h
  cases h
  split
  · refine MapOk.side ?_ (drive_axleSide _)
    split
    · exact (show MapOk (regainAll (rollClock s)) from hs).same (dueTest_axles _)
    · exact hs
  · split <;> exact hs

/-- A map at restart is sound, and as R56 asks (R59). -/
theorem MapOk.of_start (h : t.axle.map = .start) : MapOk t := by
  rw [MapOk, h]
  exact ⟨(mapOk_outside rfl).mpr ⟨rfl, rfl⟩, fun _ => ⟨rfl, rfl⟩⟩

theorem execRestart_map (b : Bool) (r : RestartRun) (h : execRestart b r s = .next t) : MapOk t := by
  rcases execRestart_cases b r s with ⟨-, e⟩ | ⟨x, -, e⟩ <;> rw [e] at h <;> cases h <;>
    exact (MapOk.of_start rfl).side (drive_axleSide _)

theorem tick_map (hs : MapOk s) : MapOk (tick s) := by
  have h1 : MapOk (runTimes s) := by
    have ho : (runTimes s).sessionOpen = s.sessionOpen := by
      simp only [runTimes, State.sessionOpen, State.setMetro_metro, State.setTicket_metro,
        State.setAxle_metro]
      cases s.metro.session with
      | none => rfl
      | some r => simp only [Option.map_some, tickSession]; split <;> rfl
    exact ⟨hs.1, fun h => hs.2 (ho ▸ h)⟩
  unfold tick
  dsimp only
  split
  · exact h1
  · exact hs

/-! ### Every command, every step -/

theorem execUnknownRequest_map (h : Header) (code : Byte) (hs : MapOk s)
    (he : execUnknownRequest h code s = .next t) : MapOk t := by
  refine runCommand_map (fun s hs => ?_) hs he
  have h1 : ∀ s, MapOk s → MapOk (touchSession h.port s) := fun s hs => hs.same (touchSession_axles _ s)
  dsimp only
  split
  · unfold answerUnknown
    split
    · exact answer_map (h1 _ hs)
    · exact routeRequest_map (fun s hs => hs) (h1 _ hs)
  · exact hs

/-- Each command keeps the map: most leave the axle side. -/
theorem exec_map {i : Instr} (hs : MapOk s) (he : exec i s = .next t) : MapOk t := by
  cases i with
  | readEvents | readFault | readPort | readCells | readDecks | readAxles | readOrders | readClass
  | readGroups | readVisit | listVisits | readTares | readTicket | readPrinters | readWatch
  | readMetrology | readSession | readLog | readClock =>
    refine request_side hs ?_ he
    exact fun _ => rfl
  | clearEvents h l => exact request_map (fun _ => ownClearEvents_map h l) hs he
  | setEventMask | clearFault | resetPort =>
    refine request_map ?_ hs he
    exact fun _ hs => hs
  | setPortRate h n c => exact request_map (fun _ => ownSetPortRate_map h n c) hs he
  | unknownRequest h c => exact execUnknownRequest_map h c hs he
  | clearDeckHistory => exact request_side hs (ownClearDeckHistory_side · ..) he
  | zero => exact request_side hs (ownZero_side · ..) he
  | setBeamFilter => exact request_map (fun _ => ownSetBeamFilter_map _) hs he
  | stageOrder => exact request_side hs (ownStageOrder_side · ..) he
  | cancelOrder => exact request_side hs (ownCancelOrder_side · ..) he
  | capture => exact request_side hs ownCapture_side he
  | finishSurvey => exact request_side hs ownFinishSurvey_side he
  | setCapture | setAxleCheck | setTareRules =>
    refine request_side hs ?_ he
    exact fun _ => rfl
  | setClass => exact request_side hs (ownSetClass_side · ..) he
  | deleteClass => exact request_side hs (ownDeleteClass_side · ..) he
  | openVisit => exact request_side hs (ownOpenVisit_side · ..) he
  | amendVisit => exact request_side hs (ownAmendVisit_side · ..) he
  | voidVisit => exact request_side hs (ownVoidVisit_side · ..) he
  | removeVisit => exact request_side hs (ownRemoveVisit_side · ..) he
  | storeTare => exact request_side hs (ownStoreTare_side · ..) he
  | deleteTare => exact request_side hs (ownDeleteTare_side · ..) he
  | reprint => exact request_side hs (ownReprint_side · ..) he
  | setPrinting => exact request_side hs (ownSetPrinting_side · ..) he
  | setWatch => exact request_side hs (ownSetWatch_side · ..) he
  | clearWatchFlags => exact request_side hs (ownClearWatchFlags_side · ..) he
  | releaseHold => exact request_side hs (ownReleaseHold_side · ..) he
  | rejectHold => exact request_side hs (ownRejectHold_side · ..) he
  | openSession => exact request_map (fun _ => ownOpenSession_map) hs he
  | closeSession => exact request_map (fun _ => ownCloseSession_map) hs he
  | setLegal | setCellFactor => exact request_map (fun _ => ownSetLegal_map _) hs he
  | testZero | testLoad | adjustZero | adjustSpan | recordShuntRef =>
    exact request_side hs (ownOperation_side · ..) he
  | certifyDeck => exact request_side hs (ownCertifyDeck_side · ..) he
  | setShuntMode => exact request_side hs (ownSetShuntMode_side · ..) he
  | releaseLog => exact request_side hs (ownReleaseLog_side · ..) he
  | setClock => exact request_map (fun _ => ownSetClock_map _ _) hs he
  | frameDiscarded | byteGapTimeout | frameSyncReceived =>
    exact runCommand_map (fun _ => setPort_map _ _) hs he
  | replySent p => exact runCommand_map (fun _ => replyEnds_map p) hs he
  | lineBreak p => exact runCommand_map (fun _ => resetPort_map p .break_) hs he
  | deckSample d conv => exact runCommand_map (fun _ => takeSample_map false d conv) hs he
  | zeroDeadlineExpired | zeroTrackingMove | autoCaptureStart | captureWindowEnd | testCaptureEnd
  | adjustZeroEnd | adjustSpanEnd | shuntPhaseEnd =>
    exact runCommand_map (fun _ => takeSampleIf_map _ _ _ _) hs he
  | beamRawChange j raw =>
    cases he
    split
    · exact (rawChange_map j raw hs).side (drive_axleSide _)
    · exact hs
  | filterTimeExpired j => exact runCommand_map (fun _ => filterExpired_map j) hs he
  | stuckBeam j b => exact runCommand_map (fun _ => handleStuck_map j b) hs he
  | printAnswer => exact runCommand_side hs (printAnswered_side · ..) he
  | printerAnswerTimeout => exact runCommand_side hs (answerTimedOut_side · ..) he
  | retryWaitExpired | offlineQueryDue =>
    exact runCommand_side hs (fun s => (setTicket_axles s _).1) he
  | statusAnswer => exact runCommand_side hs (statusAnswered_side · ..) he
  | switchChange l => exact runCommand_side hs (switchTaken_side · l) he
  | sessionExpiry => exact runCommand_map (fun _ => endSession_map .expired) hs he
  | dayRollover => exact execDayRollover_map hs he
  | resetAsserted b =>
    cases he
    exact (show MapOk { shuntsOff s with power := holdPower b s.power } from hs).side (drive_axleSide _)
  | restart b r => exact execRestart_map b r he

end

/-- Settles O55: each command keeps the map, and so does a millisecond. -/
theorem stepKeepsMap : Obligations.StepKeepsMap := by
  intro s t hs h
  rcases step_cases h with ⟨-, rfl⟩ | ⟨c, rest, -, he⟩
  · exact tick_map hs
  · exact exec_map (s := s.withPending rest) hs he

end Sys2Proof.Machine

/-!
The invariants of every reached state hold after reset (O3).
-/

namespace Sys2Proof.Machine

/-- The pins of the restart state follow it: a RESTART event asserts each attention line, and the lane signals of an
INVALID map are STOP. -/
theorem reset_pins : PinsFollow State.reset := rfl

/-- No ticket has been issued. -/
theorem reset_journal : JournalOk State.reset :=
  ⟨Nat.zero_le _, rfl, Nat.zero_le _, rfl⟩

theorem reset_visits : VisitsOk State.reset := by
  refine ⟨⟨Nat.zero_le _, .nil, List.forall_mem_nil _, .nil, rfl⟩, fun p c hc => ?_⟩
  cases p <;> exact nomatch hc

theorem reset_log : LogOk State.reset :=
  ⟨Nat.zero_le _, .nil, List.forall_mem_nil _, by decide⟩

/-- No session is open and no deck is measured, so no operation binds the counter. -/
theorem reset_counter : CounterOk State.reset := by
  refine ⟨Nat.zero_le _, nofun, fun d r hr => ?_⟩
  obtain ⟨-, -, -, -, -, -, -, -, -, -, hrun, -⟩ := reset_deck d
  exact nomatch hrun.symm.trans hr

theorem reset_orders : OrdersOk State.reset :=
  ⟨Nat.zero_le _, .nil, fun _ => rfl, rfl, Nat.zero_le _⟩

theorem reset_budgets : BudgetsOk State.reset := by
  intro d hd
  rw [(reset_deck d).1] at hd
  exact nomatch hd

/-- Settles O3: each invariant holds of empty tables, a map at restart and budgets of 32. -/
theorem resetIsSafe : Obligations.ResetIsSafe where
  pins := reset_pins
  map := .of_start rfl
  journal := reset_journal
  visits := reset_visits
  log := reset_log
  counter := reset_counter
  orders := reset_orders
  budgets := reset_budgets

end Sys2Proof.Machine

/-!
One millisecond of time, the switch and the day's rollover (O49).
-/

namespace Sys2Proof.Machine

/-! ### One millisecond (R42, R46, R127, R129, R130, R158, R188) -/

/-- The clock passes its day's end with this millisecond. -/
abbrev PassesMidnight (c : Clock) : Prop := 999 ≤ c.ms ∧ 86399 ≤ c.sec

theorem tickClock_eq (c : Clock) : tickClock c =
    ({ c with
        ms := if c.ms < 999 then c.ms + 1 else 0
        sec := if 999 ≤ c.ms ∧ c.sec < 86399 then c.sec + 1 else c.sec
        replaced := false }, decide (PassesMidnight c)) := by
  unfold tickClock
  by_cases h1 : c.ms < 999
  · have h2 : c.ms + 1 < 1000 := by omega
    have h3 : ¬999 ≤ c.ms := by omega
    simp [h1, h2, h3]
  · have h2 : ¬c.ms + 1 < 1000 := by omega
    have h3 : 999 ≤ c.ms := by omega
    by_cases h4 : c.sec < 86399
    · simp [h1, h2, h3, h4]
    · simp [h1, h2, h3, h4]
      omega

/-- A beam of the pair is blocked in the decoder's state. -/
abbrev BeamIsBlocked (p : Pair) (b : Beam) : Prop :=
  p.decoder = some .both ∨ p.decoder = some (match b with | .u => .u | .d => .d)

theorem beamBlocked_iff (p : Pair) (b : Beam) :
    (p.decoder.any fun st => beamBlocked st b) = true ↔ BeamIsBlocked p b := by
  cases hd : p.decoder with
  | none => simp [BeamIsBlocked, hd]
  | some st => cases st <;> cases b <;> simp [BeamIsBlocked, hd, beamBlocked]

theorem tickPair_eq (p : Pair) : tickPair p = { p with
    persist := p.persist.map fun n => n + 1
    blockedU := if BeamIsBlocked p .u then min 120000 (p.blockedU + 1) else p.blockedU
    blockedD := if BeamIsBlocked p .d then min 120000 (p.blockedD + 1) else p.blockedD } := by
  simp only [tickPair, beamBlocked_iff, satInc_eq_min, blockedLimit]

theorem tickLine_eq (l : PrinterLine) : tickLine l = { l with
    answerLeft := l.answerLeft.map fun n => n - 1
    waitLeft := if l.state = .retryWait ∨ l.state = .offline then l.waitLeft - 1 else l.waitLeft } := by
  simp only [tickLine, isWaiting, decide_eq_true_eq]

theorem tickSession_eq (r : Session) :
    tickSession r = { r with activity := if r.isOpen then r.activity - 1 else r.activity } := by
  unfold tickSession
  split <;> rfl

/-! ### The commands of times that run out -/

/-- The stuck mark and the blocked time of a beam call for its report (R46). -/
abbrev StuckDue (p : Pair) (b : Beam) : Prop :=
  match b with
  | .u => p.stuckU = false ∧ 120000 ≤ p.blockedU
  | .d => p.stuckD = false ∧ 120000 ≤ p.blockedD

theorem mem_pairDue (f : Nat) (j : Boundary) (p : Pair) (i : Instr) : i ∈ pairDue f j p ↔
    (i = .filterTimeExpired j ∧ ∃ n, p.persist = some n ∧ f ≤ n + 1) ∨
      ∃ b, i = .stuckBeam j b ∧ BeamIsBlocked p b ∧ StuckDue p b := by
  have hp : (p.persist.any fun t => f ≤ t + 1) = true ↔ ∃ n, p.persist = some n ∧ f ≤ n + 1 := by
    simp [Option.any_eq_true]
  have hb : ∀ i : Instr, (∃ b, i = .stuckBeam j b ∧ BeamIsBlocked p b ∧ StuckDue p b) ↔
      (i = .stuckBeam j .u ∧ BeamIsBlocked p .u ∧ p.stuckU = false ∧ 120000 ≤ p.blockedU) ∨
        (i = .stuckBeam j .d ∧ BeamIsBlocked p .d ∧ p.stuckD = false ∧ 120000 ≤ p.blockedD) :=
    fun i => ⟨fun ⟨b, h⟩ => by cases b <;> [exact .inl h; exact .inr h],
      fun h => h.elim (fun h => ⟨.u, h⟩) fun h => ⟨.d, h⟩⟩
  rw [hb]
  simp only [pairDue, List.mem_append, List.mem_ite_nil_right, List.mem_singleton, hp, beamBlocked_iff,
    blockedLimit, Bool.not_eq_true']
  grind

theorem mem_lineDue (e : BridgeEnd) (l : PrinterLine) (i : Instr) : i ∈ lineDue e l ↔
    (i = .printerAnswerTimeout e ∧ l.answerLeft = some 1) ∨
      (i = .retryWaitExpired e ∧ l.state = .retryWait ∧ l.waitLeft = 1) ∨
      (i = .offlineQueryDue e ∧ l.state = .offline ∧ l.waitLeft = 1) := by
  simp only [lineDue, List.mem_append, List.mem_ite_nil_right, List.mem_singleton]
  grind

theorem mem_sessionDue (m : Metrology) (i : Instr) : i ∈ sessionDue m ↔
    i = .sessionExpiry ∧ ∃ r, m.session = some r ∧ r.isOpen = true ∧ r.activity = 1 := by
  simp only [sessionDue, List.mem_ite_nil_right, List.mem_singleton, Option.any_eq_true,
    Bool.and_eq_true, decide_eq_true_eq]
  exact and_comm

/-- The commands of a millisecond while the ZW-4 runs, in their order. -/
def tickCommands (s : State) : List Instr :=
  dueCommands s ++ if PassesMidnight s.clock then [.dayRollover] else []

theorem mem_tickCommands (s : State) (i : Instr) : i ∈ tickCommands s ↔
    (∃ j : Boundary, j.val ≤ deckCount s.legal ∧ i ∈ pairDue s.axle.filter j s.axle.pairs[j]) ∨
      (∃ e, i ∈ lineDue e (lineOf s.ticket e)) ∨ i ∈ sessionDue s.metro ∨
      (i = .dayRollover ∧ PassesMidnight s.clock) := by
  have he : (∃ e, i ∈ lineDue e (lineOf s.ticket e)) ↔
      i ∈ lineDue .a s.ticket.lineA ∨ i ∈ lineDue .b s.ticket.lineB :=
    ⟨fun ⟨e, h⟩ => by cases e <;> [exact .inl h; exact .inr h],
      fun h => h.elim (fun h => ⟨.a, h⟩) fun h => ⟨.b, h⟩⟩
  rw [he]
  simp only [tickCommands, dueCommands, pairsInUse, List.mem_append, List.mem_flatMap, List.mem_filter,
    List.mem_finRange, true_and, pairInUse_iff, List.mem_ite_nil_right, List.mem_singleton, or_assoc]
  grind

/-- Every command that a time can give, once. -/
def timerCommands : List Instr :=
  ((List.finRange 5).flatMap fun j => [.filterTimeExpired j, .stuckBeam j .u, .stuckBeam j .d]) ++
    [.printerAnswerTimeout .a, .retryWaitExpired .a, .offlineQueryDue .a] ++
    [.printerAnswerTimeout .b, .retryWaitExpired .b, .offlineQueryDue .b] ++ [.sessionExpiry] ++
    [.dayRollover]

theorem timerCommands_nodup : timerCommands.Nodup := by decide

theorem ite_singleton_sublist {α : Type} (p : Prop) [Decidable p] (a : α) :
    (if p then [a] else []).Sublist [a] := by
  split
  · exact .refl _
  · exact List.nil_sublist _

theorem flatMap_filter_sublist {α β : Type} {f g : α → List β} (h : ∀ a, (f a).Sublist (g a))
    (p : α → Bool) (l : List α) : ((l.filter p).flatMap f).Sublist (l.flatMap g) := by
  induction l with
  | nil => exact .refl _
  | cons a l ih =>
    rw [List.filter_cons]
    split
    · exact (h a).append ih
    · exact ih.trans (List.sublist_append_right _ _)

theorem tickCommands_nodup (s : State) : (tickCommands s).Nodup := by
  refine List.Nodup.sublist ?_ timerCommands_nodup
  have hl : ∀ e l, (lineDue e l).Sublist
      [.printerAnswerTimeout e, .retryWaitExpired e, .offlineQueryDue e] := fun e l =>
    ((ite_singleton_sublist _ _).append (ite_singleton_sublist _ _)).append (ite_singleton_sublist _ _)
  refine .append (.append (.append (.append (flatMap_filter_sublist (fun j => ?_) _ _) (hl _ _)) (hl _ _))
    (ite_singleton_sublist _ _)) (ite_singleton_sublist _ _)
  exact ((ite_singleton_sublist _ _).append (ite_singleton_sublist _ _)).append (ite_singleton_sublist _ _)

/-- A millisecond while the reset is held (R183). -/
theorem tick_held {s : State} (hq : s.pending = []) (hp : s.power ≠ .running) : tick s = { s with
    clock := (tickClock s.clock).1
    pending := if PassesMidnight s.clock then [.dayRollover] else [] } := by
  simp [tick, hp, hq, tickClock_eq]

theorem tick_running {s : State} (hq : s.pending = []) (hp : s.power = .running) : tick s =
    { runTimes s with clock := (tickClock s.clock).1, pending := tickCommands s } := by
  simp [tick, hp, hq, tickClock_eq, tickCommands]

/-! ### The switch (R153) -/

/-- The event set of a port after an event: its category counts it and keeps it as the latest (R177). -/
theorem raise_event (s : State) (c : Cause) (p : Port) (k : Fin 9) :
    ((s.raise c).portState p).events[k] =
      if categoryOf c = k then withEvent c s (s.portState p).events[k] else (s.portState p).events[k] := by
  by_cases h : categoryOf c = k
  · simp [State.portState, State.raise, countEvent, h, withEvent, satInc_eq_min, State.now]
  · have hv : ¬(categoryOf c).val = k.val := fun e => h (Fin.ext e)
    simp [State.portState, State.raise, countEvent, h, hv]

theorem drive_event (s : State) (p : Port) (k : Fin 9) :
    (s.drive.portState p).events[k] = (s.portState p).events[k] := by
  simp [State.portState, State.drive]

theorem noticeConditions_ports (s : State) : (noticeConditions s).ports = s.ports := by
  obtain ⟨n, h⟩ := noticeConditions_eq s
  rw [h]
  rfl

/-- The blocks that a log entry, an event and a notice leave. -/
theorem switchTaken_blocks (l : SwitchLevel) (s : State) :
    (switchTaken l s).decks = s.decks ∧ (switchTaken l s).axle = s.axle ∧
      (switchTaken l s).visit = s.visit ∧ (switchTaken l s).ticket = s.ticket := by
  unfold switchTaken
  split
  · exact ⟨rfl, rfl, rfl, rfl⟩
  · obtain ⟨n, h⟩ := noticeConditions_eq
      (((s.setMetro fun m => { m with switch := l }).logProtective (switchKind l)).raise (.switchTaken l))
    rw [h]
    exact ⟨rfl, rfl, rfl, rfl⟩

theorem switchTaken_metro {l : SwitchLevel} {s : State} (h : s.metro.switch ≠ l) :
    (switchTaken l s).metro =
      protectiveEntry { s.metro with switch := l } s.now (switchKind l) none := by
  rw [switchTaken, if_neg h, (noticeConditions_bridge _).2.2.1]
  rfl

theorem switchTaken_appends {l : SwitchLevel} {s : State} (h : s.metro.switch ≠ l)
    (hr : 0 < logRoom s.metro) :
    (switchTaken l s).metro = appendEntry { s.metro with switch := l } s.now (switchKind l) none :=
  (switchTaken_metro h).trans (if_pos hr)

theorem switchTaken_loses {l : SwitchLevel} {s : State} (h : s.metro.switch ≠ l)
    (hr : logRoom s.metro = 0) :
    (switchTaken l s).metro = { s.metro with switch := l, lost := satInc 65535 s.metro.lost } :=
  (switchTaken_metro h).trans (if_neg (Nat.le_zero.mpr hr).not_gt)

theorem switchTaken_event {l : SwitchLevel} {s : State} (h : s.metro.switch ≠ l) (x : Port) :
    ((switchTaken l s).portState x).events[(6 : Fin 9)].latest = some (.switchTaken l, s.now) := by
  rw [switchTaken, if_neg h, State.portState, noticeConditions_ports]
  exact congrArg EventCell.latest (raise_event _ (.switchTaken l) x 6)

theorem switchKind_eq (l : SwitchLevel) :
    switchKind l = if l = .opened then .switchOpen else .switchClose := by
  cases l <;> rfl

/-! ### The day's rollover (R10, R155, R188, R189) -/

theorem nextDay_eq (d : Nat) : nextDay d = if d < 65535 then d + 1 else 0 := by
  unfold nextDay
  split <;> split <;> omega

theorem rollClock_eq (s : State) : rollClock s = { s with
    clock := { s.clock with
      day := if s.clock.day < 65535 then s.clock.day + 1 else 0
      sec := 0
      ms := 0 } } := by
  rw [← nextDay_eq]
  rfl

theorem passesDayEnd_iff (c : Clock) :
    passesDayEnd c = true ↔ 86399 ≤ c.sec ∧ c.replaced = false := by
  simp [passesDayEnd, atDayEnd]

theorem regain_budget (p : LegalParams) (d : DeckId) (f : FrontEnd) : (regain p d f).budget =
    if d.val < deckCount p ∧ 1 ≤ p.threshold ∧ p.threshold ≤ 255 ∧ 0 < f.budget ∧
        (f.budget : Int) < p.threshold then f.budget + 1 else f.budget := by
  have hr : inRange p .threshold = true ↔ 1 ≤ p.threshold ∧ p.threshold ≤ 255 := decide_eq_true_iff
  simp only [regain, deckInUse, decide_eq_true_eq, hr, and_assoc]
  split <;> rfl

/-- What a status change leaves: the clock, the blocks but the metrology unit and the ports, and of the metrology unit
the legal parameters, the session and the days of verification. -/
def State.dayView (s : State) : (Vector FrontEnd 4 × Vector Deck 4 × AxleUnit × VisitUnit × TicketUnit) ×
    Clock × Option ActiveOrder × LegalParams × Option Session × (DeckId → Option Nat) :=
  ((s.front, s.decks, s.axle, s.visit, s.ticket), s.clock, s.order.active, s.metro.legal, s.metro.session,
    fun d => s.metro.decks[d].lastVerified)

theorem noticeConditions_dayView (s : State) : (noticeConditions s).dayView = s.dayView := by
  obtain ⟨n, h⟩ := noticeConditions_eq s
  rw [h]
  rfl

theorem changeStatusWithEvent_dayView (p : Bool) (d : DeckId) (v : VStatus) (c : StatusCause)
    (s : State) : (changeStatusWithEvent p d v c s).dayView = s.dayView := by
  have hc : (changeStatus p d v c s).dayView = s.dayView := by
    rcases changeStatus_cases p d v c s with ⟨-, h⟩ | ⟨-, m, h, hd, hl, -, hs, -⟩ <;> rw [h]
    have hv : (fun e : DeckId => m.decks[e].lastVerified) = fun e => s.metro.decks[e].lastVerified := by
      funext e
      rw [hd, upd_get]
      split <;> rfl
    simp only [State.dayView, State.setMetro_front, State.setMetro_decks, State.setMetro_axle,
      State.setMetro_visit, State.setMetro_ticket, State.setMetro_clock, State.setMetro_order,
      State.setMetro_metro, hl, hs, hv]
  unfold changeStatusWithEvent
  dsimp only
  split
  · rfl
  · exact (noticeConditions_dayView _).trans hc

/-- R155 on one deck. -/
def dueStep (s : State) (d : DeckId) : State :=
  if periodOut s d then changeStatusWithEvent true d .due .period s else s

theorem dueStep_dayView (s : State) (d : DeckId) : (dueStep s d).dayView = s.dayView := by
  unfold dueStep
  split
  · exact changeStatusWithEvent_dayView ..
  · rfl

theorem dueStep_status (s : State) (d e : DeckId) : (dueStep s d).deckStatus e =
    if e = d ∧ periodOut s d = true then .due else s.deckStatus e := by
  unfold dueStep
  by_cases hp : periodOut s d = true
  · by_cases he : e = d
    · simp [hp, he]
    · simp [hp, he]
  · simp [hp]

/-- The test of a deck reads its own status, its day of verification and the day. -/
theorem periodOut_dueStep {s : State} {d e : DeckId} (h : e ≠ d) :
    periodOut (dueStep s d) e = periodOut s e := by
  have hv := dueStep_dayView s d
  simp only [State.dayView, Prod.mk.injEq] at hv
  obtain ⟨-, hclock, -, hlegal, -, hlast⟩ := hv
  have hst := dueStep_status s d e
  rw [if_neg (fun hh => h hh.1)] at hst
  have hl : (dueStep s d).metro.decks[e].lastVerified = s.metro.decks[e].lastVerified := congrFun hlast e
  unfold periodOut
  rw [hst, hl, hclock, State.legal, hlegal]
  rfl

theorem foldl_dueStep {l : List DeckId} (hn : l.Nodup) (s : State) (e : DeckId) :
    (l.foldl dueStep s).deckStatus e =
      if e ∈ l ∧ periodOut s e = true then .due else s.deckStatus e := by
  induction l generalizing s with
  | nil => simp
  | cons d l ih =>
    obtain ⟨hd, hn⟩ := List.nodup_cons.mp hn
    rw [List.foldl_cons, ih hn]
    by_cases he : e = d
    · subst he
      simp [hd, dueStep_status]
    · simp [periodOut_dueStep he, he, dueStep_status]

theorem dueTest_status (s : State) (d : DeckId) :
    (dueTest s).deckStatus d = if periodOut s d = true then .due else s.deckStatus d := by
  have h := foldl_dueStep (List.nodup_finRange 4) s d
  rw [show (List.finRange 4).foldl dueStep s = dueTest s from rfl] at h
  simpa using h

theorem dueTest_dayView (s : State) : (dueTest s).dayView = s.dayView :=
  foldl_keeps (view := State.dayView) dueStep_dayView _ s

theorem periodOut_iff (s : State) (d : DeckId) : periodOut s d = true ↔
    s.deckStatus d = .verified ∧ (s.metro.decks[d].lastVerified.any fun v =>
      (v : Int) + s.legal.period ≤ s.clock.day) = true := by
  unfold periodOut
  cases s.metro.decks[d].lastVerified <;> simp

/-- The state after a rollover that the running ZW-4 takes. -/
theorem exec_dayRollover_running {s : State} (hp : s.power = .running)
    (hd : 86399 ≤ s.clock.sec ∧ s.clock.replaced = false) :
    exec .dayRollover s = .next (dueTest (regainAll (rollClock s))).drive := by
  show execDayRollover s = _
  rw [execDayRollover, if_pos hp, if_pos ((passesDayEnd_iff _).mpr hd)]

/-- Settles O49: the whole state after a millisecond, after a change of the switch and after the day's end. -/
theorem timeSwitchAndDayRollover : Obligations.TimeSwitchAndDayRollover := by
  refine ⟨fun s hq => ⟨fun hp => ?held, fun hp => ⟨tickCommands s, ?running, tickCommands_nodup s,
    fun i => ?due⟩⟩, fun l s hp => ⟨fun hl => ?unchanged, fun hl => ?changed⟩,
    fun s => ⟨fun hn => ?stays, fun hd hp => ?heldDay, fun hd hp => ?day⟩⟩
  case held => rw [step_idle hq, tick_held hq hp, tickClock_eq]
  case running =>
    rw [step_idle hq, tick_running hq hp, tickClock_eq]
    simp only [runTimes, State.setAxle, State.setTicket, State.setMetro, pairInUse_iff, tickPair_eq,
      tickLine_eq]
    simp only [funext tickSession_eq]
  case due =>
    simp only [mem_tickCommands, mem_pairDue, mem_lineDue, mem_sessionDue]
    grind
  case unchanged =>
    show runCommand (switchTaken l) s = _
    rw [runCommand_running hp, switchTaken, if_pos hl]
  case changed =>
    obtain ⟨hdecks, haxle, hvisit, hticket⟩ := switchTaken_blocks l s
    have hm := switchTaken_metro hl
    refine ⟨_, runCommand_running (f := switchTaken l) hp, ?_, ?_, ?_, fun x => ?_, ?_, ?_, ?_, ?_, hdecks,
      haxle, hvisit, hticket⟩
    · rw [State.drive_metro, hm]
      unfold protectiveEntry
      split <;> rfl
    · intro hroom
      rw [State.drive_metro, switchTaken_appends hl hroom, switchKind_eq]
      exact ⟨rfl, rfl⟩
    · intro hroom
      rw [State.drive_metro, switchTaken_loses hl hroom]
      exact ⟨rfl, satInc_eq_min _ _⟩
    · rw [drive_event]
      exact switchTaken_event hl x
    all_goals rw [State.drive_metro, hm]; simp
  case stays =>
    show Host.Outcome.next _ = _
    have hd : ¬passesDayEnd s.clock = true := fun h => hn ((passesDayEnd_iff _).mp h)
    simp only [if_neg hd]
    rfl
  case heldDay =>
    show Host.Outcome.next _ = _
    rw [if_neg hp, if_pos ((passesDayEnd_iff _).mpr hd), rollClock_eq]
  case day =>
    have hview := dueTest_dayView (regainAll (rollClock s))
    simp only [State.dayView, Prod.mk.injEq] at hview
    obtain ⟨⟨hfront, hdecks, haxle, hvisit, hticket⟩, hclock, hactive, hlegal, hsession, hlast⟩ := hview
    have hstatus := dueTest_status (regainAll (rollClock s))
    have hexec := exec_dayRollover_running hp hd
    generalize dueTest (regainAll (rollClock s)) = t at *
    refine ⟨_, hexec, ?_, fun d => ?_, fun d => ⟨?_, ?_⟩, ?_, ?_, ?_, ?_, ?_, ?_, ?_⟩
    · exact hclock.trans (congrArg State.clock (rollClock_eq s))
    · rw [State.budget_of_records (drive_standing t).1 d, hfront, ← regain_budget]
      simp [regainAll]
      rfl
    · exact congrFun hlast d
    · refine (hstatus d).trans ?_
      simp only [periodOut_iff, rollClock_eq]
      rfl
    · exact hlegal
    · exact hsession
    · exact hdecks
    · exact haxle
    · exact hvisit
    · exact hticket
    · exact hactive

end Sys2Proof.Machine

/-!
What an abort, the end of a pass and the map's recovery do to the order queue, the visits and the AXLE and ORDER
events (R53, R55, R65, R71).
-/

namespace Sys2Proof.Machine

/-! ### The order side -/

/-- The ORDER category of each port's event set. -/
def State.orderEvents (s : State) (p : Port) : EventCell := (s.portState p).events[(2 : Fin 9)]

/-- From `s` to `t` the order queue, the group results, the visits, the clock and the ORDER events stand, but that
the condition run may have gone to 0. -/
structure SameOrders (t s : State) : Prop where
  active : t.order.active = s.order.active
  staged : t.order.staged = s.order.staged
  engine : t.order.engine = s.order.engine
  stops : t.order.stops = s.order.stops
  crossingSince : t.order.crossingSince = s.order.crossingSince
  condRun : s.order.condRun = 0 → t.order.condRun = 0
  check : t.check = s.check
  visit : t.visit = s.visit
  clock : t.clock = s.clock
  events : t.orderEvents = s.orderEvents

theorem SameOrders.refl (s : State) : SameOrders s s := ⟨rfl, rfl, rfl, rfl, rfl, id, rfl, rfl, rfl, rfl⟩

theorem SameOrders.trans {s t u : State} (h : SameOrders u t) (h' : SameOrders t s) : SameOrders u s where
  active := h.active.trans h'.active
  staged := h.staged.trans h'.staged
  engine := h.engine.trans h'.engine
  stops := h.stops.trans h'.stops
  crossingSince := h.crossingSince.trans h'.crossingSince
  condRun := fun hr => h.condRun (h'.condRun hr)
  check := h.check.trans h'.check
  visit := h.visit.trans h'.visit
  clock := h.clock.trans h'.clock
  events := h.events.trans h'.events

section
variable (s : State)

theorem setAxle_orders (f : AxleUnit → AxleUnit) : SameOrders (s.setAxle f) s :=
  ⟨rfl, rfl, rfl, rfl, rfl, id, rfl, rfl, rfl, rfl⟩

theorem setPair_orders (j : Boundary) (f : Pair → Pair) : SameOrders (s.setPair j f) s := setAxle_orders ..

theorem setMap_orders (f : AxleMap → AxleMap) : SameOrders (s.setMap f) s := setAxle_orders ..

theorem invalidateMap_orders : SameOrders (invalidateMap s) s := setMap_orders ..

/-- A raised event: an ORDER event enters that category, another leaves it (R177). -/
theorem raise_orderEvents (c : Cause) (p : Port) : (s.raise c).orderEvents p =
    if categoryOf c = 2 then withEvent c s (s.orderEvents p) else s.orderEvents p :=
  raise_event s c p 2

theorem raise_orders {c : Cause} (h : ¬categoryOf c = 2) : SameOrders (s.raise c) s where
  active := rfl
  staged := rfl
  engine := rfl
  stops := rfl
  crossingSince := rfl
  condRun := id
  check := rfl
  visit := rfl
  clock := rfl
  events := funext fun p => (raise_orderEvents s c p).trans (if_neg h)

theorem noticeConditions_orders : SameOrders (noticeConditions s) s := by
  rcases noticeConditions_cases s with h | h <;> rw [h]
  · exact .refl s
  · exact ⟨rfl, rfl, rfl, rfl, rfl, fun _ => rfl, rfl, rfl, rfl, rfl⟩

theorem drive_orders : SameOrders s.drive s :=
  ⟨rfl, rfl, rfl, rfl, rfl, id, rfl, rfl, rfl, funext fun p => drive_event s p 2⟩

end

/-! ### Monitors, measurements and operations -/

section
variable (s : State)

theorem foldl_orders {α : Type} {f : State → α → State} (h : ∀ s a, SameOrders (f s a) s) (l : List α)
    (s : State) : SameOrders (l.foldl f s) s := by
  induction l generalizing s with
  | nil => exact .refl s
  | cons a l ih => exact (ih (f s a)).trans (h s a)

theorem setDeck_orders (d : DeckId) (f : Deck → Deck) : SameOrders (s.setDeck d f) s :=
  ⟨rfl, rfl, rfl, rfl, rfl, id, rfl, rfl, rfl, rfl⟩

theorem setFront_orders (d : DeckId) (f : FrontEnd → FrontEnd) : SameOrders (s.setFront d f) s :=
  ⟨rfl, rfl, rfl, rfl, rfl, id, rfl, rfl, rfl, rfl⟩

theorem setMetro_orders (f : Metrology → Metrology) : SameOrders (s.setMetro f) s :=
  ⟨rfl, rfl, rfl, rfl, rfl, id, rfl, rfl, rfl, rfl⟩

theorem changeStatus_orders (p : Bool) (d : DeckId) (v : VStatus) (c : StatusCause) :
    SameOrders (changeStatus p d v c s) s := by
  rcases changeStatus_cases p d v c s with ⟨-, h⟩ | ⟨-, m, h, -⟩ <;> rw [h]
  · exact .refl s
  · exact setMetro_orders s _

theorem reportDowngrade_orders (c : StatusCause) (d : DeckId) : SameOrders (reportDowngrade c d s) s :=
  (noticeConditions_orders _).trans
    ((raise_orders _ (by simp [categoryOf])).trans (changeStatus_orders s _ _ _ _))

theorem frontEndStep_orders (d : DeckId) (conv : Conversion) : SameOrders (frontEndStep d conv s) s := by
  rw [frontEndStep_eq]
  split
  · exact (reportDowngrade_orders ..).trans (setFront_orders ..)
  · exact setFront_orders ..

theorem handleNote_orders (d : DeckId) (n : DeckNote) : SameOrders (handleNote d s n) s := by
  by_cases h : n = .zero .zeroLimit
  · subst h
    exact (reportDowngrade_orders ..).trans (raise_orders s (by simp [categoryOf]))
  · rcases handleNote_cases s d n h with e | ⟨c, hc, e⟩ <;> rw [e]
    · exact .refl s
    · exact raise_orders s (by simp [hc])

theorem applyMonitor_orders (d : DeckId) (x : Monitor) : SameOrders (applyMonitor d x s) s :=
  (foldl_orders (fun s n => handleNote_orders s d n) x.notes _).trans
    ((setMetro_orders ..).trans (setDeck_orders ..))

theorem abandonRun_orders (d : DeckId) : SameOrders (abandonRun d s) s := by
  unfold abandonRun
  split
  · exact .refl s
  · exact (applyMonitor_orders ..).trans ((setMetro_orders ..).trans (setFront_orders ..))

theorem abortOperation_orders (c : AbortCause) : SameOrders (abortOperation c s) s := by
  unfold abortOperation
  split
  · exact .refl s
  · have hc : SameOrders (clearOperation s) s := ⟨rfl, rfl, rfl, rfl, rfl, id, rfl, rfl, rfl, rfl⟩
    exact (raise_orders _ (by simp [categoryOf])).trans hc

theorem abandonOn_orders (c : AbortCause) (d : DeckId) : SameOrders (abandonOn c d s) s := by
  unfold abandonOn
  split
  · exact .refl s
  · split
    · exact (abortOperation_orders ..).trans (abandonRun_orders ..)
    · exact abandonRun_orders ..

theorem abortTestCapture_orders (d : DeckId) : SameOrders (abortTestCapture d s) s := by
  unfold abortTestCapture
  split
  · exact abortOperation_orders ..
  · exact .refl s

theorem sampleHead_orders (d : DeckId) (conv : Conversion) : SameOrders (sampleHead d conv s) s := by
  unfold sampleHead abandonOnError
  split
  · exact (abandonOn_orders ..).trans (frontEndStep_orders ..)
  · exact frontEndStep_orders ..

end

/-! ### A capture aborted (R71) -/

/-- From `s` to `t` the capture `e` of the active order `a` has been aborted with AXLE_MOVED. -/
structure CaptureAborted (s : State) (e : OrderCapture) (a : ActiveOrder) (t : State) : Prop where
  engine : t.order.engine = none
  active : t.order.active = some { a with state := e.fromState }
  condRun : t.order.condRun = 0
  stops : t.order.stops = s.order.stops
  visit : t.visit = s.visit
  events : ∀ p, t.orderEvents p =
    withEvent (.orderAborted a.order.visit a.order.kind .axleMoved) s (s.orderEvents p)

section
variable {s t u : State} {e : OrderCapture} {a : ActiveOrder}

theorem CaptureAborted.then (h : CaptureAborted s e a t) (hu : SameOrders u t) : CaptureAborted s e a u where
  engine := hu.engine.trans h.engine
  active := hu.active.trans h.active
  condRun := hu.condRun h.condRun
  stops := hu.stops.trans h.stops
  visit := hu.visit.trans h.visit
  events p := (congrFun hu.events p).trans (h.events p)

theorem axleMoved_aborts (hu : SameOrders u s) (he : s.order.engine = some e)
    (ha : s.order.active = some a) : CaptureAborted s e a (axleMoved u) := by
  refine CaptureAborted.then (t := abortCapture .axleMoved u) ?_ (noticeConditions_orders _)
  rw [abortCapture, hu.engine.trans he, hu.active.trans ha]
  refine ⟨rfl, rfl, rfl, hu.stops, hu.visit, fun p => ?_⟩
  rw [raise_orderEvents, if_pos (by rfl), ← hu.events, withEvent, withEvent, ← hu.clock]
  rfl

/-- With no capture in flight nothing is aborted. -/
theorem abortCapture_idle (c : AbortCause) (h : u.order.engine = none) : abortCapture c u = u := by
  rw [abortCapture, h]

theorem axleMoved_idle (h : u.order.engine = none) : SameOrders (axleMoved u) u := by
  rw [axleMoved, abortCapture_idle _ h]
  exact noticeConditions_orders u

/-! ### The end of a pass (R53, R65) -/

theorem findVisit_surveyed (u : VisitUnit) (n m : Nat) (y : AxleSummary) :
    findVisit (make (.surveyed n y) u) m = if m = n then (findVisit u m).map fun x =>
      { x with summary := some y, revision := x.revision + 1 } else findVisit u m := by
  show List.find? _ (u.visits.map _) = _
  unfold findVisit
  induction u.visits with
  | nil => simp
  | cons v l ih => grind

theorem leaveActive_last (r : OrderResult) (ha : s.order.active = some a) (hl : s.order.staged = []) :
    (leaveActive r s).order.active = none ∧ (leaveActive r s).visit = s.visit ∧
      ∀ p, ((leaveActive r s).orderEvents p).latest =
        some (.orderLeft a.order.visit a.order.kind r, ⟨s.clock.day, s.clock.sec⟩) := by
  have he : leaveActive r s = (raiseLeft a.order r (s.setOrder fun u =>
      { u with active := none, condRun := 0 })).setOrder fun u => { u with staged := [] } := by
    simp [leaveActive, ha, promote, raiseLeft, hl, promoteFrom]
  rw [he]
  exact ⟨rfl, rfl, fun p => congrArg EventCell.latest (raise_orderEvents _ _ p)⟩

theorem leaveActive_engine (r : OrderResult) : (leaveActive r s).order.engine = s.order.engine := by
  have hp : ∀ l (s : State), (promoteFrom l s).order.engine = s.order.engine := by
    intro l
    induction l with
    | nil => exact fun s => rfl
    | cons o l ih =>
      intro s
      unfold promoteFrom
      split
      · rfl
      · exact ih _
  unfold leaveActive
  split
  · rfl
  · exact hp _ _

theorem queueSlip_orders (e : BridgeEnd) (k : SlipKind) (content : List PrintField) (s : State) :
    SameOrders (queueSlip e k content s) s := by
  unfold queueSlip
  split
  · exact ⟨rfl, rfl, rfl, rfl, rfl, id, rfl, rfl, rfl, rfl⟩
  · exact raise_orders s (by simp [categoryOf])

/-- A survey that is COMPLETE hands its summary to its visit (R76, R112). -/
theorem finishSurvey_eq (ha : s.order.active = some a) :
    (finishSurvey s).order.active = some { a with state := .complete } ∧
      (finishSurvey s).order.staged = s.order.staged ∧
      (finishSurvey s).order.engine = s.order.engine ∧ (finishSurvey s).clock = s.clock ∧
      (finishSurvey s).visit = make (.surveyed a.order.visit (summaryOf s.check.table)) s.visit := by
  have hc : ∀ x : State, x.order.active = some a → completeActive none x =
      (setActiveState .complete x).raise (.orderComplete a.order.visit a.order.kind none) := by
    intro x hx
    rw [completeActive, hx]
  simp only [finishSurvey, ha]
  have hq := fun e content => queueSlip_orders e .axleReport content
    (s.setVisit (make (.surveyed a.order.visit (summaryOf s.check.table))))
  rw [hc _ ((hq _ _).active.trans ha)]
  refine ⟨?_, (hq _ _).staged, (hq _ _).engine, (hq _ _).clock, (hq _ _).visit⟩
  simp [setActiveState, (hq _ _).active, ha]

theorem passEnd_engine (s : State) : (passEnd s).order.engine = s.order.engine := by
  show (passEndActive s).order.engine = _
  unfold passEndActive
  split
  · rfl
  · next a ha =>
    split
    · rfl
    · exact leaveActive_engine _ |>.trans (finishSurvey_eq ha).2.2.1
    · exact leaveActive_engine _
    · exact leaveActive_engine _
    · rfl

/-- What a pass's end does. -/
theorem passEnd_ended (s : State) : PassEnded s (passEnd s) := by
  have hcheck : (passEnd s).check = { s.check with table := .empty } :=
    congrArg (fun k : AxleCheck => { k with table := .empty }) (passEndActive_axles s).2
  refine ⟨rfl, rfl, hcheck, fun hn => ?_, fun a ha => ?_⟩
  · have hp : passEndActive s = s := by simp only [passEndActive, hn]
    rw [passEnd, hp]
    exact ⟨hn, rfl⟩
  · have hleft : ∀ (r : OrderResult) (x : State) (b : ActiveOrder), passEndActive s = leaveActive r x →
        x.order.active = some b → b.order = a.order → x.order.staged = [] → x.clock = s.clock →
        ((passEnd s).order.active = none ∧ ∀ q, ((passEnd s).portState q).events[(2 : Fin 9)].latest =
          some (.orderLeft a.order.visit a.order.kind r, ⟨s.clock.day, s.clock.sec⟩)) ∧
          (passEnd s).visit = x.visit := by
      intro r x b hp hb hab hl hclock
      obtain ⟨h1, h2, h3⟩ := leaveActive_last r hb hl
      rw [hab, hclock] at h3
      rw [passEnd, hp]
      exact ⟨⟨h1, h3⟩, h2⟩
    refine ⟨fun hw => ?_, fun hw hl => ?_, fun hw hl => ?_, fun hw hl => ?_⟩
    · have hp : passEndActive s = s.setOrder fun u => { u with condRun := 0 } := by
        simp only [passEndActive, ha, hw]
      rw [passEnd, hp]
      exact ⟨ha, rfl, rfl⟩
    · exact hleft .done s a (by simp only [passEndActive, ha, hw]) ha rfl hl rfl
    · exact hleft .held s a (by simp only [passEndActive, ha, hw]) ha rfl hl rfl
    · obtain ⟨h1, h2, -, h4, h5⟩ := finishSurvey_eq ha
      obtain ⟨hl, hv⟩ := hleft .done (finishSurvey s) _ (by simp only [passEndActive, ha, hw]) h1 rfl
        (h2.trans hl) h4
      refine ⟨hl, fun m => ?_⟩
      rw [hv, h5, findVisit_surveyed]

/-- A pass's end reads the order side of the state before it. -/
theorem PassEnded.of_before (h : PassEnded u t) (hu : SameOrders u s) : PassEnded s t := by
  unfold PassEnded at h ⊢
  rw [hu.check, hu.active, hu.visit, hu.staged, hu.clock] at h
  exact h

theorem PassEnded.then (h : PassEnded s t) (hu : SameOrders u t) : PassEnded s u := by
  obtain ⟨hstops, hsince, hcheck, hnone, hsome⟩ := h
  have he : ∀ q, (u.portState q).events[(2 : Fin 9)] = (t.portState q).events[(2 : Fin 9)] :=
    fun q => congrFun hu.events q
  refine ⟨hu.stops.trans hstops, hu.crossingSince.trans hsince, hu.check.trans hcheck, fun hn => ?_,
    fun a ha => ?_⟩
  · rw [hu.active, hu.visit]
    exact hnone hn
  · obtain ⟨hwait, hrest⟩ := hsome a ha
    simp only [he, hu.active, hu.visit]
    exact ⟨fun hw => ⟨(hwait hw).1, hu.condRun (hwait hw).2.1, (hwait hw).2.2⟩, hrest⟩

/-! ### The map's recovery (R55) -/

variable (s) in
/-- What the map's recovery asks. -/
def Recovers : Prop :=
  s.axle.map.valid = false ∧ s.sessionOpen = false ∧
    (∀ d : DeckId, d.val < deckCount s.legal → s.deckMode d = .empty) ∧
    ∀ i : Boundary, i.val ≤ deckCount s.legal → s.axle.pairs[i].decoder = some .clear

theorem mapCanRecover_iff : mapCanRecover s = true ↔ Recovers s := by
  simp only [mapCanRecover, Recovers, Bool.and_eq_true, Bool.not_eq_true', List.all_eq_true, State.inUse,
    decksInUse, pairsInUse, List.mem_filter, List.mem_finRange, true_and, deckInUse, pairInUse, pairClear,
    decide_eq_true_eq, and_assoc]

theorem recoverMap_stays (h : ¬Recovers s) : recoverMap s = s :=
  if_neg fun hc => h (mapCanRecover_iff.mp hc)

/-- The empty VALID map, with its event. -/
def recovered (s : State) : State :=
  (s.setMap fun _ => ⟨true, none, [], 0⟩).raise (.mapValid s.axle.map.direction.isSome)

theorem recoverMap_recovers (h : Recovers s) : recoverMap s =
    if s.axle.map.direction.isSome then passEnd (recovered s) else recovered s :=
  if_pos (mapCanRecover_iff.mpr h)

theorem recovered_orders (s : State) : SameOrders (recovered s) s :=
  (raise_orders _ (by simp [categoryOf])).trans (setMap_orders ..)

theorem recoverMap_axleSide (h : Recovers s) : (recoverMap s).axleSide = (recovered s).axleSide := by
  rw [recoverMap_recovers h]
  split <;> simp

theorem recoverMap_axle (h : Recovers s) :
    (recoverMap s).axle = { s.axle with map := ⟨true, none, [], 0⟩ } :=
  congrArg Prod.fst (recoverMap_axleSide h)

theorem recoverMap_event (h : Recovers s) (p : Port) : (recoverMap s).axleEvents p =
    withEvent (.mapValid s.axle.map.direction.isSome) s (s.axleEvents p) := by
  have he := congrArg (fun v => v.2.2.2.1 p) (recoverMap_axleSide h)
  exact he.trans (raise_axleEvents _ _ p)

theorem recoverMap_outside (h : s.axle.map.direction = none) : SameOrders (recoverMap s) s := by
  by_cases hr : Recovers s
  · rw [recoverMap_recovers hr, h]
    exact recovered_orders s
  · rw [recoverMap_stays hr]
    exact .refl s

theorem recoverMap_engine (h : s.order.engine = none) : (recoverMap s).order.engine = none := by
  by_cases hr : Recovers s
  · rw [recoverMap_recovers hr]
    split
    · exact (passEnd_engine _).trans h
    · exact h
  · rwa [recoverMap_stays hr]

/-- A recovery in a frozen pass ends it (R55). -/
theorem recoverMap_inPass (hr : Recovers s) (hd : s.axle.map.direction ≠ none) :
    recoverMap s = passEnd (recovered s) := by
  rw [recoverMap_recovers hr, if_pos (Option.isSome_iff_ne_none.mpr hd)]

end
end Sys2Proof.Machine

/-!
Changes of the raw state, transitions of a pair, samples under an INVALID map, and stuck beams (O45).
-/

namespace Sys2Proof.Machine

/-! ### A pair takes its raw state (R42, R44, R45, R46) -/

/-- What a transition makes of its pair. -/
def takenPair (p : Pair) : Pair :=
  match p.decoder with
  | none => takeState p.raw .unknown p
  | some old =>
    if old = p.raw then { p with persist := none }
    else
      let q := takeState p.raw (startAfter p.start old p.raw) p
      if decodeTransition p.start old p.raw = .phaseError then { q with errors := satInc 255 q.errors }
      else q

section
variable {p : Pair} {old : BeamState}

theorem takenPair_first (h : p.decoder = none) : takenPair p = takeState p.raw .unknown p := by
  simp only [takenPair, h]

theorem takenPair_same (h : p.decoder = some p.raw) : takenPair p = { p with persist := none } := by
  simp only [takenPair, h, if_true]

theorem takenPair_moved (h : p.decoder = some old) (hn : old ≠ p.raw) : takenPair p =
    { takeState p.raw (startAfter p.start old p.raw) p with
      errors := if decodeTransition p.start old p.raw = .phaseError then satInc 255 p.errors
        else p.errors } := by
  simp only [takenPair, h, hn, if_false]
  split <;> rfl

/-- But for start beam and errors, a change of the decoder's state is `takeState`. -/
theorem takenPair_eq_takeState (h : p.decoder ≠ some p.raw) :
    ∃ b n, takenPair p = { takeState p.raw b p with errors := n } := by
  cases hd : p.decoder with
  | none => exact ⟨_, p.errors, takenPair_first hd⟩
  | some old => exact ⟨_, _, takenPair_moved hd fun e => h (hd.trans (congrArg some e))⟩

theorem takenPair_keeps (p : Pair) :
    (takenPair p).raw = p.raw ∧ (takenPair p).decoder = some p.raw ∧ (takenPair p).persist = none := by
  by_cases h : p.decoder = some p.raw
  · rw [takenPair_same h]
    exact ⟨rfl, h, rfl⟩
  · obtain ⟨b, n, he⟩ := takenPair_eq_takeState h
    rw [he]
    exact ⟨rfl, rfl, rfl⟩

/-- A beam that is clear in the state taken loses its mark and its blocked time. -/
theorem takenPair_beams (p : Pair) :
    let clearsU := p.decoder ≠ some p.raw ∧ p.raw ≠ .u ∧ p.raw ≠ .both
    let clearsD := p.decoder ≠ some p.raw ∧ p.raw ≠ .d ∧ p.raw ≠ .both
    (clearsU → (takenPair p).stuckU = false ∧ (takenPair p).blockedU = 0) ∧
      (¬clearsU → (takenPair p).stuckU = p.stuckU ∧ (takenPair p).blockedU = p.blockedU) ∧
      (clearsD → (takenPair p).stuckD = false ∧ (takenPair p).blockedD = 0) ∧
      (¬clearsD → (takenPair p).stuckD = p.stuckD ∧ (takenPair p).blockedD = p.blockedD) := by
  by_cases h : p.decoder = some p.raw
  · simp [takenPair_same h, h]
  · obtain ⟨b, n, he⟩ := takenPair_eq_takeState h
    rw [he]
    cases hr : p.raw <;> simp_all [takeState, beamBlocked]

/-- R45: the transitions that are phase errors. -/
abbrev IsJump (old new : BeamState) : Prop :=
  (old = .clear ∧ new = .both) ∨ (old = .both ∧ new = .clear) ∨ (old = .u ∧ new = .d) ∨
    (old = .d ∧ new = .u)

theorem decodeTransition_phaseError (b : StartBeam) (old new : BeamState) :
    decodeTransition b old new = .phaseError ↔ IsJump old new := by
  cases old <;> cases new <;> simp [decodeTransition, IsJump]
  all_goals split <;> simp

theorem startAfter_jump (b : StartBeam) {old new : BeamState} (h : IsJump old new) :
    startAfter b old new = .unknown := by
  rcases h with ⟨rfl, rfl⟩ | ⟨rfl, rfl⟩ | ⟨rfl, rfl⟩ | ⟨rfl, rfl⟩ <;> rfl

theorem startAfter_row (b : StartBeam) {old new : BeamState} (h : ¬IsJump old new) (hn : old ≠ new) :
    startAfter b old new = if new = .clear then .unknown
      else if old = .clear then (if new = .u then .u else .d) else b := by
  cases old <;> cases new <;> simp_all [startAfter]

theorem IsJump.ne {old new : BeamState} (h : IsJump old new) : old ≠ new := by
  rcases h with ⟨rfl, rfl⟩ | ⟨rfl, rfl⟩ | ⟨rfl, rfl⟩ | ⟨rfl, rfl⟩ <;> decide

theorem takenPair_jump (h : p.decoder = some old) (hj : IsJump old p.raw) :
    (takenPair p).errors = min 255 (p.errors + 1) ∧ (takenPair p).start = .unknown := by
  rw [takenPair_moved h hj.ne, if_pos ((decodeTransition_phaseError ..).mpr hj)]
  exact ⟨satInc_eq_min _ _, startAfter_jump _ hj⟩

theorem takenPair_row (h : p.decoder = some old) (hj : ¬IsJump old p.raw) :
    (takenPair p).errors = p.errors ∧ (takenPair p).start =
      if old = p.raw then p.start
      else if p.raw = .clear then .unknown
      else if old = .clear then (if p.raw = .u then .u else .d)
      else p.start := by
  by_cases hr : old = p.raw
  · rw [takenPair_same (hr ▸ h), if_pos hr]
    exact ⟨rfl, rfl⟩
  · rw [takenPair_moved h hr, if_neg (fun e => hj ((decodeTransition_phaseError ..).mp e)), if_neg hr]
    exact ⟨rfl, startAfter_row _ hj hr⟩

end

/-! ### The transition as a whole -/

section
variable (s : State) (j : Boundary)

theorem setPair_congr {f g : Pair → Pair} (h : f s.axle.pairs[j] = g s.axle.pairs[j]) :
    s.setPair j f = s.setPair j g := by
  simp only [State.setPair, State.setAxle, upd, h]

theorem setPair_setPair (f g : Pair → Pair) :
    (s.setPair j f).setPair j g = s.setPair j fun p => g (f p) := by
  simp only [State.setPair, State.setAxle, upd_upd]

@[simp] theorem setPair_self (f : Pair → Pair) : (s.setPair j f).axle.pairs[j] = f s.axle.pairs[j] := by
  simp

/-- A phase error before the capture in flight is told of it (R45, R54). -/
def phaseErred (old : BeamState) : State :=
  (invalidateMap (s.setPair j takenPair)).raise
    (.phaseError j old s.axle.pairs[j].raw (min 255 (s.axle.pairs[j].errors + 1)))

variable {s j} {old : BeamState}

/-- The pair's first state, and a change that is neither a crossing nor a phase error. -/
theorem takeTransition_quiet (h : s.axle.pairs[j].decoder = none ∨
    ∃ old, s.axle.pairs[j].decoder = some old ∧ old ≠ s.axle.pairs[j].raw ∧
      decodeTransition s.axle.pairs[j].start old s.axle.pairs[j].raw = .quiet) :
    takeTransition j s = recoverMap (noticeConditions (s.setPair j takenPair)) := by
  have hset : ∀ {f : Pair → Pair}, takenPair s.axle.pairs[j] = f s.axle.pairs[j] →
      recoverMap (noticeConditions (s.setPair j f)) =
        recoverMap (noticeConditions (s.setPair j takenPair)) := fun h => by
    rw [setPair_congr s j h]
  rcases h with h | ⟨old, h, hn, hq⟩
  · simp only [takeTransition, h]
    exact hset (takenPair_first h)
  · simp only [takeTransition, h, hn, hq, if_false, handleDecoded]
    refine hset ((takenPair_moved h hn).trans ?_)
    rw [hq]
    rfl

theorem takeTransition_same (h : s.axle.pairs[j].decoder = some s.axle.pairs[j].raw) :
    takeTransition j s = s.setPair j takenPair := by
  simp only [takeTransition, h, if_true]
  exact setPair_congr s j (takenPair_same h).symm

theorem takeTransition_jump (h : s.axle.pairs[j].decoder = some old)
    (hj : IsJump old s.axle.pairs[j].raw) :
    takeTransition j s = recoverMap (noticeConditions (axleMoved (phaseErred s j old))) := by
  have hd := (decodeTransition_phaseError s.axle.pairs[j].start _ _).mpr hj
  have hm := takenPair_moved h hj.ne
  rw [if_pos hd] at hm
  simp only [takeTransition, h, hj.ne, if_false, hd, handleDecoded, handlePhaseError, phaseErred,
    setPair_setPair, setPair_self, ← satInc_eq_min]
  rw [setPair_congr s j (g := fun p => { takeState s.axle.pairs[j].raw
    (startAfter s.axle.pairs[j].start old s.axle.pairs[j].raw) p with errors := satInc 255 p.errors }) hm]
  rfl

variable (s j)

theorem handleDecoded_sensing (a b : BeamState) (x : Decoded) : (handleDecoded j a b x s).sensing =
    (s.setPair j fun p => { p with
      errors := if x = .phaseError then satInc 255 p.errors else p.errors }).sensing := by
  have hid : (s.setPair j fun p => p) = s := by
    simp [State.setPair, State.setAxle, upd]
  cases x with
  | quiet => exact congrArg State.sensing hid.symm
  | crossing d => exact (handleCrossing_sensing s j d).1.trans (congrArg State.sensing hid.symm)
  | phaseError => simp [handleDecoded, handlePhaseError, invalidateMap, categoryOf]

theorem takeTransition_sensing : (takeTransition j s).sensing = (s.setPair j takenPair).sensing := by
  unfold takeTransition
  dsimp only
  split
  · next h =>
    rw [recoverMap_sensing, noticeConditions_sensing]
    exact congrArg State.sensing (setPair_congr s j (takenPair_first h).symm)
  · next old h =>
    split
    · next hr => exact congrArg State.sensing (setPair_congr s j (takenPair_same (hr ▸ h)).symm)
    · next hr =>
      rw [recoverMap_sensing, noticeConditions_sensing, handleDecoded_sensing, setPair_setPair]
      exact congrArg State.sensing (setPair_congr s j (takenPair_moved h hr).symm)

/-- Of the pairs a transition changes its own alone. -/
theorem takeTransition_pairs :
    (takeTransition j s).axle.pairs = upd s.axle.pairs j takenPair ∧
      (takeTransition j s).axle.filter = s.axle.filter := by
  have h := takeTransition_sensing s j
  simp only [State.sensing, Prod.mk.injEq] at h
  exact ⟨h.1, h.2.1⟩

end
end Sys2Proof.Machine

/-!
What a transition, a sample and a stuck beam do to the map and to a capture in flight, and O45 from it.
-/

namespace Sys2Proof.Machine

/-! ### What recovery asks, seen from one pair (R55) -/

/-- What the map's recovery asks of the session, the decks and the pairs other than `j`. -/
abbrev ClearBut (j : Boundary) (s : State) : Prop :=
  s.sessionOpen = false ∧ (∀ d : DeckId, d.val < deckCount s.legal → s.deckMode d = .empty) ∧
    ∀ i : Boundary, i ≠ j → i.val ≤ deckCount s.legal → s.axle.pairs[i].decoder = some .clear

section
variable {s t u v : State} {j : Boundary}

theorem recovers_iff_but (hj : j.val ≤ deckCount s.legal) : Recovers s ↔
    s.axle.map.valid = false ∧ ClearBut j s ∧ s.axle.pairs[j].decoder = some .clear := by
  constructor
  · rintro ⟨hv, ho, hd, hp⟩
    exact ⟨hv, ⟨ho, hd, fun i _ => hp i⟩, hp j hj⟩
  · rintro ⟨hv, ⟨ho, hd, hp⟩, hpj⟩
    refine ⟨hv, ho, hd, fun i hi => ?_⟩
    by_cases h : i = j
    · exact h ▸ hpj
    · exact hp i h hi

/-- Recovery reads the axle side and the decks. -/
theorem recovers_congr (h : u.axleSide = v.axleSide) (hd : u.decks = v.decks) :
    Recovers u ↔ Recovers v := by
  simp only [State.axleSide, Prod.mk.injEq] at h
  simp only [Recovers, State.deckMode, h, hd]

theorem clearBut_setPair (f : Pair → Pair) : ClearBut j (s.setPair j f) ↔ ClearBut j s := by
  have hi : ∀ i : Boundary, i ≠ j → (s.setPair j f).axle.pairs[i] = s.axle.pairs[i] := by
    intro i h
    rw [State.setPair_axle, upd_get, if_neg (Ne.symm h)]
  have hc : (∀ i : Boundary, i ≠ j → i.val ≤ deckCount s.legal →
      (s.setPair j f).axle.pairs[i].decoder = some .clear) ↔
      ∀ i : Boundary, i ≠ j → i.val ≤ deckCount s.legal → s.axle.pairs[i].decoder = some .clear :=
    forall_congr' fun i => forall_congr' fun h => by rw [hi i h]
  exact and_congr_right fun _ => and_congr_right fun _ => hc

theorem recovers_taken (hj : j.val ≤ deckCount s.legal) : Recovers (s.setPair j takenPair) ↔
    s.axle.map.valid = false ∧ ClearBut j s ∧ s.axle.pairs[j].raw = .clear := by
  rw [recovers_iff_but (s := s.setPair j takenPair) hj, clearBut_setPair, setPair_self,
    (takenPair_keeps _).2.1, Option.some_inj]
  rfl

theorem recovers_phaseErred (hj : j.val ≤ deckCount s.legal) (old : BeamState) :
    Recovers (phaseErred s j old) ↔ ClearBut j s ∧ s.axle.pairs[j].raw = .clear := by
  have h : Recovers (phaseErred s j old) ↔ (phaseErred s j old).axle.map.valid = false ∧
      ClearBut j (s.setPair j takenPair) ∧
        (s.setPair j takenPair).axle.pairs[j].decoder = some .clear :=
    recovers_iff_but (s := phaseErred s j old) hj
  rw [h, clearBut_setPair, setPair_self, (takenPair_keeps _).2.1, Option.some_inj]
  exact and_iff_right rfl

/-! ### Transitions that are no phase errors -/

theorem taken_side : (noticeConditions (s.setPair j takenPair)).axleSide =
    (s.setPair j takenPair).axleSide := (noticeConditions_axles _).1

/-- The test of recovery after changes that leave the map, the orders and the visits. -/
theorem recoverMap_after (hu : SameOrders u s) (hmap : u.axle.map = s.axle.map) :
    let t := (recoverMap u).drive
    (¬Recovers u → t.axle.map = s.axle.map) ∧
      (Recovers u → t.axle.map = ⟨true, none, [], 0⟩ ∧
        (∀ x, (t.portState x).events[(1 : Fin 9)].latest =
          some (.mapValid s.axle.map.direction.isSome, ⟨s.clock.day, s.clock.sec⟩)) ∧
        (s.axle.map.direction = none → t.order.active = s.order.active ∧
          t.order.stops = s.order.stops ∧ t.check = s.check) ∧
        (s.axle.map.direction ≠ none → PassEnded s t)) := by
  refine ⟨fun hs => ?_, fun hr => ⟨congrArg AxleUnit.map (recoverMap_axle hr), fun x => ?_, fun hd => ?_,
    fun hd => ?_⟩⟩
  · rw [recoverMap_stays hs]
    exact hmap
  · rw [drive_event]
    refine (congrArg EventCell.latest (recoverMap_event hr x)).trans ?_
    rw [withEvent, hmap, hu.clock]
  · have h := (drive_orders _).trans ((recoverMap_outside (hmap ▸ hd)).trans hu)
    exact ⟨h.active, h.stops, h.check⟩
  · have h : PassEnded u (recoverMap u) := by
      rw [recoverMap_inPass hr (hmap ▸ hd)]
      exact (passEnd_ended _).of_before (recovered_orders u)
    exact (h.of_before hu).then (drive_orders _)

/-- A quiet transition leaves the map, unless it lets the map recover. -/
theorem recovers_quiet (hj : j.val ≤ deckCount s.legal) :
    Recovers (noticeConditions (s.setPair j takenPair)) ↔
      s.axle.map.valid = false ∧ ClearBut j s ∧ s.axle.pairs[j].raw = .clear :=
  (recovers_congr taken_side (noticeConditions_bridge _).2.1).trans (recovers_taken hj)

theorem quiet_orders : SameOrders (noticeConditions (s.setPair j takenPair)) s :=
  (noticeConditions_orders _).trans (setPair_orders ..)

theorem quiet_map : (noticeConditions (s.setPair j takenPair)).axle.map = s.axle.map :=
  congrArg (fun v => v.1.map) taken_side

/-! ### Phase errors (R45, R54) -/

theorem phaseErred_orders (old : BeamState) : SameOrders (phaseErred s j old) s :=
  (raise_orders _ (by simp [categoryOf])).trans ((invalidateMap_orders _).trans (setPair_orders ..))

theorem phaseErred_event (old : BeamState) (x : Port) : (phaseErred s j old).axleEvents x =
    withEvent (.phaseError j old s.axle.pairs[j].raw (min 255 (s.axle.pairs[j].errors + 1))) s
      (s.axleEvents x) :=
  raise_axleEvents _ _ x

/-- The state after a phase error, before the test of the map's recovery. -/
abbrev phaseReported (s : State) (j : Boundary) (old : BeamState) : State :=
  noticeConditions (axleMoved (phaseErred s j old))

theorem phaseReported_side (old : BeamState) :
    (phaseReported s j old).axleSide = (phaseErred s j old).axleSide :=
  (noticeConditions_axles _).1.trans (axleMoved_axles _).1

theorem recovers_phaseReported (hj : j.val ≤ deckCount s.legal) (old : BeamState) :
    Recovers (phaseReported s j old) ↔ ClearBut j s ∧ s.axle.pairs[j].raw = .clear :=
  (recovers_congr (phaseReported_side old) (by simp)).trans (recovers_phaseErred hj old)

theorem phaseReported_map (old : BeamState) :
    (phaseReported s j old).axle.map = { s.axle.map with valid := false } :=
  congrArg (fun v => v.1.map) (phaseReported_side old)

theorem phaseReported_event (old : BeamState) (x : Port) : (phaseReported s j old).axleEvents x =
    withEvent (.phaseError j old s.axle.pairs[j].raw (min 255 (s.axle.pairs[j].errors + 1))) s
      (s.axleEvents x) :=
  (congrArg (fun v => v.2.2.2.1 x) (phaseReported_side old)).trans (phaseErred_event old x)

/-- A phase error aborts the capture in flight. -/
theorem phaseReported_aborts {e : OrderCapture} {a : ActiveOrder} (old : BeamState)
    (he : s.order.engine = some e) (ha : s.order.active = some a) :
    CaptureAborted s e a (phaseReported s j old) :=
  (axleMoved_aborts (phaseErred_orders old) he ha).then (noticeConditions_orders _)

/-- Where the map does not recover a phase error leaves it INVALID, with its content. -/
theorem jump_stays (hj : j.val ≤ deckCount s.legal) (old : BeamState)
    (hn : s.axle.pairs[j].raw ≠ .clear ∨ ¬ClearBut j s) :
    let t := (recoverMap (phaseReported s j old)).drive
    t.axle.map = { s.axle.map with valid := false } ∧
      (∀ x, (t.portState x).events[(1 : Fin 9)] = withEvent
        (.phaseError j old s.axle.pairs[j].raw (min 255 (s.axle.pairs[j].errors + 1))) s
          (s.portState x).events[(1 : Fin 9)]) ∧
      ∀ e a, s.order.engine = some e → s.order.active = some a → CaptureAborted s e a t := by
  have hs : ¬Recovers (phaseReported s j old) := fun h => by
    obtain ⟨hb, hraw⟩ := (recovers_phaseReported hj old).mp h
    exact hn.elim (· hraw) (· hb)
  rw [recoverMap_stays hs]
  exact ⟨phaseReported_map old, fun x => (drive_event _ x 1).trans (phaseReported_event old x),
    fun e a he ha => (phaseReported_aborts old he ha).then (drive_orders _)⟩

/-- A phase error of a pair that returns to CLEAR, followed by the map's recovery. -/
theorem jump_recovers (hj : j.val ≤ deckCount s.legal) (old : BeamState)
    (hraw : s.axle.pairs[j].raw = .clear) (hc : ClearBut j s) :
    let t := (recoverMap (phaseReported s j old)).drive
    t.axle.map = ⟨true, none, [], 0⟩ ∧ ∀ x,
      (t.portState x).events[(1 : Fin 9)].latest =
        some (.mapValid s.axle.map.direction.isSome, ⟨s.clock.day, s.clock.sec⟩) ∧
      (t.portState x).events[(1 : Fin 9)].count =
        min 255 ((s.portState x).events[(1 : Fin 9)].count + 2) := by
  have hr := (recovers_phaseReported hj old).mpr ⟨hc, hraw⟩
  refine ⟨congrArg AxleUnit.map (recoverMap_axle hr), fun x => ?_⟩
  have he := recoverMap_event hr x
  rw [phaseReported_event, phaseReported_map] at he
  have hclock : (phaseReported s j old).clock = s.clock :=
    congrArg (fun v => v.2.2.2.2) (phaseReported_side old)
  simp only [withEvent, hclock] at he
  rw [drive_event, show ((recoverMap (phaseReported s j old)).portState x).events[(1 : Fin 9)] = _ from he]
  refine ⟨rfl, ?_⟩
  show min 255 (min 255 (_ + 1) + 1) = min 255 (_ + 2)
  simp only [State.axleEvents]
  omega

/-- After a phase error no capture is in flight. -/
theorem jump_engine (old : BeamState) {e : OrderCapture} {a : ActiveOrder}
    (he : s.order.engine = some e) (ha : s.order.active = some a) :
    (recoverMap (phaseReported s j old)).drive.order.engine = none :=
  recoverMap_engine (phaseReported_aborts old he ha).engine

end
end Sys2Proof.Machine

/-!
Samples under an INVALID map and stuck beams, and O45 assembled.
-/

namespace Sys2Proof.Machine

/-! ### A sample and the map's recovery (R55) -/

section
variable {s : State} {d : DeckId}

theorem takeGross_engine (h : s.order.engine = none) (raw : Vector Int 4) (w : Option Int) :
    (takeGross d raw w s).order.engine = none := by
  cases w with
  | none => exact h
  | some w =>
    simp only [takeGross, testSample]
    split <;> simp [captureSample, h, setSession]

/-- Without a capture in flight what precedes the test of recovery leaves the group results. -/
theorem sampleBefore_check (h : s.order.engine = none) (endFirst : Bool) (raw : Vector Int 4)
    (w : Option Int) (entered : Bool) : (sampleBefore endFirst d raw w entered s).check = s.check := by
  have ho : (orderStep endFirst d (takeGross d raw w s)).check = (takeGross d raw w s).check := by
    unfold orderStep
    rw [captureStep_none (takeGross_engine h raw w)]
    dsimp only
    split
    · exact (testOnSample_axles _).2.trans (noticeConditions_axles _).2
    · exact (noticeConditions_axles _).2
  rw [sampleBefore, (schedule_axles ..).2, (shuntSample_axles ..).2, (testCaptureStep_axles ..).2, ho,
    (takeGross_axles ..).2]

end

section
variable (d : DeckId) (conv : Conversion) (s : State)

/-- The state of a sample in which the map's recovery is tested. -/
abbrev beforeRecovery : State :=
  sampleBefore false d conv.raw (sampleGross (recordOf s.legal d s.front[d] conv) (sampleHead d conv s).decks[d])
    ((sampleMonitor d conv s).notes.contains (.entered .empty)) (afterMonitor d conv s)

theorem sampled_eq :
    sampled d conv s = (noticeConditions (recoverMap (beforeRecovery d conv s))).drive := by
  rw [sampled, sampleWhole_fst, sampleTail_eq]

theorem beforeRecovery_axleSide : (beforeRecovery d conv s).axleSide = s.axleSide := by
  rw [beforeRecovery, sampleBefore_axleSide, (applyMonitor_axles ..).1, (sampleHead_axles ..).1]

theorem beforeRecovery_check (h : s.order.engine = none) :
    (beforeRecovery d conv s).check = s.check := by
  have he : (afterMonitor d conv s).order.engine = none :=
    ((applyMonitor_orders ..).trans (sampleHead_orders ..)).engine.trans h
  rw [beforeRecovery, sampleBefore_check he, (applyMonitor_axles ..).2, (sampleHead_axles ..).2]

theorem sampled_decks_beforeRecovery : (sampled d conv s).decks = (beforeRecovery d conv s).decks := by
  rw [sampled_eq, State.drive_decks, (noticeConditions_bridge _).2.1, (recoverMap_bridge _).2.1]

variable {d conv s}

/-- The sample's own decks, with the session and the pairs before it, say whether the map recovers. -/
theorem recovers_sampled (hv : s.axle.map.valid = false) : Recovers (beforeRecovery d conv s) ↔
    s.sessionOpen = false ∧
      (∀ b : DeckId, b.val < deckCount s.legal → (sampled d conv s).deckMode b = .empty) ∧
      ∀ i : Boundary, i.val ≤ deckCount s.legal → s.axle.pairs[i].decoder = some .clear := by
  have h := beforeRecovery_axleSide d conv s
  simp only [State.axleSide, Prod.mk.injEq] at h
  simp only [Recovers, h, hv, true_and, State.deckMode, sampled_decks_beforeRecovery]

theorem sampled_stays (h : ¬Recovers (beforeRecovery d conv s)) : (sampled d conv s).axle = s.axle := by
  have hs : (sampled d conv s).axleSide = s.axleSide := by
    rw [sampled_eq, drive_axleSide, (noticeConditions_axles _).1, recoverMap_stays h,
      beforeRecovery_axleSide]
  exact congrArg Prod.fst hs

theorem sampled_recovers (h : Recovers (beforeRecovery d conv s)) :
    (sampled d conv s).axle = { s.axle with map := ⟨true, none, [], 0⟩ } ∧
      (s.axle.map.direction ≠ none → s.order.engine = none →
        (sampled d conv s).order.stops = [] ∧
          (sampled d conv s).check = { s.check with table := .empty }) ∧
      ∀ x, ((sampled d conv s).portState x).events[(1 : Fin 9)].latest =
        some (.mapValid s.axle.map.direction.isSome, ⟨s.clock.day, s.clock.sec⟩) := by
  have hside := beforeRecovery_axleSide d conv s
  have haxle : (beforeRecovery d conv s).axle = s.axle := congrArg Prod.fst hside
  have hclock : (beforeRecovery d conv s).clock = s.clock := congrArg (fun v => v.2.2.2.2) hside
  have hcheck := beforeRecovery_check d conv s
  rw [sampled_eq]
  generalize beforeRecovery d conv s = u at *
  have ht : SameOrders (noticeConditions (recoverMap u)).drive (recoverMap u) :=
    (drive_orders _).trans (noticeConditions_orders _)
  refine ⟨?_, fun hd he => ?_, fun x => ?_⟩
  · have hn : (noticeConditions (recoverMap u)).axle = (recoverMap u).axle :=
      congrArg Prod.fst (noticeConditions_axles _).1
    rw [State.drive_axle, hn, ← haxle]
    exact recoverMap_axle h
  · rw [ht.stops, ht.check, recoverMap_inPass h (haxle ▸ hd)]
    obtain ⟨hstops, -, hc, -⟩ := passEnd_ended (recovered u)
    rw [(recovered_orders u).check, hcheck he] at hc
    exact ⟨hstops, hc⟩
  · rw [drive_event, State.portState, noticeConditions_ports]
    refine (congrArg EventCell.latest (recoverMap_event h x)).trans ?_
    rw [withEvent, haxle, hclock]

end

/-! ### Stuck beams (R46) -/

section
variable {s : State} {j : Boundary} {b : Beam}

theorem blockedNow_iff (p : Pair) (b : Beam) : blockedNow p b = true ↔ BeamIsBlocked p b := by
  rw [← beamBlocked_iff]
  unfold blockedNow
  cases p.decoder <;> rfl

/-- A beam that is reported, before the capture in flight is told of it. -/
def stuckMarked (s : State) (j : Boundary) (b : Beam) : State :=
  (invalidateMap (s.setPair j (markStuck b))).raise (.beamStuck j b)

theorem handleStuck_reports (hj : j.val ≤ deckCount s.legal) (hb : BeamIsBlocked s.axle.pairs[j] b)
    (hm : isStuck s.axle.pairs[j] b = false) :
    handleStuck j b s = axleMoved (stuckMarked s j b) :=
  if_pos ⟨pairInUse_iff.mpr hj, (blockedNow_iff ..).mpr hb, Bool.not_eq_true' _ ▸ hm⟩

theorem handleStuck_idle (h : ¬(j.val ≤ deckCount s.legal ∧ BeamIsBlocked s.axle.pairs[j] b) ∨
    isStuck s.axle.pairs[j] b = true) : handleStuck j b s = s := by
  refine if_neg fun ⟨hj, hb, hm⟩ => ?_
  rcases h with h | h
  · exact h ⟨pairInUse_iff.mp hj, (blockedNow_iff ..).mp hb⟩
  · exact absurd h (by rwa [Bool.not_eq_true, ← Bool.not_eq_true'])

theorem stuckMarked_orders (s : State) (j : Boundary) (b : Beam) : SameOrders (stuckMarked s j b) s :=
  (raise_orders _ (by simp [categoryOf])).trans ((invalidateMap_orders _).trans (setPair_orders ..))

/-- What an abort leaves: the blocks but for the active order, the run and the capture itself. -/
def State.besideOrder (s : State) :=
  (s.decks, s.axle, s.visit, s.ticket, s.metro, s.order.staged, s.order.stops)

theorem axleMoved_besideOrder (s : State) : (axleMoved s).besideOrder = s.besideOrder := by
  have hn : ∀ s : State, (noticeConditions s).besideOrder = s.besideOrder := by
    intro s
    rcases noticeConditions_cases s with h | h <;> rw [h]
    rfl
  rw [axleMoved, hn]
  rcases abortCapture_cases .axleMoved s with h | ⟨e, a, -, -, h⟩ <;> rw [h]
  rfl

theorem stuckMarked_side (s : State) (j : Boundary) (b : Beam) :
    (axleMoved (stuckMarked s j b)).axleSide = (stuckMarked s j b).axleSide := (axleMoved_axles _).1

/-- A report marks its beam, and makes the map INVALID with its content kept. -/
theorem stuckMarked_axle (s : State) (j : Boundary) (b : Beam) :
    (axleMoved (stuckMarked s j b)).axle = { s.axle with
      pairs := upd s.axle.pairs j (markStuck b)
      map := { s.axle.map with valid := false } } :=
  congrArg Prod.fst (stuckMarked_side s j b)

theorem stuckMarked_event (s : State) (j : Boundary) (b : Beam) (x : Port) :
    (axleMoved (stuckMarked s j b)).axleEvents x = withEvent (.beamStuck j b) s (s.axleEvents x) :=
  (congrArg (fun v => v.2.2.2.1 x) (stuckMarked_side s j b)).trans (raise_axleEvents _ _ x)

end
end Sys2Proof.Machine

/-!
O45, assembled.
-/

namespace Sys2Proof.Machine

section
variable {s : State} {j : Boundary}

/-! ### Changes of the raw state -/

theorem exec_beamRawChange (j : Boundary) (raw : BeamState) (s : State) : exec (.beamRawChange j raw) s =
    .next (if s.power = .running then (rawChange j raw s).drive
      else s.setPair j fun p => { p with raw := raw }) := rfl

theorem exec_beamRawChange_same {raw : BeamState} (hp : s.power = .running)
    (h : s.axle.pairs[j].raw = raw) : exec (.beamRawChange j raw) s = .next s.drive := by
  rw [exec_beamRawChange, if_pos hp, rawChange, if_pos h]

/-- A change starts the persistence time anew. -/
theorem exec_beamRawChange_moved {raw : BeamState} (hp : s.power = .running)
    (h : s.axle.pairs[j].raw ≠ raw) :
    let moved := s.setPair j fun p =>
      { p with raw := raw, persist := if j.val ≤ deckCount s.legal then some 0 else none }
    (s.axle.filter ≠ 0 → exec (.beamRawChange j raw) s = .next moved.drive) ∧
      (s.axle.filter = 0 → exec (.beamRawChange j raw) s = exec (.filterTimeExpired j) moved) := by
  intro moved
  have hm : setRaw j raw s = moved := by
    refine setPair_congr s j ?_
    simp only [h, if_false, pairInUse_iff]
  rw [exec_beamRawChange, if_pos hp, rawChange, if_neg h, hm]
  refine ⟨fun hf => ?_, fun hf => ?_⟩
  · exact congrArg (fun x : State => Host.Outcome.next x.drive) (if_neg hf)
  · refine (congrArg (fun x : State => Host.Outcome.next x.drive) (if_pos hf)).trans ?_
    exact (runCommand_running (f := filterExpired j) (s := moved) hp).symm

/-! ### The end of a persistence time -/

theorem exec_filterTimeExpired_idle (hp : s.power = .running)
    (h : deckCount s.legal < j.val ∨ s.axle.pairs[j].persist = none) :
    exec (.filterTimeExpired j) s = .next s.drive := by
  refine (runCommand_running (f := filterExpired j) hp).trans ?_
  rw [filterExpired, if_neg]
  rintro ⟨hj, hper⟩
  rcases h with h | h
  · exact absurd (pairInUse_iff.mp hj) (Nat.not_le.mpr h)
  · rw [h] at hper
    exact Bool.false_ne_true hper

theorem exec_filterTimeExpired (hp : s.power = .running) (hj : j.val ≤ deckCount s.legal)
    (hper : s.axle.pairs[j].persist ≠ none) :
    exec (.filterTimeExpired j) s = .next (takeTransition j s).drive := by
  refine (runCommand_running (f := filterExpired j) hp).trans ?_
  rw [filterExpired, if_pos ⟨pairInUse_iff.mpr hj, Option.isSome_iff_ne_none.mpr hper⟩]

/-- A return to CLEAR that is neither a crossing nor a phase error is quiet. -/
theorem takeTransition_return (hraw : s.axle.pairs[j].raw = .clear)
    (h : s.axle.pairs[j].decoder = none ∨
      (s.axle.pairs[j].decoder = some .u ∧ s.axle.pairs[j].start ≠ .d) ∨
      (s.axle.pairs[j].decoder = some .d ∧ s.axle.pairs[j].start ≠ .u)) :
    takeTransition j s = recoverMap (noticeConditions (s.setPair j takenPair)) := by
  refine takeTransition_quiet (h.imp_right ?_)
  rintro (⟨hd, hs⟩ | ⟨hd, hs⟩)
  · exact ⟨.u, hd, by rw [hraw]; decide, by rw [hraw]; exact if_neg hs⟩
  · exact ⟨.d, hd, by rw [hraw]; decide, by rw [hraw]; exact if_neg hs⟩

/-- A transition to a state other than CLEAR that is no phase error leaves the map. -/
theorem takeTransition_map_away {old : BeamState} (hj : j.val ≤ deckCount s.legal)
    (hd : s.axle.pairs[j].decoder = some old) (hraw : s.axle.pairs[j].raw ≠ .clear)
    (hn : ¬IsJump old s.axle.pairs[j].raw) : (takeTransition j s).drive.axle.map = s.axle.map := by
  by_cases hr : old = s.axle.pairs[j].raw
  · rw [takeTransition_same (hr ▸ hd)]
    rfl
  · have hq : decodeTransition s.axle.pairs[j].start old s.axle.pairs[j].raw = .quiet := by
      cases old <;> cases hx : s.axle.pairs[j].raw <;> simp_all [decodeTransition, IsJump]
    rw [takeTransition_quiet (.inr ⟨old, hd, hr, hq⟩)]
    exact (recoverMap_after quiet_orders quiet_map).1 fun h => hraw ((recovers_quiet hj).mp h).2.2

end

/-- The abort of O45, in its words. -/
theorem CaptureAborted.whole {s t : State} {e : OrderCapture} {a : ActiveOrder}
    (h : CaptureAborted s e a t) :
    t.order.engine = none ∧ t.order.active = some { a with state := e.fromState } ∧
      t.order.condRun = 0 ∧ t.order.stops = s.order.stops ∧ t.visit = s.visit ∧
      ∀ x, (t.portState x).events[(2 : Fin 9)] =
        withEvent (.orderAborted a.order.visit a.order.kind .axleMoved) s
          (s.portState x).events[(2 : Fin 9)] :=
  ⟨h.engine, h.active, h.condRun, h.stops, h.visit, h.events⟩

/-- Settles O45: a transition is quiet, a crossing or a phase error; a sample and a stuck beam follow. -/
theorem beamTransitions : Obligations.BeamTransitions := by
  refine ⟨⟨fun j raw s => ⟨exec_beamRawChange_same, exec_beamRawChange_moved, fun hp => ?held⟩,
    fun j s hp => ⟨exec_filterTimeExpired_idle hp, fun hj hper => ?taken⟩⟩,
    fun d conv s hp hd hv => ⟨_, exec_deckSample conv hp hd, ?sample⟩, fun j b s hp => ⟨?stuck, ?idle⟩⟩
  case held => rw [exec_beamRawChange, if_neg hp]
  case taken =>
    refine ⟨_, exec_filterTimeExpired hp hj hper, ?_⟩
    obtain ⟨hpairs, hfilter⟩ := takeTransition_pairs s j
    have hq : (takeTransition j s).drive.axle.pairs[j] = takenPair s.axle.pairs[j] := by
      rw [State.drive_axle, hpairs, upd_get, if_pos rfl]
    have ho : ∀ i : Boundary, i ≠ j → (takeTransition j s).drive.axle.pairs[i] = s.axle.pairs[i] := by
      intro i hi
      rw [State.drive_axle, hpairs, upd_get, if_neg (Ne.symm hi)]
    obtain ⟨hraw', hdec, hper'⟩ := takenPair_keeps s.axle.pairs[j]
    obtain ⟨hu, hu', hd, hd'⟩ := takenPair_beams s.axle.pairs[j]
    rw [hq]
    refine ⟨hfilter, ho, hraw', hdec, hper', hu, hu', hd, hd', fun hraw hquiet => ?return_,
      fun hnone => ?first, fun old hold => ⟨fun hn => takenPair_row hold hn, fun hjump => ?jump,
        fun hraw hboth => ?both, fun hraw hn => takeTransition_map_away hj hold hraw hn,
        fun hraw hjump => ?away⟩⟩
    case return_ =>
      have hr := recovers_quiet hj
      obtain ⟨hstay, hrec⟩ := recoverMap_after (quiet_orders (s := s) (j := j)) quiet_map
      rw [takeTransition_return hraw hquiet]
      refine ⟨fun hn => hstay fun h => hn ?_, fun ⟨hv, hc⟩ => ?_⟩
      · obtain ⟨hv, hc, -⟩ := hr.mp h
        exact ⟨hv, hc⟩
      · obtain ⟨hmap, hev, hout, hin⟩ := hrec (hr.mpr ⟨hv, hc, hraw⟩)
        exact ⟨hmap, hev, hout, fun hd _ _ => hin hd⟩
    case first =>
      rw [takenPair_first hnone]
      exact ⟨rfl, rfl⟩
    case jump =>
      obtain ⟨herr, hst⟩ := takenPair_jump hold hjump
      refine ⟨herr, hst, fun e a he ha => ?_⟩
      rw [takeTransition_jump hold hjump]
      refine ⟨jump_engine old he ha, fun hn => ?_⟩
      refine ((jump_stays hj old ?_).2.2 e a he ha).whole
      rcases hn with h | h | ⟨d, hd, hm⟩ | ⟨i, hi, hin, hm⟩
      · exact .inl h
      · exact .inr fun hc => by simp [hc.1] at h
      · exact .inr fun hc => hm (hc.2.1 d hd)
      · exact .inr fun hc => hm (hc.2.2 i hi hin)
    case both =>
      have hjump : IsJump old s.axle.pairs[j].raw := .inr (.inl ⟨hboth, hraw⟩)
      rw [takeTransition_jump hold hjump]
      refine ⟨fun hn => ?_, fun hc => jump_recovers hj old hraw hc⟩
      obtain ⟨hmap, hev, -⟩ := jump_stays hj old (.inr hn)
      refine ⟨hmap, fun x => ?_⟩
      rw [hev x, hboth, hraw]
      exact ⟨rfl, rfl⟩
    case away =>
      rw [takeTransition_jump hold hjump]
      obtain ⟨hmap, hev, -⟩ := jump_stays hj old (.inl hraw)
      exact ⟨hmap, fun x => congrArg EventCell.latest (hev x)⟩
  case sample =>
    have hr := recovers_sampled (d := d) (conv := conv) hv
    exact ⟨fun hn => sampled_stays fun h => hn (hr.mp h), fun hc => sampled_recovers (hr.mpr hc)⟩
  case stuck =>
    rintro ⟨hj, hb⟩ hm
    have hms : isStuck s.axle.pairs[j] b = false := by cases b <;> exact hm
    refine ⟨_, runCommand_running (f := handleStuck j b) hp, ?_⟩
    rw [handleStuck_reports hj hb hms]
    have haxle := stuckMarked_axle s j b
    have hbeside := axleMoved_besideOrder (stuckMarked s j b)
    simp only [State.besideOrder, Prod.mk.injEq] at hbeside
    obtain ⟨hdecks, -, hvisit, hticket, hmetro, hstaged, hstops⟩ := hbeside
    refine ⟨congrArg AxleUnit.map haxle, (congrArg AxleUnit.filter haxle).trans rfl, fun i => ?_, fun x => ?_,
      fun e a he ha => ?_, hdecks, hvisit, hticket, hmetro, hstaged, hstops⟩
    · rw [State.drive_axle, haxle, upd_get]
      by_cases hi : i = j
      · subst hi
        rw [if_pos rfl, if_pos rfl]
        cases b <;> rfl
      · rw [if_neg (Ne.symm hi), if_neg hi]
    · rw [drive_event]
      exact congrArg EventCell.latest (stuckMarked_event s j b x)
    · exact ((axleMoved_aborts (stuckMarked_orders s j b) he ha).then (drive_orders _)).whole
  case idle =>
    intro h
    refine (runCommand_running (f := handleStuck j b) hp).trans ?_
    rw [handleStuck_idle]
    refine h.imp id fun hm => ?_
    cases b <;> exact hm

end Sys2Proof.Machine

/-!
The decks beside a boundary after a crossing (R28, R166).
-/

namespace Sys2Proof.Machine

/-! ### Deck by deck -/

/-- A deck of the monitor, and the measurement that stands on it. -/
def State.deckRun (s : State) (e : DeckId) : Deck × Option ShuntRun := (s.decks[e], s.metro.decks[e].run)

/-- Steps that each change their own thing alone, once. -/
theorem foldl_each {σ ι β : Type} [DecidableEq ι] {view : σ → ι → β} {f : σ → ι → σ} {g : β → β}
    (h : ∀ s d e, view (f s d) e = if e = d then g (view s e) else view s e) {l : List ι} (hn : l.Nodup)
    (s : σ) (e : ι) : view (l.foldl f s) e = if e ∈ l then g (view s e) else view s e := by
  induction l generalizing s with
  | nil => simp
  | cons d l ih =>
    obtain ⟨hd, hn⟩ := List.nodup_cons.mp hn
    rw [List.foldl_cons, ih hn, h]
    by_cases he : e = d
    · subst he
      simp [hd]
    · simp [he]

/-- A monitor that gives no ZERO_LIMIT changes its own deck, and no measurement. -/
theorem applyMonitor_deckRun {d : DeckId} {x : Monitor} (h : .zero .zeroLimit ∉ x.notes) (s : State)
    (e : DeckId) : (applyMonitor d x s).deckRun e =
      if e = d then (x.deck, s.metro.decks[e].run) else s.deckRun e := by
  have hm := (applyMonitor_quiet s d x h).1
  unfold State.deckRun
  rw [applyMonitor_decks, hm]
  simp only [upd_get]
  by_cases he : e = d
  · subst he
    simp
  · simp [he, Ne.symm he]

/-- What a crossing leaves of a deck and its measurement. -/
def afterCrossing (k : Deck × Option ShuntRun) : Deck × Option ShuntRun := ((crossDeck k.1).deck, k.2)

/-- What the abandonment of a measurement leaves of its deck. -/
def afterAbandon (k : Deck × Option ShuntRun) : Deck × Option ShuntRun :=
  if k.2 = none then k else ((abandonHold k.1).deck, none)

theorem afterAbandon_idle {k : Deck × Option ShuntRun} (h : k.2 = none) : afterAbandon k = k := if_pos h

theorem afterAbandon_measured {k : Deck × Option ShuntRun} (h : k.2 ≠ none) :
    afterAbandon k = ((abandonHold k.1).deck, none) := if_neg h

theorem zeroLimit_not_mem {ns : List DeckNote}
    (h : ∀ n ∈ ns, ∃ m, n = .entered m ∧ raisesEntry m = false) :
    DeckNote.zero .zeroLimit ∉ ns := fun hn => by
  obtain ⟨m, hm, -⟩ := h _ hn
  cases hm

theorem crossOnDeck_deckRun (s : State) (d e : DeckId) : (crossOnDeck s d).deckRun e =
    if e = d then afterCrossing (s.deckRun e) else s.deckRun e := by
  rw [crossOnDeck, applyMonitor_deckRun (zeroLimit_not_mem (crossDeck_notes _))]
  by_cases he : e = d
  · subst he
    rfl
  · simp only [he, if_false]

theorem abandonRun_deckRun (s : State) (d e : DeckId) : (abandonRun d s).deckRun e =
    if e = d then afterAbandon (s.deckRun e) else s.deckRun e := by
  unfold abandonRun
  split
  · next h =>
    by_cases he : e = d
    · subst he
      rw [if_pos rfl, afterAbandon_idle h]
    · rw [if_neg he]
  · next r h =>
    dsimp only
    rw [applyMonitor_deckRun (zeroLimit_not_mem (abandonHold_notes _))]
    by_cases he : e = d
    · subst he
      have hr : (s.deckRun e).2 ≠ none := by simp only [State.deckRun, h, ne_eq, reduceCtorEq, not_false_iff]
      rw [if_pos rfl, if_pos rfl, afterAbandon_measured hr]
      simp [State.deckRun, switchShunt]
    · simp [State.deckRun, he, Fin.val_ne_of_ne (Ne.symm he), switchShunt]

theorem abandonOn_deckRun (c : AbortCause) (s : State) (d e : DeckId) : (abandonOn c d s).deckRun e =
    if e = d then afterAbandon (s.deckRun e) else s.deckRun e := by
  have ha : ∀ s e, (abortOperation c s).deckRun e = s.deckRun e := by
    intro s e
    simp [State.deckRun]
  rw [← abandonRun_deckRun]
  unfold abandonOn
  split
  · next h => rw [abandonRun_none s h]
  · split
    · exact ha _ _
    · rfl

/-! ### The decks beside a boundary -/

theorem mem_decksBeside {s : State} {j : Boundary} {d : DeckId} : d ∈ decksBeside s j ↔
    d.val < deckCount s.legal ∧ (d.val = j.val ∨ d.val + 1 = j.val) := by
  simp [decksBeside, State.inUse, decksInUse, deckInUse, boundaryA, boundaryB, Fin.ext_iff, or_comm,
    and_comm]

theorem decksBeside_nodup (s : State) (j : Boundary) : (decksBeside s j).Nodup :=
  ((List.nodup_finRange 4).filter _).filter _

/-- A boundary in use has a deck in use beside it. -/
theorem decksBeside_nonempty {s : State} {j : Boundary} (hj : j.val ≤ deckCount s.legal) :
    ∃ d, d ∈ decksBeside s j := by
  obtain ⟨h1, h4⟩ := deckCount_bounds s.legal
  by_cases h : j.val < deckCount s.legal
  · exact ⟨⟨j.val, by omega⟩, mem_decksBeside.mpr ⟨h, .inl rfl⟩⟩
  · refine ⟨⟨j.val - 1, by omega⟩, mem_decksBeside.mpr ⟨?_, .inr ?_⟩⟩
    · show j.val - 1 < _
      omega
    · show j.val - 1 + 1 = _
      omega

/-! ### A crossing in its parts (R47) -/

/-- The state of a crossing after the map, the decks beside and their measurements. -/
def crossedSides (j : Boundary) (d : Direction) (s : State) : State :=
  (decksBeside s j).foldl (fun s d => abandonOn .motion d s)
    ((decksBeside s j).foldl crossOnDeck (crossOnMap j d s).1)

/-- The state after the order controller's part. -/
def crossedOrders (j : Boundary) (d : Direction) (s : State) : State :=
  match (crossOnMap j d s).2 with
  | some (started, ended) => reportCrossing started ended (crossedSides j d s)
  | none => crossedSides j d s

theorem handleCrossing_eq (j : Boundary) (d : Direction) (s : State) : handleCrossing j d s =
    (decksBeside s j).foldl (fun s d => abortTestCapture d s) (crossedOrders j d s) := by
  unfold handleCrossing crossedOrders crossedSides
  rfl

theorem handleCrossing_orders (j : Boundary) (d : Direction) (s : State) :
    SameOrders (handleCrossing j d s) (crossedOrders j d s) := by
  rw [handleCrossing_eq]
  exact foldl_orders (fun s d => abortTestCapture_orders s d) _ _

theorem crossedSides_orders (j : Boundary) (d : Direction) (s : State) :
    SameOrders (crossedSides j d s) (crossOnMap j d s).1 :=
  (foldl_orders (fun s d => abandonOn_orders s .motion d) _ _).trans
    (foldl_orders (fun s d => applyMonitor_orders s d _) _ _)

/-- A deck beside the boundary is crossed, and loses a measurement; another stands. -/
theorem handleCrossing_deck (j : Boundary) (d : Direction) (s : State) (e : DeckId) :
    (handleCrossing j d s).decks[e] =
      if e ∈ decksBeside s j then (afterAbandon (afterCrossing (s.deckRun e))).1 else s.decks[e] := by
  have hx : (crossOnMap j d s).1.deckRun e = s.deckRun e := by
    have h := crossOnMap_bridge s j d
    simp only [State.deckRun, h.2.1, h.2.2.1]
  have hz : (handleCrossing j d s).decks = (crossedSides j d s).decks := by
    rw [handleCrossing_eq, foldl_keeps (view := State.decks) (fun s d => (abortTestCapture_keeps s d).2.1)]
    unfold crossedOrders
    split
    · exact (reportCrossing_bridge ..).2.1
    · rfl
  have hn := decksBeside_nodup s j
  rw [hz]
  show ((crossedSides j d s).deckRun e).1 = _
  rw [crossedSides, foldl_each (view := State.deckRun) (abandonOn_deckRun .motion) hn,
    foldl_each (view := State.deckRun) crossOnDeck_deckRun hn, hx]
  split <;> rfl

/-! ### What becomes of a deck -/

section
variable {k : Deck}

theorem crossDeck_settled (hh : k.hold = false) (hs : isSettled k.mode = true) :
    (crossDeck k).deck = enterMode .motion { dropReference k with window := [] } := by
  rw [crossDeck, if_neg (by simp [hh]), if_pos hs]
  rfl

theorem crossDeck_unsettled (hh : k.hold = false) (hs : isSettled k.mode = false) :
    (crossDeck k).deck = { k with window := if isFaultMode k.mode then k.window else [] } := by
  rw [crossDeck, if_neg (by simp [hh]), if_neg (by simp [hs])]
  split <;> rfl

/-- An abandonment off EMPTY drops the reference and the window alone. -/
theorem abandonHold_off_empty (h : k.mode ≠ .empty) :
    (abandonHold k).deck = { dropReference k with hold := false, window := [] } := by
  rw [abandonHold, if_neg h]
  rfl

end
end Sys2Proof.Machine

/-!
A crossing handled whole (O46): its transition, the order controller's part, and the theorem.
-/

namespace Sys2Proof.Machine

/-! ### What a crossing makes of a deck beside it -/

section
variable {k : Deck} {r : Option ShuntRun}

theorem crossed_unmeasured (hr : r = none) :
    (afterAbandon (afterCrossing (k, r))).1 = (crossDeck k).deck := by
  rw [afterAbandon_idle (k := afterCrossing (k, r)) hr]
  rfl

theorem crossed_measured (hr : r ≠ none) (h : (crossDeck k).deck.mode ≠ .empty) :
    (afterAbandon (afterCrossing (k, r))).1 =
      { dropReference (crossDeck k).deck with hold := false, window := [] } := by
  rw [afterAbandon_measured (k := afterCrossing (k, r)) hr]
  exact abandonHold_off_empty h

/-- A settled deck enters MOTION, whether or not a measurement is abandoned with it. -/
theorem crossed_settled (hh : k.hold = false) (hs : isSettled k.mode = true) :
    let x := (afterAbandon (afterCrossing (k, r))).1
    x.mode = .motion ∧ x.window = [] ∧ x.reference = none ∧ x.settledRun = 0 ∧
      x.motionCount = k.motionCount ∧ x.entryNumber = k.entryNumber + 1 ∧
      x.history = k.history.set (modeNumber .motion) (some (k.entryNumber + 1)) := by
  have hk := crossDeck_settled hh hs
  have hm : (crossDeck k).deck.mode = .motion := by rw [hk]; rfl
  by_cases hr : r = none
  · rw [crossed_unmeasured hr, hk]
    exact ⟨rfl, rfl, rfl, rfl, rfl, rfl, rfl⟩
  · rw [crossed_measured hr (by simp [hm]), hk]
    exact ⟨rfl, rfl, rfl, rfl, rfl, rfl, rfl⟩

theorem ne_empty_of_not_settled {m : DeckMode} (h : isSettled m = false) : m ≠ .empty := by
  rintro rfl
  cases h

/-- Another keeps its state, and loses its window unless it is in a fault state. -/
theorem crossed_unsettled (hh : k.hold = false) (hs : isSettled k.mode = false) :
    let x := (afterAbandon (afterCrossing (k, r))).1
    x.mode = k.mode ∧ (isFaultMode k.mode = false → x.window = []) ∧
      (r = none → x = { k with window := if isFaultMode k.mode then k.window else [] }) := by
  have hk := crossDeck_unsettled hh hs
  have hm : (crossDeck k).deck.mode = k.mode := by rw [hk]
  by_cases hr : r = none
  · rw [crossed_unmeasured hr, hk]
    exact ⟨rfl, fun hf => if_neg (by simp [hf]), fun _ => rfl⟩
  · rw [crossed_measured hr (hm ▸ ne_empty_of_not_settled hs), hk]
    exact ⟨rfl, fun _ => rfl, fun h => absurd h hr⟩

theorem crossed_ne_empty (hh : k.hold = false) :
    (afterAbandon (afterCrossing (k, r))).1.mode ≠ .empty := by
  cases hs : isSettled k.mode with
  | true =>
    rw [(crossed_settled hh hs).1]
    decide
  | false =>
    rw [(crossed_unsettled hh hs).1]
    exact ne_empty_of_not_settled hs

end

/-! ### The map's part (R50, R54) -/

section
variable {s : State} {j : Boundary} {d : Direction}

theorem crossOnMap_invalid (h : s.axle.map.valid = false) : crossOnMap j d s = (s, none) := by
  rw [crossOnMap, if_neg (by simp [h])]

theorem crossOnMap_applied {m : AxleMap} {a b : Bool} (hv : s.axle.map.valid = true)
    (h : crossMap (deckCount s.legal) j.val d s.axle.map = .applied m a b) :
    crossOnMap j d s = (s.setMap fun _ => m, some (a, b)) := by
  rw [crossOnMap, if_pos hv, h]

theorem crossOnMap_fault {r : FaultReason} (hv : s.axle.map.valid = true)
    (h : crossMap (deckCount s.legal) j.val d s.axle.map = .fault r) :
    crossOnMap j d s = (axleMoved ((invalidateMap s).raise (.mapFault j d r)), none) := by
  rw [crossOnMap, if_pos hv, h]

/-- A fault makes the map INVALID, with its event. -/
theorem crossOnMap_fault_axles {r : FaultReason} (hv : s.axle.map.valid = true)
    (h : crossMap (deckCount s.legal) j.val d s.axle.map = .fault r) :
    (crossOnMap j d s).1.axle.map = { s.axle.map with valid := false } ∧
      ∀ x, (crossOnMap j d s).1.axleEvents x = withEvent (.mapFault j d r) s (s.axleEvents x) := by
  rw [crossOnMap_fault hv h]
  have hside := (axleMoved_axles ((invalidateMap s).raise (.mapFault j d r))).1
  exact ⟨congrArg (fun v => v.1.map) hside,
    fun x => (congrArg (fun v => v.2.2.2.1 x) hside).trans (raise_axleEvents _ _ x)⟩

/-! ### The order controller's part -/

/-- The order controller has noted the crossing (R67). -/
def crossingTold (s : State) : State :=
  s.setOrder fun u => { u with
    crossingSince := u.crossingSince || match s.order.active with
      | some a => a.state = .surveying
      | none => false }

theorem reportCrossing_eq (a b : Bool) (s : State) : reportCrossing a b s =
    if b then passEnd (reportApplied (if a then emptyStops s else s))
    else reportApplied (if a then emptyStops s else s) := rfl

/-- What the start of a pass leaves of the orders. -/
theorem startPass_keeps (a : Bool) (s : State) : let u := if a then emptyStops s else s
    u.order.engine = s.order.engine ∧ u.order.active = s.order.active ∧ u.clock = s.clock := by
  cases a <;> exact ⟨rfl, rfl, rfl⟩

section
variable {t u v : State} {e : OrderCapture} {a : ActiveOrder}

/-- An abort told at the time of `s`. -/
theorem CaptureAborted.told (h : CaptureAborted v e a t) (hc : v.clock = s.clock) :
    t.order.engine = none ∧ t.order.active = some { a with state := e.fromState } ∧
      t.order.condRun = 0 ∧ ∀ x, (t.portState x).events[(2 : Fin 9)].latest =
        some (.orderAborted a.order.visit a.order.kind .axleMoved, ⟨s.clock.day, s.clock.sec⟩) := by
  refine ⟨h.engine, h.active, h.condRun, fun x => ?_⟩
  rw [← hc]
  exact congrArg EventCell.latest (h.events x)

theorem reportApplied_aborts (he : u.order.engine = some e) (ha : u.order.active = some a) :
    CaptureAborted (crossingTold u) e a (reportApplied u) :=
  axleMoved_aborts (.refl _) he ha

/-- The stops and the group results at the start of a pass, and with its end. -/
theorem reportCrossing_starts (b : Bool) (s : State) : (reportCrossing true b s).order.stops = [] ∧
    (reportCrossing true b s).check = { s.check with table := .empty } := by
  have hs : (reportApplied (emptyStops s)).order.stops = [] :=
    congrArg (fun v => v.2.2.2.2.2.2) (axleMoved_besideOrder (crossingTold (emptyStops s)))
  have hc : (reportApplied (emptyStops s)).check = { s.check with table := .empty } :=
    (reportApplied_axles (emptyStops s)).2
  rw [reportCrossing_eq]
  cases b with
  | false => exact ⟨hs, hc⟩
  | true =>
    obtain ⟨hstops, -, hcheck, -⟩ := passEnd_ended (reportApplied (emptyStops s))
    exact ⟨hstops, hcheck.trans (by rw [hc])⟩

/-- A crossing that ends its pass, with no capture in flight. -/
theorem reportCrossing_ends (h : s.order.engine = none) : PassEnded s (reportCrossing false true s) := by
  have hi : SameOrders (reportApplied s) (crossingTold s) := axleMoved_idle h
  exact PassEnded.of_before (s := crossingTold s) (passEnd_ended (reportApplied s)) hi

theorem reportCrossing_engine (started ended : Bool) (he : s.order.engine = some e)
    (ha : s.order.active = some a) : (reportCrossing started ended s).order.engine = none := by
  obtain ⟨h1, h2, -⟩ := startPass_keeps started s
  have h := (reportApplied_aborts (h1.trans he) (h2.trans ha)).engine
  rw [reportCrossing_eq]
  split
  · exact (passEnd_engine _).trans h
  · exact h

end

/-! ### The crossing as a transition -/

theorem takeTransition_crossing {old : BeamState} (hd : s.axle.pairs[j].decoder = some old)
    (hn : old ≠ s.axle.pairs[j].raw)
    (hc : decodeTransition s.axle.pairs[j].start old s.axle.pairs[j].raw = .crossing d) :
    takeTransition j s = recoverMap (noticeConditions (handleCrossing j d (s.setPair j
      (takeState s.axle.pairs[j].raw (startAfter s.axle.pairs[j].start old s.axle.pairs[j].raw))))) := by
  simp only [takeTransition, hd, hn, if_false, hc, handleDecoded]

/-- After a crossing the decks beside are not EMPTY: no recovery follows. -/
theorem crossing_stays (hj : j.val ≤ deckCount s.legal)
    (hh : ∀ e : DeckId, e.val < deckCount s.legal → s.decks[e].hold = false) :
    recoverMap (noticeConditions (handleCrossing j d s)) = noticeConditions (handleCrossing j d s) := by
  refine recoverMap_stays fun hr => ?_
  obtain ⟨e, he⟩ := decksBeside_nonempty hj
  have hin := (mem_decksBeside.mp he).1
  have hlegal : (noticeConditions (handleCrossing j d s)).legal = s.legal :=
    (congrArg Metrology.legal (noticeConditions_bridge _).2.2.1).trans (handleCrossing_sensing s j d).2
  have hm := hr.2.2.1 e (hlegal ▸ hin)
  rw [State.deckMode, (noticeConditions_bridge _).2.1, handleCrossing_deck, if_pos he] at hm
  exact crossed_ne_empty (hh e hin) hm

/-- The state after the end of a persistence time that gives a crossing. -/
theorem exec_crossing (hp : s.power = .running) (hj : j.val ≤ deckCount s.legal)
    (hper : s.axle.pairs[j].persist ≠ none) (hraw : s.axle.pairs[j].raw = .clear)
    (hf : d = .forward → s.axle.pairs[j].decoder = some .d ∧ s.axle.pairs[j].start = .u)
    (hr : d = .reverse → s.axle.pairs[j].decoder = some .u ∧ s.axle.pairs[j].start = .d)
    (hh : ∀ e : DeckId, e.val < deckCount s.legal → s.decks[e].hold = false) :
    ∃ f, exec (.filterTimeExpired j) s =
      .next (noticeConditions (handleCrossing j d (s.setPair j f))).drive := by
  have hc : ∃ old, s.axle.pairs[j].decoder = some old ∧ old ≠ s.axle.pairs[j].raw ∧
      decodeTransition s.axle.pairs[j].start old s.axle.pairs[j].raw = .crossing d := by
    rw [hraw]
    cases d with
    | forward => exact ⟨.d, (hf rfl).1, by decide, by rw [(hf rfl).2]; rfl⟩
    | reverse => exact ⟨.u, (hr rfl).1, by decide, by rw [(hr rfl).2]; rfl⟩
  obtain ⟨old, hd, hn, hc⟩ := hc
  have ht := takeTransition_crossing hd hn hc
  rw [crossing_stays (s := s.setPair j _) hj hh] at ht
  exact ⟨_, (exec_filterTimeExpired hp hj hper).trans
    (congrArg (fun x : State => Host.Outcome.next x.drive) ht)⟩

end

/-- Settles O46: the map, the decks and the order controller each take the crossing. -/
theorem crossingsAreHandledWhole : Obligations.CrossingsAreHandledWhole := by
  intro j dir s hp hj hper hraw hf hr hh beside step_
  obtain ⟨f, hx⟩ := exec_crossing hp hj hper hraw hf hr hh
  refine ⟨_, hx, ?_⟩
  have hs : SameOrders (s.setPair j f) s := setPair_orders ..
  have hbeside : ∀ d, d ∈ decksBeside (s.setPair j f) j ↔ beside d := fun _ => mem_decksBeside
  have hrun : ∀ d, (s.setPair j f).deckRun d = (s.decks[d], s.metro.decks[d].run) := fun _ => rfl
  have hdecks : (s.setPair j f).decks = s.decks := rfl
  have hmap : (s.setPair j f).axle.map = s.axle.map := rfl
  have hlegal : (s.setPair j f).legal = s.legal := rfl
  have hevents : ∀ x, (s.setPair j f).axleEvents x = (s.portState x).events[(1 : Fin 9)] := fun _ => rfl
  generalize s.setPair j f = u at *
  have hstep : crossMap (deckCount u.legal) j.val dir u.axle.map = step_ := by rw [hlegal, hmap]
  generalize step_ = st at hstep ⊢
  have ht : SameOrders (noticeConditions (handleCrossing j dir u)).drive (crossedOrders j dir u) :=
    (drive_orders _).trans ((noticeConditions_orders _).trans (handleCrossing_orders j dir u))
  have hside : (noticeConditions (handleCrossing j dir u)).drive.axleSide =
      (crossOnMap j dir u).1.axleSide := by
    rw [drive_axleSide, (noticeConditions_axles _).1, handleCrossing_axleSide]
  have hdeck : ∀ e : DeckId, (noticeConditions (handleCrossing j dir u)).drive.decks[e] =
      if e ∈ decksBeside u j then (afterAbandon (afterCrossing (s.decks[e], s.metro.decks[e].run))).1
      else s.decks[e] := by
    intro e
    rw [State.drive_decks, (noticeConditions_bridge _).2.1, handleCrossing_deck, hrun, hdecks]
  have htmap := congrArg (fun v => v.1.map) hside
  have htevents := fun x => congrArg (fun v => v.2.2.2.1 x) hside
  generalize (noticeConditions (handleCrossing j dir u)).drive = t at *
  have hsides := crossedSides_orders j dir u
  have hvalid : s.axle.map.valid = true → u.axle.map.valid = true := fun hv => by rwa [hmap]
  have hended : ∀ {m : AxleMap} {a b : Bool}, s.axle.map.valid = true → st = .applied m a b →
      crossedOrders j dir u = reportCrossing a b (crossedSides j dir u) ∧
        SameOrders (crossedSides j dir u) s := by
    intro m a b hv hc
    have hm := crossOnMap_applied (hvalid hv) (hstep.trans hc)
    refine ⟨by rw [crossedOrders, hm], (crossedSides_orders j dir u).trans ?_⟩
    rw [hm]
    exact (setMap_orders u fun _ => m).trans hs
  refine ⟨fun hv => ?map, fun hv => ?invalid, fun d hd => ⟨fun hset => ?settled, fun hset => ?unsettled⟩,
    fun d hd => ?away, fun e a he ha hv => ⟨fun r hc => ?fault, fun m started hc => ?moved,
      fun m started hc => ?ended⟩, fun hv m ended hc => ?started, fun hv he _ m hc => ?pass⟩
  case map =>
    cases st with
    | applied m a b =>
      rw [crossOnMap_applied (hvalid hv) hstep] at htmap
      exact htmap
    | fault r =>
      obtain ⟨hm, hev⟩ := crossOnMap_fault_axles (hvalid hv) hstep
      refine ⟨htmap.trans (hm.trans (by rw [hmap])), fun x => ?_⟩
      rw [← hs.clock]
      exact congrArg EventCell.latest ((htevents x).trans (hev x))
  case invalid =>
    rw [crossOnMap_invalid (by rwa [hmap])] at htmap
    exact htmap.trans hmap
  case settled =>
    rw [State.deckMode, hdeck, if_pos ((hbeside d).mpr hd)]
    exact crossed_settled (hh d hd.1) hset
  case unsettled =>
    rw [State.deckMode, hdeck, if_pos ((hbeside d).mpr hd)]
    exact crossed_unsettled (hh d hd.1) hset
  case away => rw [hdeck, if_neg fun h => hd ((hbeside d).mp h)]
  case fault =>
    have hm := crossOnMap_fault (hvalid hv) (hstep.trans hc)
    have hx : SameOrders t (crossOnMap j dir u).1 := by
      refine ht.trans ?_
      rw [crossedOrders, hm, ← congrArg Prod.fst hm]
      exact crossedSides_orders j dir u
    rw [hm] at hx
    have hu : SameOrders ((invalidateMap u).raise (.mapFault j dir r)) s :=
      (raise_orders _ (by simp [categoryOf])).trans ((invalidateMap_orders u).trans hs)
    exact ((axleMoved_aborts hu he ha).then hx).told rfl
  case moved =>
    obtain ⟨hz, hy⟩ := hended hv hc
    obtain ⟨h1, h2, h3⟩ := startPass_keeps started (crossedSides j dir u)
    have hab := reportApplied_aborts (h1.trans (hy.engine.trans he)) (h2.trans (hy.active.trans ha))
    rw [hz] at ht
    exact (hab.then ht).told (h3.trans hy.clock)
  case ended =>
    obtain ⟨hz, hy⟩ := hended hv hc
    rw [ht.engine, hz]
    exact reportCrossing_engine started true (hy.engine.trans he) (hy.active.trans ha)
  case started =>
    obtain ⟨hz, hy⟩ := hended hv hc
    obtain ⟨hstops, hcheck⟩ := reportCrossing_starts ended (crossedSides j dir u)
    rw [ht.stops, ht.check, hz, hstops, hcheck, hy.check]
    exact ⟨rfl, rfl⟩
  case pass =>
    obtain ⟨hz, hy⟩ := hended hv hc
    have hpass := reportCrossing_ends (hy.engine.trans he)
    rw [hz] at ht
    exact (hpass.of_before hy).then ht

end Sys2Proof.Machine

/-!
The pins follow the state after every step (O54): every command that acts ends by driving them, and what else a
step changes is read by no pin.
-/

namespace Sys2Proof.Machine

/-! ### Driving the pins -/

/-- No pin is read in driving the pins. -/
theorem drive_drives (s : State) : PinsFollow s.drive := by
  have hp : s.drive.drive.ports = s.drive.ports := vmap_vmap ..
  have hf : s.drive.drive.front = s.drive.front := by
    apply Vector.ext
    intro d hd
    simp only [State.drive, vgen_getElem, Fin.getElem_fin]
    congr 1
    exact vmap_vmap ..
  exact congrArg₂ (fun p f => { s.drive with ports := p, front := f }) hp hf

/-- What no pin reads may differ. -/
theorem PinsFollow.same {s t : State} (h : PinsFollow s) (ho : t.order = s.order)
    (hp : t.ports = s.ports) (hf : t.front = s.front) (hw : t.power = s.power)
    (hl : laneSignals t = laneSignals s) (hu : t.legal = s.legal) : PinsFollow t := by
  have he : excitedNow t = excitedNow s := by
    funext d
    simp only [excitedNow, hw, hu]
  have hd : t.drive = { t with order := s.drive.order, ports := s.drive.ports, front := s.drive.front } := by
    simp only [State.drive, ho, hp, hf, hw, hl, he]
  rw [PinsFollow, hd, h, ← ho, ← hp, ← hf]

/-- With the machine held the lane signals are not read. -/
theorem PinsFollow.same_held {s t : State} (h : PinsFollow s) (hs : s.power ≠ .running)
    (ho : t.order = s.order) (hp : t.ports = s.ports) (hf : t.front = s.front)
    (hw : t.power = s.power) : PinsFollow t := by
  have he : ∀ u : State, u.power ≠ .running → excitedNow u = fun _ => false := by
    intro u hu
    funext d
    simp [excitedNow, hu]
  have hd : t.drive = { t with order := s.drive.order, ports := s.drive.ports, front := s.drive.front } := by
    simp only [State.drive, ho, hp, hf, he t (hw ▸ hs), he s hs, hw, hs, decide_false, Bool.false_eq_true,
      if_false]
  rw [PinsFollow, hd, h, ← ho, ← hp, ← hf]

/-! ### Steps -/

section
variable {s t : State}

/-- A command that acts only while the machine runs ends by driving the pins. -/
theorem PinsFollow.driven {x : State} (hs : PinsFollow s)
    (he : (.next (if s.power = .running then x.drive else s) : Host.Outcome State Fault Refusal) = .next t) :
    PinsFollow t := by
  cases he
  split
  · exact drive_drives _
  · exact hs

theorem exec_pins {i : Instr} (hs : PinsFollow s) (he : exec i s = .next t) : PinsFollow t := by
  cases i with
  | beamRawChange j raw =>
    cases he
    split
    · exact drive_drives _
    · exact hs.same_held ‹_› rfl rfl rfl rfl
  | dayRollover =>
    cases he
    split
    · exact drive_drives _
    · split <;> exact hs.same_held ‹_› rfl rfl rfl rfl
  | resetAsserted b =>
    cases he
    exact drive_drives _
  | restart b r =>
    rcases execRestart_cases b r s with ⟨-, e⟩ | ⟨x, -, e⟩ <;> rw [exec, e] at he <;> cases he <;>
      exact drive_drives _
  | _ => exact hs.driven he

/-- A millisecond changes times alone. -/
theorem tick_pins (hs : PinsFollow s) : PinsFollow (tick s) := by
  have ho : (runTimes s).sessionOpen = s.sessionOpen := by
    simp only [runTimes, State.sessionOpen, State.setMetro_metro, State.setTicket_metro,
      State.setAxle_metro]
    cases s.metro.session with
    | none => rfl
    | some r => simp only [Option.map_some, tickSession]; split <;> rfl
  have hl : laneSignals (runTimes s) = laneSignals s := by
    simp only [laneSignals, ho]
    rfl
  have h1 : PinsFollow (runTimes s) := hs.same rfl rfl rfl rfl hl rfl
  unfold tick
  dsimp only
  split
  · exact h1.same rfl rfl rfl rfl rfl rfl
  · exact hs.same rfl rfl rfl rfl rfl rfl

theorem step_pins (hs : PinsFollow s) (h : step s = .next t) : PinsFollow t := by
  rcases step_cases h with ⟨-, rfl⟩ | ⟨c, rest, -, he⟩
  · exact tick_pins hs
  · exact exec_pins (s := s.withPending rest) (hs.same rfl rfl rfl rfl rfl rfl) he

end

/-! ### What the pins then show -/

section
variable {t : State} (h : PinsFollow t)
include h

theorem PinsFollow.lanes (hp : t.power = .running) :
    t.order.laneA = (laneSignals t).1 ∧ t.order.laneB = (laneSignals t).2 := by
  have ha : t.drive.order.laneA = (laneSignals t).1 := by simp [State.drive, hp]
  have hb : t.drive.order.laneB = (laneSignals t).2 := by simp [State.drive, hp]
  rw [h] at ha hb
  exact ⟨ha, hb⟩

theorem PinsFollow.attention (x : Port) : (t.portState x).attention =
    (decide (t.power = .running) && attentionOf (t.portState x)) := by
  have hx : (t.drive.portState x).attention =
      (decide (t.power = .running) && attentionOf (t.portState x)) := by
    simp [State.portState, State.drive]
  rwa [h] at hx

theorem PinsFollow.excited (d : DeckId) (i : CellId) :
    t.front[d].cells[i].excited = excitedNow t d := by
  have hx : t.drive.front[d].cells[i].excited = excitedNow t d := by simp [State.drive]
  rwa [h] at hx

theorem PinsFollow.held (hp : t.power ≠ .running) : t.order.laneA = .stop ∧ t.order.laneB = .stop ∧
    (∀ x, (t.portState x).attention = false) ∧
      ∀ (d : DeckId) (i : CellId), t.front[d].cells[i].excited = false := by
  have ha : t.drive.order.laneA = .stop := by simp [State.drive, hp]
  have hb : t.drive.order.laneB = .stop := by simp [State.drive, hp]
  rw [h] at ha hb
  exact ⟨ha, hb, fun x => by simp [h.attention, hp], fun d i => by
    rw [h.excited]
    simp [excitedNow, hp]⟩

end

theorem attentionOf_iff (p : PortState) :
    attentionOf p = true ↔ ∃ c : Fin 9, 0 < p.events[c].count ∧ p.mask[c] = false := by
  simp [attentionOf]

/-- Nothing is released with a session open, the map INVALID or no order active (R78). -/
theorem laneSignals_closed {t : State}
    (h : t.sessionOpen = true ∨ t.axle.map.valid = false ∨ t.order.active = none) :
    laneSignals t = (.stop, .stop) := by
  unfold laneSignals
  split
  · rfl
  · split
    · rfl
    · rcases h with h | h | h <;> simp_all

/-- The rows of R78 for an active order under a VALID map. -/
theorem laneSignals_active {t : State} {a : ActiveOrder} (hs : t.sessionOpen = false)
    (hv : t.axle.map.valid = true) (ha : t.order.active = some a) : laneSignals t =
      match a.state, t.axle.map.direction with
      | .waiting, none | .surveying, none => (.go, .go)
      | .surveying, some .forward | .complete, some .forward => (.stop, .go)
      | .surveying, some .reverse | .complete, some .reverse => (.go, .stop)
      | _, _ => (.stop, .stop) := by
  simp only [laneSignals, hs, hv, ha, Bool.not_true, Bool.false_eq_true, if_false]
  cases a.state <;> rcases t.axle.map.direction with _ | _ | _ <;> rfl

/-- Settles O54: each command keeps the pins, and so does a millisecond; the table is that of `laneSignals`. -/
theorem stepKeepsPins : Obligations.StepKeepsPins := by
  intro s t hs hstep
  have h := step_pins hs hstep
  refine ⟨h, fun hp => ?_, h.held⟩
  obtain ⟨hA, hB⟩ := h.lanes hp
  refine ⟨fun hc => ?closed, fun a ho hv ha => ?active, fun x => ?attention⟩
  case closed =>
    rw [hA, hB, laneSignals_closed hc]
    exact ⟨rfl, rfl⟩
  case active =>
    rw [hA, hB, laneSignals_active ho hv ha]
    rcases a with ⟨o, st, n, l⟩
    cases st <;> rcases t.axle.map.direction with _ | _ | _ <;> simp
  case attention => simp [h.attention, hp, attentionOf_iff]

end Sys2Proof.Machine

/-!
What the decks, the statuses, the operations and the printer lines leave of the order queue, the capture engine and the
session's being open.
-/

namespace Sys2Proof.Machine

/-! ### The view -/

/-- The order queue, the capture in flight and the stops, and whether a session is open: what OrdersOk reads. -/
def State.queue (s : State) : Option ActiveOrder × List Order × Option OrderCapture × List Stop × Bool :=
  (s.order.active, s.order.staged, s.order.engine, s.order.stops, s.sessionOpen)

/-- The session is open, or not, as the axle side has it. -/
theorem sessionOpen_of_side {s t : State} (h : t.axleSide = s.axleSide) : t.sessionOpen = s.sessionOpen := by
  simp only [State.axleSide, Prod.mk.injEq] at h
  exact h.2.2.1

theorem SameOrders.queue {s t : State} (h : SameOrders t s) (ha : SameAxles t s) : t.queue = s.queue := by
  simp only [State.queue, h.active, h.staged, h.engine, h.stops, sessionOpen_of_side ha.1]

section
variable (s : State)

@[simp] theorem setPort_queue (p : Port) (f : PortState → PortState) : (s.setPort p f).queue = s.queue := rfl
@[simp] theorem setFront_queue (d : DeckId) (f : FrontEnd → FrontEnd) : (s.setFront d f).queue = s.queue := rfl
@[simp] theorem setDeck_queue (d : DeckId) (f : Deck → Deck) : (s.setDeck d f).queue = s.queue := rfl
@[simp] theorem setAxle_queue (f : AxleUnit → AxleUnit) : (s.setAxle f).queue = s.queue := rfl
@[simp] theorem setPair_queue (j : Boundary) (f : Pair → Pair) : (s.setPair j f).queue = s.queue := rfl
@[simp] theorem setMap_queue (f : AxleMap → AxleMap) : (s.setMap f).queue = s.queue := rfl
@[simp] theorem setCheck_queue (f : AxleCheck → AxleCheck) : (s.setCheck f).queue = s.queue := rfl
@[simp] theorem setVisit_queue (f : VisitUnit → VisitUnit) : (s.setVisit f).queue = s.queue := rfl
@[simp] theorem setTicket_queue (f : TicketUnit → TicketUnit) : (s.setTicket f).queue = s.queue := rfl
@[simp] theorem setWatch_queue (f : WatchUnit → WatchUnit) : (s.setWatch f).queue = s.queue := rfl
@[simp] theorem setClock_queue (f : Clock → Clock) : (s.setClock f).queue = s.queue := rfl
@[simp] theorem setMetroDeck_queue (d : DeckId) (f : MetroDeck → MetroDeck) :
    (s.setMetroDeck d f).queue = s.queue := rfl
@[simp] theorem raise_queue (c : Cause) : (s.raise c).queue = s.queue := rfl
@[simp] theorem drive_queue : s.drive.queue = s.queue := rfl

@[simp] theorem raiseAll_queue (cs : List Cause) : (s.raiseAll cs).queue = s.queue :=
  foldl_keeps (view := State.queue) (fun s c => raise_queue s c) cs s

theorem setMetro_queue {f : Metrology → Metrology} (h : (f s.metro).session = s.metro.session) :
    (s.setMetro f).queue = s.queue := by
  simp only [State.queue, State.sessionOpen, State.setMetro_metro, h, State.setMetro_order]

theorem setSession_queue {f : Session → Session} (h : ∀ r, (f r).isOpen = r.isOpen) :
    (setSession f s).queue = s.queue := by
  have ho := sessionOpen_of_side (setSession_axles s h).1
  simp only [State.queue, ho]
  rfl

@[simp] theorem noticeConditions_queue : (noticeConditions s).queue = s.queue :=
  (noticeConditions_orders s).queue (noticeConditions_axles s)

@[simp] theorem logProtective_queue (k : LogKind) (d : Option DeckId) :
    (s.logProtective k d).queue = s.queue := setMetro_queue s (by simp)

@[simp] theorem touchSession_queue (p : Port) : (touchSession p s).queue = s.queue := by
  have ho := sessionOpen_of_side (touchSession_axles p s).1
  have hq : (touchSession p s).order = s.order := by
    unfold touchSession
    split <;> rfl
  simp only [State.queue, ho, hq]

/-! ### Statuses, monitors and measurements -/

@[simp] theorem changeStatusWithEvent_queue (p : Bool) (d : DeckId) (v : VStatus) (c : StatusCause) :
    (changeStatusWithEvent p d v c s).queue = s.queue := by
  have hc := (changeStatus_orders s p d v c).queue (changeStatus_axles s p d v c)
  unfold changeStatusWithEvent
  dsimp only
  split
  · rfl
  · simp [hc]

@[simp] theorem reportDowngrade_queue (c : StatusCause) (d : DeckId) : (reportDowngrade c d s).queue = s.queue :=
  (reportDowngrade_orders s c d).queue (reportDowngrade_axles s c d)

@[simp] theorem sampleHead_queue (d : DeckId) (conv : Conversion) : (sampleHead d conv s).queue = s.queue :=
  (sampleHead_orders s d conv).queue (sampleHead_axles s d conv)

@[simp] theorem applyMonitor_queue (d : DeckId) (x : Monitor) : (applyMonitor d x s).queue = s.queue :=
  (applyMonitor_orders s d x).queue (applyMonitor_axles s d x)

@[simp] theorem abandonRun_queue (d : DeckId) : (abandonRun d s).queue = s.queue :=
  (abandonRun_orders s d).queue (abandonRun_axles s d)

@[simp] theorem abandonOn_queue (c : AbortCause) (d : DeckId) : (abandonOn c d s).queue = s.queue :=
  (abandonOn_orders s c d).queue (abandonOn_axles s c d)

@[simp] theorem abortTestCapture_queue (d : DeckId) : (abortTestCapture d s).queue = s.queue :=
  (abortTestCapture_orders s d).queue (abortTestCapture_axles s d)

@[simp] theorem clearOperation_queue : (clearOperation s).queue = s.queue := setSession_queue s fun _ => rfl

@[simp] theorem abandonOperation_queue : (abandonOperation s).queue = s.queue := by
  unfold abandonOperation
  split
  · rfl
  · split <;> simp

@[simp] theorem raiseOutcome_queue (o : Operation) (r : OpOutcome) : (raiseOutcome o r s).queue = s.queue := rfl

@[simp] theorem startRun_queue (b : Bool) (d : DeckId) : (startRun b d s).queue = s.queue := rfl

@[simp] theorem endRun_queue (d : DeckId) : (endRun d s).queue = s.queue := rfl

@[simp] theorem endRefused_queue (o : Operation) (c : Status) : (endRefused o c s).queue = s.queue := by
  simp [endRefused]

@[simp] theorem endAdjusted_queue (o : Operation) (l : List Int) : (endAdjusted o l s).queue = s.queue := rfl

@[simp] theorem schedule_queue (entered : Bool) (d : DeckId) : (schedule entered d s).queue = s.queue := by
  unfold schedule
  split <;> rfl

@[simp] theorem endTest_queue (o : Operation) (k : TestKind) (c : TestCapture) :
    (endTest o k c s).queue = s.queue := by
  have hs : ∀ s l, (setSession (fun x => { x with results := x.results ++ l }) s).queue = s.queue :=
    fun s l => setSession_queue s fun _ => rfl
  unfold endTest
  dsimp only
  split <;> simp [hs]

@[simp] theorem completeCheck_queue (d : DeckId) (diffs : List Int) : (completeCheck d diffs s).queue = s.queue := by
  unfold completeCheck
  dsimp only
  split <;> simp

theorem testSample_queue (d : DeckId) (w : Int) (raw : Vector Int 4) : (testSample d w raw s).queue = s.queue := by
  unfold testSample
  split
  · exact setSession_queue s fun _ => rfl
  · rfl

theorem startOperation_queue (k : OpKind) (d : DeckId) : (startOperation k d s).queue = s.queue := by
  have ho : ∀ o, (setSession (fun r => { r with op := some o }) s).queue = s.queue :=
    fun o => setSession_queue s fun _ => rfl
  unfold startOperation
  dsimp only
  split <;> simp [ho]

theorem certify_queue (d : DeckId) : (certify d s).queue = s.queue := by
  simp [certify]

theorem switchTaken_queue (l : SwitchLevel) : (switchTaken l s).queue = s.queue := by
  have hm : (s.setMetro fun m => { m with switch := l }).queue = s.queue := setMetro_queue s rfl
  unfold switchTaken
  split
  · rfl
  · simp [hm]

theorem dueTest_queue : (dueTest s).queue = s.queue := by
  refine foldl_keeps (view := State.queue) (fun s d => ?_) _ s
  split <;> simp

/-! ### Slips, tickets and printer lines -/

@[simp] theorem queueSlip_queue (e : BridgeEnd) (k : SlipKind) (content : List PrintField) :
    (queueSlip e k content s).queue = s.queue := by
  unfold queueSlip
  split <;> rfl

@[simp] theorem queueTicket_queue (t : Ticket) (e : BridgeEnd) : (queueTicket t e s).queue = s.queue := by
  unfold queueTicket
  split <;> rfl

@[simp] theorem reportTicket_queue (t : Ticket) : (reportTicket t s).queue = s.queue := by
  simp [reportTicket]

@[simp] theorem queue_disarm (n : Nat) : (disarm n s).queue = s.queue := rfl

@[simp] theorem reportClosed_queue (v : Visit) : (reportClosed v s).queue = s.queue := by
  unfold reportClosed
  split <;> rfl

/-- The weighing step records, holds or issues; the queue waits for its outcome (R110). -/
@[simp] theorem weighingStep_queue (r : CaptureResult) : (weighingStep r s).2.queue = s.queue := by
  unfold weighingStep
  split
  · rfl
  · split
    · rfl
    · dsimp only
      split
      · simp [holdResult]
      · simp [issueResult]

@[simp] theorem releaseHeld_queue (v : Visit) (h : HeldTicket) : (releaseHeld v h s).2.queue = s.queue := by
  simp [releaseHeld]

theorem printAnswered_queue (e : BridgeEnd) (a : PrintReply) : (printAnswered e a s).queue = s.queue := by
  unfold printAnswered printTaken printRefused failHead printerFails
  dsimp only
  repeat' split
  all_goals rfl

theorem statusAnswered_queue (e : BridgeEnd) (a : QueryReply) : (statusAnswered e a s).queue = s.queue := by
  unfold statusAnswered
  repeat' split
  all_goals rfl

theorem answerTimedOut_queue (e : BridgeEnd) : (answerTimedOut e s).queue = s.queue := by
  unfold answerTimedOut printRefused failHead
  dsimp only
  repeat' split
  all_goals rfl

end

/-! ### Requests that leave the queue -/

section
variable (s : State)

theorem ownClearEvents_queue (h : Header) (l : List (Nat × Nat)) : (ownClearEvents h l s).1.queue = s.queue := by
  unfold ownClearEvents
  split <;> rfl

theorem ownSetPortRate_queue (h : Header) (n c : Nat) : (ownSetPortRate h n c s).1.queue = s.queue := by
  unfold ownSetPortRate
  dsimp only
  repeat' split
  all_goals rfl

theorem ownClearDeckHistory_queue (n : Nat) (l : List (Choice DeckMode × BitVec 32)) :
    (ownClearDeckHistory n l s).1.queue = s.queue := by
  unfold ownClearDeckHistory
  repeat' split
  all_goals rfl

theorem ownZero_queue (n : Nat) : (ownZero n s).1.queue = s.queue := by
  unfold ownZero
  split
  · rfl
  · split
    · rfl
    · exact foldl_keeps (view := State.queue) (fun s d => setDeck_queue s d takeZero) _ s

theorem ownSetClass_queue (c : Nat) (b : ClassBody) : (ownSetClass c b s).1.queue = s.queue := by
  unfold ownSetClass
  dsimp only
  repeat' split
  all_goals rfl

theorem ownDeleteClass_queue (c : Nat) : (ownDeleteClass c s).1.queue = s.queue := by
  unfold ownDeleteClass
  repeat' split
  all_goals rfl

theorem ownStoreTare_queue (n : Nat) : (ownStoreTare n s).1.queue = s.queue := by
  unfold ownStoreTare
  repeat' split
  all_goals rfl

theorem ownDeleteTare_queue (plate : Text) : (ownDeleteTare plate s).1.queue = s.queue := by
  unfold ownDeleteTare
  split <;> rfl

theorem ownReprint_queue (n : Nat) (p : Choice BridgeEnd) : (ownReprint n p s).1.queue = s.queue := by
  unfold ownReprint
  dsimp only
  repeat' split
  all_goals rfl

theorem ownSetPrinting_queue (c : Choice Bool) (i l : Nat) : (ownSetPrinting c i l s).1.queue = s.queue := by
  unfold ownSetPrinting
  split <;> rfl

theorem ownSetWatch_queue (w : Choice WatchTarget) : (ownSetWatch w s).1.queue = s.queue := by
  unfold ownSetWatch
  repeat' split
  all_goals rfl

theorem ownClearWatchFlags_queue (l : List (Choice WatchChannel × BitVec 16)) :
    (ownClearWatchFlags l s).1.queue = s.queue := by
  unfold ownClearWatchFlags
  repeat' split
  all_goals rfl

theorem ownOperation_queue (k : Option OpKind) (n : Nat) : (ownOperation k n s).1.queue = s.queue := by
  unfold ownOperation
  repeat' split
  all_goals simp [startOperation_queue]

theorem ownCertifyDeck_queue (n : Nat) : (ownCertifyDeck n s).1.queue = s.queue := by
  unfold ownCertifyDeck
  repeat' split
  all_goals simp [certify_queue]

theorem ownSetShuntMode_queue (n : Nat) (m : Choice ShuntModeName) (p : Nat) :
    (ownSetShuntMode n m p s).1.queue = s.queue := by
  unfold ownSetShuntMode
  split <;> rfl

theorem ownReleaseLog_queue (q l r : Nat) : (ownReleaseLog q l r s).1.queue = s.queue := by
  unfold ownReleaseLog
  split
  · rfl
  · exact setMetro_queue s rfl

theorem ownSetClock_queue (d n : Nat) : (ownSetClock d n s).1.queue = s.queue := by
  unfold ownSetClock
  split
  · rfl
  · split
    · rfl
    · simp

end
end Sys2Proof.Machine

/-!
The order queue and the capture engine stay in agreement (O59): what each operation of the order controller does to
them, and that every command keeps OrdersOk.
-/

namespace Sys2Proof.Machine

/-! ### The queue apart from the engine -/

/-- What R61 asks of the queue and R74 of the stops, whatever the engine does. -/
def QueueOk (s : State) : Prop :=
  s.order.staged.length ≤ 2 ∧ (queueNumbers s.order).Nodup ∧
    (s.order.active = none → s.order.staged = []) ∧ s.order.stops.length ≤ 4

section
variable {s t : State}

theorem OrdersOk.queueOk (h : OrdersOk s) : QueueOk s := by
  obtain ⟨h2, hn, ha, -, h4⟩ := h
  exact ⟨h2, hn, ha, h4⟩

/-- No capture is in flight, and the active order is in another state than CAPTURING. -/
theorem QueueOk.idle (h : QueueOk s) (he : s.order.engine = none)
    (ha : ∀ a, s.order.active = some a → a.state ≠ .capturing) : OrdersOk s := by
  obtain ⟨h2, hn, h0, h4⟩ := h
  refine ⟨h2, hn, h0, ?_, h4⟩
  rw [he]
  cases hc : s.order.active with
  | none => rfl
  | some a => simpa using ha a hc

/-- A capture of an order in CAPTURING with no session open. -/
theorem QueueOk.capturing {e : OrderCapture} {a : ActiveOrder} (h : QueueOk s) (ho : s.sessionOpen = false)
    (he : s.order.engine = some e) (hf : e.fromState = .waiting ∨ e.fromState = .surveying)
    (ha : s.order.active = some a) (hst : a.state = .capturing) : OrdersOk s := by
  obtain ⟨h2, hn, h0, h4⟩ := h
  refine ⟨h2, hn, h0, ?_, h4⟩
  rw [he, ha]
  exact ⟨ho, by simp [hst], hf⟩

/-- The capture in flight, as OrdersOk has it (R69). -/
theorem OrdersOk.of_engine {e : OrderCapture} (h : OrdersOk s) (he : s.order.engine = some e) :
    s.sessionOpen = false ∧ (e.fromState = .waiting ∨ e.fromState = .surveying) ∧
      ∃ a, s.order.active = some a ∧ a.state = .capturing := by
  obtain ⟨-, -, -, hc, -⟩ := h
  rw [he] at hc
  obtain ⟨ho, ha, hf⟩ := hc
  exact ⟨ho, hf, by simpa [Option.any_eq_true] using ha⟩

/-- An active order in another state than CAPTURING has no capture in flight. -/
theorem OrdersOk.engine_none (h : OrdersOk s) (ha : ∀ a, s.order.active = some a → a.state ≠ .capturing) :
    s.order.engine = none := by
  cases he : s.order.engine with
  | none => rfl
  | some e =>
    obtain ⟨-, -, a, hc, hst⟩ := h.of_engine he
    exact absurd hst (ha a hc)

theorem OrdersOk.not_capturing (h : OrdersOk s) (he : s.order.engine = none) :
    ∀ a, s.order.active = some a → a.state ≠ .capturing := by
  obtain ⟨-, -, -, hc, -⟩ := h
  rw [he] at hc
  intro a ha
  simpa [ha] using hc

/-- A session that closes, or stays as it was, leaves the agreement. -/
theorem OrdersOk.of_order (h : OrdersOk s) (hq : t.order = s.order)
    (ho : t.sessionOpen = true → s.sessionOpen = true) : OrdersOk t := by
  obtain ⟨h2, hn, h0, hc, h4⟩ := h
  unfold OrdersOk
  rw [hq]
  refine ⟨h2, hn, h0, ?_, h4⟩
  split at hc
  · obtain ⟨hs, hx⟩ := hc
    exact ⟨Bool.eq_false_iff.mpr fun hb => Bool.false_ne_true (hs.symm.trans (ho hb)), hx⟩
  · exact hc

theorem OrdersOk.same (h : OrdersOk s) (hq : t.queue = s.queue) : OrdersOk t := by
  simp only [State.queue, Prod.mk.injEq] at hq
  obtain ⟨ha, hs, he, hp, ho⟩ := hq
  simpa only [OrdersOk, queueNumbers, ha, hs, he, hp, ho] using h

theorem OrdersOk.foldl {α : Type} {f : State → α → State} (hf : ∀ s a, OrdersOk s → OrdersOk (f s a))
    (l : List α) (h : OrdersOk s) : OrdersOk (l.foldl f s) := by
  induction l generalizing s with
  | nil => exact h
  | cons a l ih => exact ih (hf s a h)

/-! ### Leaving, promotion and states of the active order -/

/-- Promotion through staged orders of distinct visits, at most two, into an empty slot (R64). -/
theorem promoteFrom_ok {l : List Order} (hl : l.length ≤ 2) (hn : (l.map (·.visit)).Nodup)
    (ha : s.order.active = none) (he : s.order.engine = none) (h4 : s.order.stops.length ≤ 4) :
    OrdersOk (promoteFrom l s) := by
  induction l generalizing s with
  | nil =>
    refine QueueOk.idle ⟨Nat.zero_le _, ?_, fun _ => rfl, h4⟩ he fun a h => ?_
    · simp [promoteFrom, queueNumbers, ha]
    · cases ha.symm.trans h
  | cons o l ih =>
    obtain ⟨ho, hn⟩ := List.nodup_cons.mp hn
    have hl : l.length ≤ 2 := Nat.le_of_succ_le hl
    unfold promoteFrom
    split
    · refine QueueOk.idle ⟨hl, ?_, nofun, h4⟩ he fun a h => ?_
      · exact List.nodup_cons.mpr ⟨ho, hn⟩
      · cases h
        exact nofun
    · exact ih hl hn ha he h4

theorem QueueOk.staged_nodup (h : QueueOk s) : (s.order.staged.map (·.visit)).Nodup := by
  obtain ⟨-, hn, -⟩ := h
  exact (List.nodup_append.mp hn).2.1

theorem leaveActive_ok (r : OrderResult) (h : QueueOk s) (he : s.order.engine = none) :
    OrdersOk (leaveActive r s) := by
  unfold leaveActive
  split
  · rename_i ha
    exact h.idle he fun a hc => nomatch ha.symm.trans hc
  · exact promoteFrom_ok (s := raiseLeft _ r (s.setOrder fun u => { u with active := none, condRun := 0 }))
      h.1 h.staged_nodup rfl he h.2.2.2

theorem testedOrder_some {o : Order} (h : testedOrder s = some o) :
    ∃ a, s.order.active = some a ∧ a.order = o ∧ (a.state = .waiting ∨ a.state = .surveying) := by
  unfold testedOrder at h
  split at h
  · rename_i a ha
    split at h
    · rename_i hst
      exact ⟨a, ha, Option.some.inj h, hst⟩
    · cases h
  · cases h

theorem OrdersOk.tested_idle {o : Order} (h : OrdersOk s) (ht : testedOrder s = some o) :
    s.order.engine = none := by
  obtain ⟨a, ha, -, hst⟩ := testedOrder_some ht
  refine h.engine_none fun b hb => ?_
  cases ha.symm.trans hb
  rcases hst with hst | hst <;> rw [hst] <;> exact nofun

theorem examineActive_ok (n : Nat) (h : OrdersOk s) : OrdersOk (examineActive n s) := by
  unfold examineActive
  split
  · rename_i ht
    split
    · exact leaveActive_ok _ h.queueOk (h.tested_idle ht)
    · exact h
  · exact h

theorem reportAmended_ok (n : Nat) (h : OrdersOk s) : OrdersOk (reportAmended n s) :=
  (examineActive_ok n h).same (noticeConditions_queue _)

theorem reportGone_ok (n : Nat) (h : OrdersOk s) : OrdersOk (reportGone n s) :=
  (examineActive_ok n h).same (queue_disarm _ n)

/-- An active order in another place or state of the same visit. -/
theorem QueueOk.setActive {f : ActiveOrder → ActiveOrder} {g : OrderUnit → OrderUnit} (h : QueueOk s)
    (hf : ∀ a, (f a).order = a.order) (ha : (g s.order).active = s.order.active.map f)
    (hs : (g s.order).staged = s.order.staged) (hp : (g s.order).stops.length ≤ 4) :
    QueueOk (s.setOrder g) := by
  obtain ⟨h2, hn, h0, -⟩ := h
  refine ⟨?_, ?_, ?_, hp⟩
  · simpa [hs] using h2
  · cases hc : s.order.active with
    | none => simpa [queueNumbers, ha, hs, hc] using hn
    | some a => simpa [queueNumbers, ha, hs, hc, hf] using hn
  · simpa [ha, hs] using h0

theorem setActiveState_ok {st : OrderState} (hst : st ≠ .capturing) (h : QueueOk s)
    (he : s.order.engine = none) : OrdersOk (setActiveState st s) := by
  refine (h.setActive (f := fun a => { a with state := st }) (fun _ => rfl) rfl rfl h.2.2.2).idle he ?_
  intro a ha
  simp only [State.setOrder_order, Option.map_eq_some_iff] at ha
  obtain ⟨b, -, rfl⟩ := ha
  exact hst

theorem completeActive_ok (n : Option Nat) (h : QueueOk s) (he : s.order.engine = none) :
    OrdersOk (completeActive n s) := by
  unfold completeActive
  split
  · rename_i ha
    exact h.idle he fun a hc => nomatch ha.symm.trans hc
  · exact (setActiveState_ok (st := .complete) nofun h he).same (raise_queue _ _)

/-! ### Surveys and passes -/

/-- QueueOk and an idle engine speak of the order unit alone. -/
theorem QueueOk.of_order (h : QueueOk s) (hq : t.order = s.order) : QueueOk t := by
  simpa only [QueueOk, hq] using h

theorem queueSlip_order (e : BridgeEnd) (k : SlipKind) (content : List PrintField) (s : State) :
    (queueSlip e k content s).order = s.order := by
  unfold queueSlip
  split <;> rfl

theorem finishSurvey_ok (h : QueueOk s) (he : s.order.engine = none) : OrdersOk (finishSurvey s) := by
  unfold finishSurvey
  split
  · rename_i ha
    exact h.idle he fun a hc => nomatch ha.symm.trans hc
  · refine completeActive_ok none (h.of_order ?_) (Eq.trans ?_ he)
    · exact queueSlip_order ..
    · rw [queueSlip_order]
      rfl

theorem finishSurvey_engine (s : State) : (finishSurvey s).order.engine = s.order.engine := by
  unfold finishSurvey completeActive
  split
  · rfl
  · dsimp only
    split <;> simp [queueSlip_order, setActiveState]

theorem leaveWithoutPass_ok (h : OrdersOk s) (he : s.order.engine = none) : OrdersOk (leaveWithoutPass s) := by
  unfold leaveWithoutPass
  split
  · exact leaveActive_ok _ h.queueOk he
  · exact h

theorem passEndActive_ok (h : OrdersOk s) : OrdersOk (passEndActive s) := by
  unfold passEndActive
  split
  · exact h
  · rename_i a ha
    have hidle : a.state ≠ .capturing → s.order.engine = none := fun hst =>
      h.engine_none fun b hb => by cases ha.symm.trans hb; exact hst
    split <;> rename_i hst
    · exact h.same rfl
    · have he := hidle (by rw [hst]; exact nofun)
      exact leaveActive_ok _ (finishSurvey_ok h.queueOk he).queueOk ((finishSurvey_engine s).trans he)
    · exact leaveActive_ok _ h.queueOk (hidle (by rw [hst]; exact nofun))
    · exact leaveActive_ok _ h.queueOk (hidle (by rw [hst]; exact nofun))
    · exact h

theorem emptyStops_ok (h : OrdersOk s) : OrdersOk (emptyStops s) := by
  obtain ⟨h2, hn, h0, hc, -⟩ := h
  exact ⟨h2, hn, h0, hc, Nat.zero_le _⟩

theorem passEnd_ok (h : OrdersOk s) : OrdersOk (passEnd s) :=
  (emptyStops_ok (passEndActive_ok h)).same rfl

theorem recoverMap_ok (h : OrdersOk s) : OrdersOk (recoverMap s) := by
  unfold recoverMap
  dsimp only
  split
  · split
    · exact passEnd_ok (h.same rfl)
    · exact h.same rfl
  · exact h

/-! ### Captures -/

theorem abortCapture_ok (c : AbortCause) (h : OrdersOk s) : OrdersOk (abortCapture c s) := by
  rcases abortCapture_cases c s with hc | ⟨e, a, he, ha, hc⟩ <;> rw [hc]
  · exact h
  · obtain ⟨-, hf, -⟩ := h.of_engine he
    have hq : QueueOk (s.setOrder fun u =>
        { u with engine := none, condRun := 0, active := some { a with state := e.fromState } }) :=
      h.queueOk.setActive (f := fun a => { a with state := e.fromState }) (fun _ => rfl)
        (by rw [ha]; rfl) rfl h.queueOk.2.2.2
    refine (hq.idle rfl fun b hb => ?_).same (raise_queue _ _)
    cases hb
    rcases hf with hf | hf <;> rw [hf] <;> exact nofun

theorem axleMoved_ok (h : OrdersOk s) : OrdersOk (axleMoved s) :=
  (abortCapture_ok _ h).same (noticeConditions_queue _)

/-- A capture starts for a tested order, with no session open (R66, R69). -/
theorem startCapture_ok {o : Order} (h : OrdersOk s) (ht : testedOrder s = some o)
    (ho : s.sessionOpen = false) : OrdersOk (startCapture s) := by
  obtain ⟨a, ha, -, hst⟩ := testedOrder_some ht
  unfold startCapture
  rw [ha]
  refine QueueOk.capturing ?_ ho rfl hst rfl rfl
  exact h.queueOk.setActive (f := fun a => { a with state := .capturing }) (fun _ => rfl)
    (by rw [ha]; rfl) rfl h.queueOk.2.2.2

/-- Condition 1 (R66). -/
theorem firstFailing_closed {o : Order} (h : firstFailing s o = none) : s.sessionOpen = false := by
  unfold firstFailing at h
  dsimp only at h
  split at h
  · cases h
  · rename_i ho
    simpa using ho

theorem conditionsHold_iff : conditionsHold s = true ↔
    ∃ o, testedOrder s = some o ∧ firstFailing s o = none := by
  unfold conditionsHold
  split <;> rename_i ht <;> simp [ht]

theorem autoCaptureDue_holds (h : autoCaptureDue s = true) : conditionsHold s = true := by
  unfold autoCaptureDue at h
  split at h
  · simp only [Bool.and_eq_true] at h
    exact h.1.1.2
  · cases h

theorem testOnSample_ok (h : OrdersOk s) : OrdersOk (testOnSample s).1 := by
  have hc : OrdersOk (countTest s) := h.same rfl
  unfold testOnSample
  dsimp only
  split
  · split
    · rename_i hd
      obtain ⟨o, ht, hf⟩ := conditionsHold_iff.mp (autoCaptureDue_holds hd)
      exact startCapture_ok hc ht (firstFailing_closed hf)
    · exact hc
  · exact h

theorem addSample_fromState (d : DeckId) (w : Int) (e : OrderCapture) :
    (addSample d w e).fromState = e.fromState := by
  unfold addSample
  split <;> rfl

theorem captureSample_ok (d : DeckId) (w : Int) (h : OrdersOk s) : OrdersOk (captureSample d w s) := by
  cases he : s.order.engine with
  | none =>
    refine h.same ?_
    simp only [captureSample, State.queue, State.setOrder_order, he]
    rfl
  | some e =>
    obtain ⟨ho, hf, a, ha, hst⟩ := h.of_engine he
    refine QueueOk.capturing (s := captureSample d w s) h.queueOk ho (e := addSample d w e) ?_ ?_ ha hst
    · simp [captureSample, he]
    · rwa [addSample_fromState]

theorem takeGross_ok (d : DeckId) (raw : Vector Int 4) (w : Option Int) (h : OrdersOk s) :
    OrdersOk (takeGross d raw w s) := by
  cases w with
  | none => exact h
  | some w => exact (captureSample_ok d w h).same (testSample_queue ..)

/-- An order that gets its state back, when the engine is idle (R72, R73). -/
theorem returnOrder_ok {e : OrderCapture} (c : NotCompleted) (h : QueueOk s) (he : s.order.engine = none)
    (hf : e.fromState ≠ .capturing) : OrdersOk (returnOrder e c s) := by
  unfold returnOrder
  split
  · rename_i ha
    exact h.idle he fun a hc => nomatch ha.symm.trans hc
  · exact (setActiveState_ok hf h he).same rfl

theorem takeStop_queueOk (o : Order) (st : Stop) (h : QueueOk s) : QueueOk (takeStop o st s) := by
  obtain ⟨h2, hn, h0, h4⟩ := h
  unfold takeStop
  split
  · exact ⟨h2, hn, h0, h4⟩
  · refine ⟨h2, hn, h0, ?_⟩
    simp
    omega

theorem takeStop_engine (o : Order) (st : Stop) (s : State) :
    (takeStop o st s).order.engine = s.order.engine := by
  unfold takeStop
  split <;> rfl

/-- The weighing step's part of a capture's completion leaves the order unit to the order controller. -/
theorem weighingStep_order (r : CaptureResult) (s : State) : (weighingStep r s).2.order = s.order := by
  have hn : ∀ (s : State) cs, (s.raiseAll cs).order = s.order :=
    fun s cs => foldl_keeps (view := State.order) (f := State.raise) (fun _ _ => rfl) cs s
  have hq : ∀ t e s, (queueTicket t e s).order = s.order := by
    intro t e s
    unfold queueTicket
    split <;> rfl
  have hc : ∀ v s, (reportClosed v s).order = s.order := by
    intro v s
    unfold reportClosed
    split <;> rfl
  unfold weighingStep
  split
  · rfl
  · split
    · rfl
    · dsimp only
      split
      · simp [holdResult, hn, hc]
      · simp [issueResult, reportTicket, hn, hq, hc]

theorem weighOrder_ok {e : OrderCapture} (o : Order) (mass : Int) (m : Marks) (h : QueueOk s)
    (he : s.order.engine = none) (hf : e.fromState ≠ .capturing) : OrdersOk (weighOrder e o mass m s) := by
  unfold weighOrder
  dsimp only
  split <;> rename_i s1 hw
  all_goals
    have ho : s1.order = s.order := (congrArg (·.2.order) hw).symm.trans (weighingStep_order _ s)
    have h1 : QueueOk s1 := h.of_order ho
    have he1 : s1.order.engine = none := by rw [ho]; exact he
  · exact returnOrder_ok _ h1 he1 hf
  · exact completeActive_ok _ h1 he1
  · exact (setActiveState_ok (st := .held) nofun h1 he1).same (raise_queue _ _)

/-- The order unit once a survey's stop is taken (R76). -/
def surveyedUnit (e : OrderCapture) (m : Marks) (u : OrderUnit) : OrderUnit :=
  { u with
    crossingSince := false
    active := u.active.map fun a =>
      { a with state := .surveying, stopsTaken := a.stopsTaken + 1, lastStop := some (e.direction, m) } }

/-- The survey completes with its stop, or waits for the next (R76). -/
theorem surveyStop_cases (e : OrderCapture) (m : Marks) (reported : Bool) (s : State) :
    surveyStop e m reported s = s.setOrder (surveyedUnit e m) ∨
      surveyStop e m reported s = leaveWithoutPass (finishSurvey (s.setOrder (surveyedUnit e m))) := by
  unfold surveyStop
  dsimp only
  split
  · exact .inl rfl
  · split
    · exact .inr rfl
    · exact .inl rfl

theorem surveyStop_ok (e : OrderCapture) (m : Marks) (reported : Bool) (h : QueueOk s)
    (he : s.order.engine = none) : OrdersOk (surveyStop e m reported s) := by
  have h1 : QueueOk (s.setOrder (surveyedUnit e m)) :=
    h.setActive (f := fun a =>
      { a with state := .surveying, stopsTaken := a.stopsTaken + 1, lastStop := some (e.direction, m) })
      (fun _ => rfl) rfl rfl h.2.2.2
  rcases surveyStop_cases e m reported s with hc | hc <;> rw [hc]
  · refine h1.idle he fun a ha => ?_
    simp only [surveyedUnit, State.setOrder_order, Option.map_eq_some_iff] at ha
    obtain ⟨b, -, rfl⟩ := ha
    exact nofun
  · exact leaveWithoutPass_ok (finishSurvey_ok h1 he) ((finishSurvey_engine _).trans he)

theorem finishCheck_ok (e : OrderCapture) (o : Order) (mass : Int) (m : Marks) (h : QueueOk s)
    (he : s.order.engine = none) : OrdersOk (finishCheck e o mass m s) :=
  completeActive_ok none (h.of_order (queueSlip_order ..))
    ((congrArg OrderUnit.engine (queueSlip_order ..)).trans he)

theorem completeStop_ok {e : OrderCapture} (o : Order) (h : QueueOk s) (he : s.order.engine = none)
    (hf : e.fromState ≠ .capturing) : OrdersOk (completeStop e o s) := by
  have hq := takeStop_queueOk o (stopOf e o.kind s) h
  have he1 := (takeStop_engine o (stopOf e o.kind s) s).trans he
  unfold completeStop
  dsimp only
  split
  · exact weighOrder_ok _ _ _ hq he1 hf
  · exact weighOrder_ok _ _ _ hq he1 hf
  · exact weighOrder_ok _ _ _ hq he1 hf
  · exact surveyStop_ok _ _ _ hq he1
  · exact finishCheck_ok _ _ _ _ hq he1

/-- A capture that completes gives its order another state, and the engine is idle (R73 to R77). -/
theorem completeCapture_ok (h : OrdersOk s) : OrdersOk (completeCapture s) := by
  unfold completeCapture
  dsimp only
  split
  · rename_i e a he ha
    have hf : e.fromState ≠ .capturing := by
      obtain ⟨-, hf, -⟩ := h.of_engine he
      rcases hf with hf | hf <;> rw [hf] <;> exact nofun
    have hq : QueueOk (s.setOrder fun u => { u with engine := none }) := h.queueOk
    split
    · exact returnOrder_ok _ hq rfl hf
    · exact completeStop_ok _ hq rfl hf
  · exact h

end
end Sys2Proof.Machine

/-!
Every command keeps the agreement of the order queue and the capture engine (O59).
-/

namespace Sys2Proof.Machine

section
variable {s t : State}

/-! ### Legal writes (R152) -/

theorem clearTables_ok (h : OrdersOk s) : OrdersOk (clearTables s) := by
  have hg : OrdersOk ((s.visit.visits.map (·.number)).foldl (fun s n => reportGone n s)
      (s.setVisit (make .cleared))) :=
    (h.same (setVisit_queue ..)).foldl (fun s n hs => reportGone_ok n hs) _
  exact hg.same (setWatch_queue ..)

theorem makeChange_ok (w : Write) (h : OrdersOk s) : OrdersOk (makeChange s w) := by
  have h2 : OrdersOk ((s.setMetro fun m =>
      { m with legal := setLegalValue m.legal w.1 w.2, cal := m.cal + 1 }).logDeliberate
        (.paramChange w.1 (legalValue s.legal w.1) w.2) (paramDeck w.1)) :=
    (h.same (setMetro_queue s rfl)).same (logProtective_queue ..)
  unfold makeChange
  dsimp only
  split
  · exact (clearTables_ok h2).same (logProtective_queue ..)
  · exact h2

theorem lowerDecks_queue (ds : List DeckId) (s : State) : (lowerDecks ds s).queue = s.queue :=
  foldl_keeps (view := State.queue) (fun s d => changeStatusWithEvent_queue s _ d _ _) ds s

theorem writeLegal_ok (ws : List Write) (ds : List DeckId) (h : OrdersOk s) :
    OrdersOk (writeLegal ws ds s) := by
  have hr : ∀ s : State, (s.setMetro (rewriteCheck ws)).queue = s.queue := by
    intro s
    cases ws <;> rfl
  have hs : ∀ s : State, (setSession (supersede (decksAffectedBy ws)) s).queue = s.queue :=
    fun s => setSession_queue s fun _ => rfl
  exact (h.foldl (fun s w hs => makeChange_ok w hs) ws).same
    ((lowerDecks_queue ..).trans ((hs _).trans (hr _)))

theorem applyEffects_queue (old : LegalParams) (ws : List Write) (s : State) :
    (applyEffects old ws s).queue = s.queue := by
  have hd : ∀ s, (applyDecks old s).queue = s.queue := by
    intro s
    refine (foldl_keeps (view := State.queue) (fun s j => ?_) ..).trans
      (foldl_keeps (view := State.queue) (fun s d => ?_) ..)
    · split <;> rfl
    · split <;> rfl
  have hw : ∀ s, (applyWindows s).queue = s.queue :=
    fun s => foldl_keeps (view := State.queue) (fun s d => applyMonitor_queue s d _) _ s
  have hz : ∀ s, (applyZeros ws s).queue = s.queue :=
    fun s => foldl_keeps (view := State.queue) (fun s d => setDeck_queue s d _) _ s
  have hc : ∀ s, (capBudgets s).queue = s.queue := fun _ => rfl
  unfold applyEffects
  dsimp only
  split <;> split <;> split <;> simp only [hd, hw, hz, hc]

theorem legalWrite_ok (ws : List Write) (h : OrdersOk s) : OrdersOk (legalWrite ws s) := by
  unfold legalWrite
  split
  · exact h
  · exact (writeLegal_ok ws _ h).same ((noticeConditions_queue _).trans (applyEffects_queue ..))

/-! ### Samples (R21) -/

theorem abortOnDeck_ok (d : DeckId) (h : OrdersOk s) : OrdersOk (abortOnDeck d s) := by
  unfold abortOnDeck
  split
  · exact abortCapture_ok _ h
  · exact h

theorem captureStep_ok (endFirst : Bool) (d : DeckId) (h : OrdersOk s) :
    OrdersOk (captureStep endFirst d s) := by
  have hf : ∀ s, OrdersOk s → OrdersOk (if windowEnded s then completeCapture s else s) := by
    intro s hs
    split
    · exact completeCapture_ok hs
    · exact hs
  unfold captureStep
  dsimp only
  split
  · exact abortOnDeck_ok d (hf s h)
  · exact hf _ (abortOnDeck_ok d h)

theorem orderStep_ok (endFirst : Bool) (d : DeckId) (h : OrdersOk s) : OrdersOk (orderStep endFirst d s) := by
  have h4 : OrdersOk (noticeConditions (captureStep endFirst d s)) :=
    (captureStep_ok endFirst d h).same (noticeConditions_queue _)
  unfold orderStep
  dsimp only
  split
  · exact testOnSample_ok h4
  · exact h4

theorem endTestCapture_ok (h : OrdersOk s) : OrdersOk (endTestCapture s) := by
  have hc : OrdersOk (clearOperation s) := h.same (clearOperation_queue s)
  have hw : ∀ ws ds, OrdersOk (writeLegal ws ds (clearOperation s)) := fun ws ds => writeLegal_ok ws ds hc
  have hz : ∀ o c, OrdersOk (endAdjustZero o c s) := by
    intro o c
    unfold endAdjustZero
    dsimp only
    split
    · exact h.same (endRefused_queue ..)
    · exact (hw _ _).same ((endAdjusted_queue ..).trans
        ((noticeConditions_queue _).trans (applyMonitor_queue ..)))
  have hp : ∀ o r c, OrdersOk (endAdjustSpan o r c s) := by
    intro o r c
    unfold endAdjustSpan
    dsimp only
    split
    · exact h.same (endRefused_queue ..)
    · split
      · exact h.same (endRefused_queue ..)
      · split
        · exact h.same (endRefused_queue ..)
        · exact (legalWrite_ok _ hc).same (endAdjusted_queue ..)
  unfold endTestCapture
  split
  · exact h
  · split
    · exact h
    · split
      · exact h.same (endTest_queue ..)
      · exact h.same (endTest_queue ..)
      · exact hz _ _
      · exact hp _ _ _
      · exact h

theorem testCaptureStep_ok (endFirst : Bool) (d : DeckId) (h : OrdersOk s) :
    OrdersOk (testCaptureStep endFirst d s) := by
  have ha : ∀ s, OrdersOk s → OrdersOk (abortTestCapture d s) := fun s hs =>
    hs.same (abortTestCapture_queue s d)
  have hf : ∀ s, OrdersOk s → OrdersOk (if testWindowEnded d s then endTestCapture s else s) := by
    intro s hs
    split
    · exact endTestCapture_ok hs
    · exact hs
  unfold testCaptureStep
  dsimp only
  split
  · exact ha _ (hf s h)
  · exact hf _ (ha s h)

theorem completeReference_ok (d : DeckId) (diffs : List Int) (h : OrdersOk s) :
    OrdersOk (completeReference d diffs s) := by
  have h1 : OrdersOk (endRun d s) := h.same (endRun_queue s d)
  unfold completeReference
  dsimp only
  split
  · exact h1
  · split
    · exact h1.same (endRefused_queue ..)
    · split
      · exact h1.same (endRefused_queue ..)
      · exact (legalWrite_ok _ (h1.same (clearOperation_queue _))).same (endAdjusted_queue ..)

theorem shuntSample_ok (d : DeckId) (raw : Vector Int 4) (h : OrdersOk s) :
    OrdersOk (shuntSample d raw s).1 := by
  unfold shuntSample
  split
  · exact h
  · dsimp only
    split
    · exact h.same (setMetroDeck_queue ..)
    · split
      · split <;> exact h.same rfl
      · dsimp only
        split
        · exact completeReference_ok d _ h
        · exact h.same (completeCheck_queue ..)

theorem takeSample_ok (endFirst : Bool) (d : DeckId) (conv : Conversion) (h : OrdersOk s) :
    OrdersOk (takeSample endFirst d conv s) := by
  unfold takeSample
  split
  · rw [sampleWhole_fst, sampleTail_eq]
    refine (recoverMap_ok ?_).same (noticeConditions_queue _)
    refine (shuntSample_ok d _ (testCaptureStep_ok endFirst d (orderStep_ok endFirst d
      (takeGross_ok d _ _ (h.same ?_))))).same (schedule_queue ..)
    exact (applyMonitor_queue ..).trans (sampleHead_queue s d conv)
  · exact h

theorem takeSampleIf_ok (endFirst : Bool) (named : Happened → Bool) (d : DeckId) (conv : Conversion)
    (h : OrdersOk s) : OrdersOk (takeSampleIf endFirst named d conv s) := by
  rcases takeSampleIf_cases endFirst named d conv s with he | he <;> rw [he]
  · exact h
  · exact takeSample_ok endFirst d conv h

/-! ### Crossings, phase errors and stuck beams -/

theorem crossOnMap_ok (j : Boundary) (d : Direction) (h : OrdersOk s) : OrdersOk (crossOnMap j d s).1 := by
  unfold crossOnMap
  split
  · split
    · exact h.same (setMap_queue ..)
    · exact axleMoved_ok (h.same rfl)
  · exact h

theorem reportCrossing_ok (started ended : Bool) (h : OrdersOk s) : OrdersOk (reportCrossing started ended s) := by
  have h1 : ∀ s, OrdersOk s → OrdersOk (reportApplied s) := fun s hs => axleMoved_ok (hs.same rfl)
  have h0 : OrdersOk (if started then emptyStops s else s) := by
    split
    · exact emptyStops_ok h
    · exact h
  unfold reportCrossing
  dsimp only
  split
  · exact passEnd_ok (h1 _ h0)
  · exact h1 _ h0

theorem handleCrossing_ok (j : Boundary) (d : Direction) (h : OrdersOk s) : OrdersOk (handleCrossing j d s) := by
  have h3 : OrdersOk ((decksBeside s j).foldl (fun s d => abandonOn .motion d s)
      ((decksBeside s j).foldl crossOnDeck (crossOnMap j d s).1)) :=
    ((crossOnMap_ok j d h).foldl (fun s d hs => hs.same (applyMonitor_queue ..)) _).foldl
      (fun s d hs => hs.same (abandonOn_queue ..)) _
  unfold handleCrossing
  dsimp only
  refine OrdersOk.foldl (fun s d hs => hs.same (abortTestCapture_queue s d)) _ ?_
  split
  · exact reportCrossing_ok _ _ h3
  · exact h3

theorem handlePhaseError_ok (j : Boundary) (a b : BeamState) (h : OrdersOk s) :
    OrdersOk (handlePhaseError j a b s) := axleMoved_ok (h.same rfl)

theorem handleStuck_ok (j : Boundary) (b : Beam) (h : OrdersOk s) : OrdersOk (handleStuck j b s) := by
  unfold handleStuck
  dsimp only
  split
  · exact axleMoved_ok (h.same rfl)
  · exact h

theorem handleDecoded_ok (j : Boundary) (a b : BeamState) (x : Decoded) (h : OrdersOk s) :
    OrdersOk (handleDecoded j a b x s) := by
  cases x with
  | quiet => exact h
  | phaseError => exact handlePhaseError_ok j a b h
  | crossing d => exact handleCrossing_ok j d h

theorem takeTransition_ok (j : Boundary) (h : OrdersOk s) : OrdersOk (takeTransition j s) := by
  have hset : ∀ f, OrdersOk (s.setPair j f) := fun f => h.same (setPair_queue s j f)
  unfold takeTransition
  dsimp only
  split
  · exact recoverMap_ok ((hset _).same (noticeConditions_queue _))
  · split
    · exact hset _
    · exact recoverMap_ok ((handleDecoded_ok j _ _ _ (hset _)).same (noticeConditions_queue _))

theorem filterExpired_ok (j : Boundary) (h : OrdersOk s) : OrdersOk (filterExpired j s) := by
  unfold filterExpired
  split
  · exact takeTransition_ok j h
  · exact h

theorem rawChange_ok (j : Boundary) (raw : BeamState) (h : OrdersOk s) : OrdersOk (rawChange j raw s) := by
  have h1 : OrdersOk (setRaw j raw s) := h.same (setPair_queue ..)
  unfold rawChange
  split
  · exact h
  · dsimp only
    split
    · exact filterExpired_ok j h1
    · exact h1

theorem takeDue_ok (h : OrdersOk s) : OrdersOk (takeDue s) := by
  rw [takeDue_eq]
  refine h.foldl (fun s j hs => ?_) _
  unfold takeIfDue
  split
  · exact filterExpired_ok j hs
  · exact hs

theorem ownSetBeamFilter_ok (ms : Nat) (h : OrdersOk s) : OrdersOk (ownSetBeamFilter ms s).1 := by
  rw [ownSetBeamFilter, accept_fst]
  exact takeDue_ok (h.same (setAxle_queue ..))

/-! ### Sessions -/

theorem orderCapture_false (h : s.orderCapture = false) : s.order.engine = none := by
  simpa [State.orderCapture] using h

/-- A session opens with no capture in flight (R157). -/
theorem ownOpenSession_ok (h : OrdersOk s) : OrdersOk (ownOpenSession s).1 := by
  unfold ownOpenSession
  split
  · exact h
  · rename_i hr
    have he : s.order.engine = none := by
      refine orderCapture_false (Bool.eq_false_iff.mpr fun hc => ?_)
      simp [openRefusal, hc] at hr
    have h2 : OrdersOk ((s.setMetro fun m =>
        { m with session := some ⟨true, s.now, activityTime, none, []⟩, marker := true }).logDeliberate
          .sessionOpen) := by
      refine QueueOk.idle (h.queueOk.of_order rfl) ?_ ?_
      · exact he
      · exact h.not_capturing he
    have hm : ∀ s, (closeMap s).queue = s.queue := by
      intro s
      unfold closeMap
      split <;> rfl
    have ha : ∀ s, (abandonChecks s).queue = s.queue :=
      fun s => foldl_keeps (view := State.queue) (fun s d => abandonRun_queue s d) _ s
    refine h2.same ?_
    simp only [accept_fst, openSession, raise_queue, noticeConditions_queue, hm, ha]

theorem endSession_ok (c : SessionEndCause) (h : OrdersOk s) : OrdersOk (endSession c s) := by
  unfold endSession
  split
  · dsimp only
    have h1 : OrdersOk ((abandonOperation s).logProtective (.sessionEnd c)) :=
      h.same ((logProtective_queue ..).trans (abandonOperation_queue s))
    generalize (abandonOperation s).logProtective (.sessionEnd c) = s1 at h1
    have h3 : OrdersOk ((setSession (fun r => { r with isOpen := false }) s1).setMetro
        fun m => { m with marker := false }) := by
      refine h1.of_order rfl fun ho => ?_
      simp only [State.sessionOpen, State.setMetro_metro, setSession_keeps] at ho
      cases hr : s1.metro.session <;> rw [hr] at ho <;> cases ho
    exact (recoverMap_ok h3).same (raise_queue ..)
  · exact h

theorem ownCloseSession_ok (h : OrdersOk s) : OrdersOk (ownCloseSession s).1 := by
  unfold ownCloseSession
  split
  · exact endSession_ok .closed h
  · exact h

theorem ownSetLegal_ok (l : List LegalWrite) (h : OrdersOk s) : OrdersOk (ownSetLegal l s).1 := by
  unfold ownSetLegal
  split
  · exact h
  · exact h
  · split
    · exact h
    · dsimp only
      split
      · exact h
      · exact legalWrite_ok _ h

theorem resetPort_ok (p : Port) (c : ResetCause) (h : OrdersOk s) : OrdersOk (resetPort p c s) := by
  have h1 : OrdersOk (s.setPort p resetPortState) := h.same (setPort_queue ..)
  unfold resetPort
  dsimp only
  split
  · exact (endSession_ok .portReset h1).same (raise_queue ..)
  · exact h1.same (raise_queue ..)

theorem replyEnds_ok (p : Port) (h : OrdersOk s) : OrdersOk (replyEnds p s) := by
  have h1 : ∀ f, OrdersOk (s.setPort p f) := fun f => h.same (setPort_queue ..)
  have h2 : ∀ f g, OrdersOk ((s.setPort p f).setPort p g) := fun f g => (h1 f).same (setPort_queue ..)
  unfold replyEnds takeDeferred
  dsimp only
  split
  · split <;> split
    · exact resetPort_ok p .request (h2 finishReply applyRate)
    · exact resetPort_ok p .request (h1 finishReply)
    · exact h2 finishReply applyRate
    · exact h1 finishReply
  · exact h

/-! ### Requests to the order controller and the visit table -/

/-- A visit that is not in the queue (R62). -/
theorem inQueue_false {u : OrderUnit} {n : Nat} :
    inQueue u n = false ↔ n ∉ queueNumbers u := by
  cases h : u.active <;> simp [inQueue, queueNumbers, h, @eq_comm _ n]

/-- An order whose visit is not in the queue takes the active slot or the end of the list (R61). -/
theorem enqueue_ok {o : Order} (hn : inQueue s.order o.visit = false) (hl : s.order.staged.length < 2)
    (h : OrdersOk s) : OrdersOk (enqueue o s).1 := by
  have hn := inQueue_false.mp hn
  obtain ⟨-, hd, h0, h4⟩ := h.queueOk
  unfold enqueue
  split
  · rename_i ha
    have ha : s.order.active = none := by simpa using ha
    have he : s.order.engine = none := h.engine_none fun a hc => nomatch ha.symm.trans hc
    refine QueueOk.idle (s := activate o s) ⟨Nat.le_of_lt hl, ?_, nofun, h4⟩ he fun a hc => ?_
    · simp [activate, queueNumbers, h0 ha]
    · cases hc
      exact nofun
  · rename_i ha
    obtain ⟨-, -, -, hc, -⟩ := h
    refine ⟨?_, ?_, fun hc => absurd (by simpa using hc) ha, hc, h4⟩
    · simpa using hl
    · have hq : queueNumbers { s.order with staged := s.order.staged ++ [o] } =
          queueNumbers s.order ++ [o.visit] := by simp [queueNumbers]
      rw [State.setOrder_order, hq]
      exact List.nodup_append.mpr ⟨hd, List.nodup_singleton _, by
        rintro a ha b hb rfl
        exact hn (List.mem_singleton.mp hb ▸ ha)⟩

theorem ownStageOrder_ok (v : Nat) (k : Choice OrderKind) (st auto : Bool) (c : Option Nat) (h : OrdersOk s) :
    OrdersOk (ownStageOrder v k st auto c s).1 := by
  unfold ownStageOrder
  split
  · exact h
  · dsimp only
    split
    · exact h
    · rename_i hr
      unfold stageRefusal at hr
      split at hr
      · cases hr
      split at hr
      · cases hr
      split at hr
      · cases hr
      rename_i hl
      split at hr
      · cases hr
      rename_i hn
      exact enqueue_ok (by simpa using hn) (by omega) h

theorem abortCapture_engine (c : AbortCause) (h : OrdersOk s) : (abortCapture c s).order.engine = none := by
  unfold abortCapture
  split
  · rfl
  · rename_i hn
    cases he : s.order.engine with
    | none => rfl
    | some e =>
      obtain ⟨-, -, a, ha, -⟩ := h.of_engine he
      exact absurd ha (hn e a he)

theorem cancelActive_ok (h : OrdersOk s) : OrdersOk (cancelActive s) := by
  unfold cancelActive
  split
  · exact leaveActive_ok _ (abortCapture_ok .cancelled h).queueOk (abortCapture_engine _ h)
  · rename_i hc
    exact leaveActive_ok _ h.queueOk (orderCapture_false (by simpa using hc))

theorem cancelStaged_ok (o : Order) (h : OrdersOk s) : OrdersOk (cancelStaged o s) := by
  obtain ⟨h2, hn, h0, hc, h4⟩ := h
  refine ⟨(List.length_filter_le ..).trans h2, ?_, fun ha => ?_, hc, h4⟩
  · refine hn.sublist (List.Sublist.append_left ?_ _)
    exact (List.filter_sublist (l := s.order.staged)).map _
  · simp [cancelStaged, raiseLeft, h0 ha]

theorem ownCancelOrder_ok (v : Nat) (h : OrdersOk s) : OrdersOk (ownCancelOrder v s).1 := by
  unfold ownCancelOrder
  split
  · exact cancelActive_ok h
  · split
    · exact cancelStaged_ok _ h
    · exact h

theorem ownCapture_ok (h : OrdersOk s) : OrdersOk (ownCapture s).1 := by
  unfold ownCapture
  split
  · exact h
  · split
    · exact h
    · split
      · exact h
      · rename_i ht
        split
        · exact h
        · rename_i hf
          exact startCapture_ok h ht (firstFailing_closed hf)

theorem ownFinishSurvey_ok (h : OrdersOk s) : OrdersOk (ownFinishSurvey s).1 := by
  unfold ownFinishSurvey
  split
  · exact h
  · rename_i a ha
    split
    · exact h
    · rename_i hst
      have he : s.order.engine = none := h.engine_none fun b hb => by cases ha.symm.trans hb; exact hst
      split
      · exact leaveWithoutPass_ok (finishSurvey_ok h.queueOk he) ((finishSurvey_engine s).trans he)
      · exact h

theorem ownOpenVisit_ok (plate : Text) (k : Choice VisitKind) (c : Nat) (g : Byte) (grade : Text)
    (h : OrdersOk s) : OrdersOk (ownOpenVisit plate k c g grade s).1 := by
  have he : ∀ e, OrdersOk (evict e s) := by
    intro e
    cases e with
    | none => exact h
    | some n => exact reportGone_ok n (h.same (setVisit_queue ..))
  unfold ownOpenVisit
  dsimp only
  repeat' split
  all_goals first | exact h | exact (he _).same (setVisit_queue ..)

theorem ownAmendVisit_ok (n : Nat) (r : BitVec 16) (a : Amendment) (h : OrdersOk s) :
    OrdersOk (ownAmendVisit n r a s).1 := by
  unfold ownAmendVisit
  repeat' split
  all_goals first | exact h | exact reportAmended_ok n (h.same (setVisit_queue ..))

theorem ownVoidVisit_ok (n : Nat) (r : BitVec 16) (h : OrdersOk s) : OrdersOk (ownVoidVisit n r s).1 := by
  unfold ownVoidVisit
  repeat' split
  all_goals first | exact h | exact reportGone_ok n (h.same (setVisit_queue ..))

theorem ownRemoveVisit_ok (n : Nat) (h : OrdersOk s) : OrdersOk (ownRemoveVisit n s).1 := by
  unfold ownRemoveVisit
  repeat' split
  all_goals first | exact h | exact reportGone_ok n (h.same (setVisit_queue ..))

/-! ### The ends of a hold (R75) -/

/-- An order in HELD has no capture in flight. -/
theorem OrdersOk.held_idle {n : Nat} (h : OrdersOk s) (hh : heldOrderOf n s = true) : s.order.engine = none := by
  refine h.engine_none fun a ha hst => ?_
  simp [heldOrderOf, ha, hst] at hh

theorem orderReleased_ok (n k : Nat) (h : OrdersOk s) : OrdersOk (orderReleased n k s) := by
  unfold orderReleased
  split
  · rename_i hh
    exact completeActive_ok _ h.queueOk (h.held_idle hh)
  · exact h

theorem orderRejected_ok (n : Nat) (h : OrdersOk s) : OrdersOk (orderRejected n s) := by
  unfold orderRejected
  split
  · rename_i hh
    split
    · exact (setActiveState_ok (st := .waiting) nofun h.queueOk (h.held_idle hh)).same rfl
    · exact leaveActive_ok _ h.queueOk (h.held_idle hh)
  · exact h

theorem ownReleaseHold_ok (n : Nat) (h : OrdersOk s) : OrdersOk (ownReleaseHold n s).1 := by
  unfold ownReleaseHold
  split
  · exact h
  · split
    · exact h
    · exact (orderReleased_ok _ _ (h.same (releaseHeld_queue ..))).same (raise_queue ..)

theorem ownRejectHold_ok (n : Nat) (h : OrdersOk s) : OrdersOk (ownRejectHold n s).1 := by
  unfold ownRejectHold
  split
  · exact h
  · split
    · exact h
    · exact (orderRejected_ok n (h.same (setVisit_queue ..))).same (raise_queue ..)

/-! ### Taking and answering a request -/

theorem answer_queue (h : Header) (k : Byte) (r : Response) (s : State) : (answer h k r s).queue = s.queue := by
  unfold answer recordRefusal
  dsimp only
  split
  · split <;> rfl
  · rfl

theorem countRejection_queue (k : ReqKind) (s : State) : (countRejection k s).queue = s.queue := by
  unfold countRejection
  split <;> rfl

theorem routeRequest_ok {h : Header} {k : ReqKind} {owner : State → State × Response}
    (ho : ∀ s, OrdersOk s → OrdersOk (owner s).1) (hs : OrdersOk s) : OrdersOk (routeRequest h k owner s) := by
  unfold routeRequest
  split
  · exact hs.same ((answer_queue ..).trans (countRejection_queue ..))
  · split
    · exact hs.same (answer_queue ..)
    · exact (ho s hs).same (answer_queue ..)

theorem runCommand_ok {f : State → State} (hf : ∀ s, OrdersOk s → OrdersOk (f s)) (hs : OrdersOk s)
    (he : runCommand f s = .next t) : OrdersOk t := by
  rw [runCommand_next] at he
  cases he
  split
  · exact (hf s hs).same (drive_queue _)
  · exact hs

/-- An event that leaves the queue. -/
theorem runCommand_queue {f : State → State} (hs : OrdersOk s) (hf : ∀ s, (f s).queue = s.queue)
    (he : runCommand f s = .next t) : OrdersOk t :=
  runCommand_ok (fun s hs => hs.same (hf s)) hs he

theorem request_ok {h : Header} {k : ReqKind} {owner : State → State × Response}
    (ho : ∀ s, OrdersOk s → OrdersOk (owner s).1) (hs : OrdersOk s) (he : request h k owner s = .next t) :
    OrdersOk t := by
  refine runCommand_ok (fun s hs => ?_) hs he
  dsimp only
  split
  · exact routeRequest_ok ho (hs.same ((touchSession_queue ..).trans (setPort_queue ..)))
  · exact hs.same (setPort_queue ..)

/-- A request whose owner leaves the queue. -/
theorem request_queue {h : Header} {k : ReqKind} {owner : State → State × Response}
    (hs : OrdersOk s) (ho : ∀ s, (owner s).1.queue = s.queue) (he : request h k owner s = .next t) :
    OrdersOk t :=
  request_ok (fun s hs => hs.same (ho s)) hs he

theorem execUnknownRequest_ok (h : Header) (code : Byte) (hs : OrdersOk s)
    (he : execUnknownRequest h code s = .next t) : OrdersOk t := by
  refine runCommand_ok (fun s hs => ?_) hs he
  have h1 : ∀ s, OrdersOk s → OrdersOk (touchSession h.port s) := fun s hs => hs.same (touchSession_queue ..)
  dsimp only
  split
  · unfold answerUnknown
    split
    · exact (h1 _ (hs.same (setPort_queue ..))).same (answer_queue ..)
    · exact routeRequest_ok (fun s hs => hs) (h1 _ (hs.same (setPort_queue ..)))
  · exact hs.same (setPort_queue ..)

/-! ### The day, the restart, a millisecond -/

theorem execDayRollover_ok (hs : OrdersOk s) (h : execDayRollover s = .next t) : OrdersOk t := by
  unfold execDayRollover at h
  cases h
  split
  · refine OrdersOk.same ?_ (drive_queue _)
    split
    · exact (show OrdersOk (regainAll (rollClock s)) from hs.same rfl).same (dueTest_queue _)
    · exact hs.same rfl
  · split <;> exact hs.same rfl

/-- A restart empties the queue, the stops and the engine (R82). -/
theorem execRestart_ok (b : Bool) (r : RestartRun) (h : execRestart b r s = .next t) : OrdersOk t := by
  have he : ∀ {u : State}, u.order.active = none → u.order.staged = [] → u.order.engine = none →
      u.order.stops = [] → OrdersOk u := by
    intro u ha hs hn hp
    refine QueueOk.idle ⟨?_, ?_, fun _ => hs, ?_⟩ hn fun a hc => nomatch ha.symm.trans hc
    · simp [hs]
    · simp [queueNumbers, ha, hs]
    · simp [hp]
  rcases execRestart_cases b r s with ⟨-, e⟩ | ⟨x, -, e⟩ <;> rw [e] at h <;> cases h <;>
    exact (he rfl rfl rfl rfl).same (drive_queue _)

theorem tick_ok (hs : OrdersOk s) : OrdersOk (tick s) := by
  have h1 : (runTimes s).queue = s.queue := by
    have ho : (runTimes s).sessionOpen = s.sessionOpen := by
      simp only [runTimes, State.sessionOpen, State.setMetro_metro, State.setTicket_metro,
        State.setAxle_metro]
      cases s.metro.session with
      | none => rfl
      | some r => simp only [Option.map_some, tickSession]; split <;> rfl
    simp only [State.queue, ho]
    rfl
  unfold tick
  dsimp only
  split
  · exact (hs.same h1).same rfl
  · exact hs.same rfl

/-! ### Every command, every step -/

/-- Each command keeps the agreement: most leave the queue. -/
theorem exec_ok {i : Instr} (hs : OrdersOk s) (he : exec i s = .next t) : OrdersOk t := by
  cases i with
  | readEvents | readFault | readPort | readCells | readDecks | readAxles | readOrders | readClass
  | readGroups | readVisit | listVisits | readTares | readTicket | readPrinters | readWatch
  | readMetrology | readSession | readLog | readClock | setEventMask | clearFault | resetPort
  | setCapture | setAxleCheck | setTareRules =>
    refine request_queue hs ?_ he
    exact fun _ => rfl
  | clearEvents h l => exact request_queue hs (ownClearEvents_queue · h l) he
  | setPortRate h n c => exact request_queue hs (ownSetPortRate_queue · h n c) he
  | unknownRequest h c => exact execUnknownRequest_ok h c hs he
  | clearDeckHistory => exact request_queue hs (ownClearDeckHistory_queue · ..) he
  | zero => exact request_queue hs (ownZero_queue · ..) he
  | setBeamFilter => exact request_ok (fun _ => ownSetBeamFilter_ok _) hs he
  | stageOrder => exact request_ok (fun _ => ownStageOrder_ok _ _ _ _ _) hs he
  | cancelOrder => exact request_ok (fun _ => ownCancelOrder_ok _) hs he
  | capture => exact request_ok (fun _ => ownCapture_ok) hs he
  | finishSurvey => exact request_ok (fun _ => ownFinishSurvey_ok) hs he
  | setClass => exact request_queue hs (ownSetClass_queue · ..) he
  | deleteClass => exact request_queue hs (ownDeleteClass_queue · ..) he
  | openVisit => exact request_ok (fun _ => ownOpenVisit_ok _ _ _ _ _) hs he
  | amendVisit => exact request_ok (fun _ => ownAmendVisit_ok _ _ _) hs he
  | voidVisit => exact request_ok (fun _ => ownVoidVisit_ok _ _) hs he
  | removeVisit => exact request_ok (fun _ => ownRemoveVisit_ok _) hs he
  | storeTare => exact request_queue hs (ownStoreTare_queue · ..) he
  | deleteTare => exact request_queue hs (ownDeleteTare_queue · ..) he
  | reprint => exact request_queue hs (ownReprint_queue · ..) he
  | setPrinting => exact request_queue hs (ownSetPrinting_queue · ..) he
  | setWatch => exact request_queue hs (ownSetWatch_queue · ..) he
  | clearWatchFlags => exact request_queue hs (ownClearWatchFlags_queue · ..) he
  | releaseHold => exact request_ok (fun _ => ownReleaseHold_ok _) hs he
  | rejectHold => exact request_ok (fun _ => ownRejectHold_ok _) hs he
  | openSession => exact request_ok (fun _ => ownOpenSession_ok) hs he
  | closeSession => exact request_ok (fun _ => ownCloseSession_ok) hs he
  | setLegal | setCellFactor => exact request_ok (fun _ => ownSetLegal_ok _) hs he
  | testZero | testLoad | adjustZero | adjustSpan | recordShuntRef =>
    exact request_queue hs (ownOperation_queue · ..) he
  | certifyDeck => exact request_queue hs (ownCertifyDeck_queue · ..) he
  | setShuntMode => exact request_queue hs (ownSetShuntMode_queue · ..) he
  | releaseLog => exact request_queue hs (ownReleaseLog_queue · ..) he
  | setClock => exact request_queue hs (ownSetClock_queue · ..) he
  | frameDiscarded | byteGapTimeout | frameSyncReceived =>
    exact runCommand_queue hs (fun s => setPort_queue s _ _) he
  | replySent p => exact runCommand_ok (fun _ => replyEnds_ok p) hs he
  | lineBreak p => exact runCommand_ok (fun _ => resetPort_ok p .break_) hs he
  | deckSample d conv => exact runCommand_ok (fun _ => takeSample_ok false d conv) hs he
  | zeroDeadlineExpired | zeroTrackingMove | autoCaptureStart | captureWindowEnd | testCaptureEnd
  | adjustZeroEnd | adjustSpanEnd | shuntPhaseEnd =>
    exact runCommand_ok (fun _ => takeSampleIf_ok _ _ _ _) hs he
  | beamRawChange j raw =>
    cases he
    split
    · exact (rawChange_ok j raw hs).same (drive_queue _)
    · exact hs.same (setPair_queue ..)
  | filterTimeExpired j => exact runCommand_ok (fun _ => filterExpired_ok j) hs he
  | stuckBeam j b => exact runCommand_ok (fun _ => handleStuck_ok j b) hs he
  | printAnswer => exact runCommand_queue hs (printAnswered_queue · ..) he
  | printerAnswerTimeout => exact runCommand_queue hs (answerTimedOut_queue · ..) he
  | retryWaitExpired | offlineQueryDue => exact runCommand_queue hs (fun s => setTicket_queue s _) he
  | statusAnswer => exact runCommand_queue hs (statusAnswered_queue · ..) he
  | switchChange l => exact runCommand_queue hs (switchTaken_queue · l) he
  | sessionExpiry => exact runCommand_ok (fun _ => endSession_ok .expired) hs he
  | dayRollover => exact execDayRollover_ok hs he
  | resetAsserted b =>
    cases he
    exact (show OrdersOk { shuntsOff s with power := holdPower b s.power } from hs.same rfl).same (drive_queue _)
  | restart b r => exact execRestart_ok b r he

end

/-- Settles O59: each command keeps the queue and the engine in agreement, and so does a millisecond. -/
theorem stepKeepsOrders : Obligations.StepKeepsOrders := by
  intro s t hs h
  rcases step_cases h with ⟨-, rfl⟩ | ⟨c, rest, -, he⟩
  · exact tick_ok hs
  · exact exec_ok (s := s.withPending rest) (hs.same rfl) he

end Sys2Proof.Machine

/-!
The capture conditions: what they read, and their order (O18).
-/

namespace Sys2Proof.Machine

/-! ### What a test reads -/

/-- What the capture conditions read of a state for an order (R66). -/
def State.conditionView (s : State) (o : Order) :
    Bool × AxleMap × (Boundary → Option BeamState) × Nat × (DeckId → DeckMode × Bool × Bool × VStatus) ×
      SwitchLevel × Option (Nat × ClassEntry) :=
  (s.sessionOpen, s.axle.map, fun j => s.axle.pairs[j].decoder, deckCount s.legal,
    fun d => (s.decks[d].mode, s.decks[d].hold, s.decks[d].zeroSet, s.deckStatus d), s.metro.switch, orderClass s o)

theorem inUse_congr {s t : State} (h : deckCount t.legal = deckCount s.legal) : t.inUse = s.inUse := by
  have hu : deckInUse t.legal = deckInUse s.legal := by
    funext d
    simp only [deckInUse, h]
  simp only [State.inUse, decksInUse, hu]

/-! ### Each condition -/

/-- A capture condition of R66 as it applies to an order. -/
def conditionMet (s : State) (o : Order) : NotReady → Bool
  | .session => !s.sessionOpen
  | .mapInvalid => s.axle.map.valid
  | .notAllOn => !isWholeVehicle o.kind || allOn s
  | .axleCount => !isWholeVehicle o.kind ||
      !(orderClass s o).any fun c => c.2.axleCount ≠ s.axle.map.list.length
  | .deckFault => !s.inUse.any fun d => isFaultMode (s.deckMode d)
  | .zeroNotSet => !s.inUse.any fun d => !s.decks[d].zeroSet
  | .noise => !s.inUse.any fun d => s.deckMode d = .noise
  | .motion => decksStill s o.kind
  | .loadWithoutAxle => !s.inUse.any fun d => axlesOn s.axle.map d = 0 ∧ s.deckMode d ≠ .empty
  | .unverified => !isTrade o.kind ||
      !decide (s.metro.switch = .opened ∨ s.inUse.any fun d => s.deckStatus d = .unverified)
  | .notEmpty | .notLoaded => true

/-- The conditions in the order in which they are tested (R66). -/
def conditionOrder : List NotReady :=
  [.session, .mapInvalid, .notAllOn, .axleCount, .deckFault, .zeroNotSet, .noise, .motion, .loadWithoutAxle,
    .unverified]

/-- A chain of tests finds the first that fails. -/
theorem find?_cons_ite {α : Type} (p : α → Bool) (a : α) (l : List α) :
    (a :: l).find? p = if p a then some a else l.find? p := by
  cases h : p a <;> simp [h]

/-- The first capture condition that fails is the first in the test order that is not met. -/
theorem firstFailing_eq (s : State) (o : Order) :
    firstFailing s o = conditionOrder.find? fun c => !conditionMet s o c := by
  simp only [conditionOrder, find?_cons_ite, List.find?_nil, conditionMet, Bool.not_not, Bool.not_or,
    Bool.and_eq_true, decide_eq_true_eq]
  rfl

theorem firstFailing_none {s : State} {o : Order} :
    firstFailing s o = none ↔ ∀ c ∈ conditionOrder, conditionMet s o c = true := by
  rw [firstFailing_eq, List.find?_eq_none]
  simp only [Bool.not_eq_true', Bool.not_eq_false]

theorem firstFailing_some {s : State} {o : Order} {c : NotReady} :
    firstFailing s o = some c ↔ ∃ before after, conditionOrder = before ++ c :: after ∧
      (∀ x ∈ before, conditionMet s o x = true) ∧ ¬conditionMet s o c = true := by
  rw [firstFailing_eq, List.find?_eq_some_iff_append]
  simp only [Bool.not_eq_true', Bool.not_eq_true, Bool.not_not]
  constructor
  · rintro ⟨hc, as, bs, he, ha⟩
    exact ⟨as, bs, he, ha, hc⟩
  · rintro ⟨as, bs, he, ha, hc⟩
    exact ⟨hc, as, bs, he, ha⟩

/-- All decks in use have a property. -/
theorem mem_inUse {s : State} {d : DeckId} : d ∈ s.inUse ↔ d.val < deckCount s.legal := by
  simp [State.inUse, decksInUse, deckInUse]

theorem not_any_inUse {s : State} {p : DeckId → Bool} :
    (!s.inUse.any p) = true ↔ ∀ d : DeckId, d.val < deckCount s.legal → p d = false := by
  simp [mem_inUse]

theorem all_inUse {s : State} {p : DeckId → Bool} :
    s.inUse.all p = true ↔ ∀ d : DeckId, d.val < deckCount s.legal → p d = true := by
  simp [mem_inUse]

/-- Condition 3 (R66). -/
theorem allOn_iff {s : State} : allOn s = true ↔ s.axle.map.list ≠ [] ∧ s.axle.map.departed = 0 ∧
    ∀ j : Boundary, j.val = 0 ∨ j.val = deckCount s.legal → s.axle.pairs[j].decoder = some .clear := by
  have hb : deckCount s.legal < 5 := by unfold deckCount; split <;> omega
  simp only [allOn, pairClear, Bool.and_eq_true, Bool.not_eq_true', List.isEmpty_eq_false_iff, decide_eq_true_eq,
    and_assoc]
  refine and_congr_right fun _ => and_congr_right fun _ => ⟨?_, fun h => ⟨h 0 (.inl rfl), h ⟨_, hb⟩ (.inr rfl)⟩⟩
  rintro ⟨h0, hn⟩ j (hj | hj)
  · exact (show j = 0 from Fin.ext hj) ▸ h0
  · exact (show j = ⟨_, hb⟩ from Fin.ext hj) ▸ hn

/-- Condition 8 (R66). -/
theorem decksStill_iff {s : State} {k : OrderKind} : decksStill s k = true ↔
    ∀ d : DeckId, d.val < deckCount s.legal → (s.decks[d].mode = .empty ∨ s.decks[d].mode = .steady) ∧
      s.decks[d].hold = false ∧ (k = .axleSurvey → axlesOn s.axle.map d ≠ 0 → s.decks[d].mode = .steady) := by
  rw [decksStill, all_inUse]
  refine forall₂_congr fun d _ => ?_
  simp only [isSettled, Bool.and_eq_true, Bool.or_eq_true, Bool.not_eq_true', decide_eq_true_eq, and_assoc, or_assoc]
  refine and_congr_right fun _ => and_congr_right fun _ => ?_
  simp only [or_iff_not_imp_left, not_not]
  rfl

/-- A capture condition of R66, written out for an order. -/
def ConditionHolds (s : State) (o : Order) : NotReady → Prop
  | .session => s.sessionOpen = false
  | .mapInvalid => s.axle.map.valid = true
  | .notAllOn => o.kind ≠ .axleSurvey → s.axle.map.list ≠ [] ∧ s.axle.map.departed = 0 ∧
      ∀ j : Boundary, j.val = 0 ∨ j.val = deckCount s.legal → s.axle.pairs[j].decoder = some .clear
  | .axleCount => o.kind ≠ .axleSurvey → ∀ c e, orderClass s o = some (c, e) →
      e.axleCount = s.axle.map.list.length
  | .deckFault => ∀ d : DeckId, d.val < deckCount s.legal → s.decks[d].mode ≠ .noSignal ∧
      s.decks[d].mode ≠ .overload ∧ s.decks[d].mode ≠ .underload
  | .zeroNotSet => ∀ d : DeckId, d.val < deckCount s.legal → s.decks[d].zeroSet = true
  | .noise => ∀ d : DeckId, d.val < deckCount s.legal → s.decks[d].mode ≠ .noise
  | .motion => ∀ d : DeckId, d.val < deckCount s.legal →
      (s.decks[d].mode = .empty ∨ s.decks[d].mode = .steady) ∧ s.decks[d].hold = false ∧
        (o.kind = .axleSurvey → axlesOn s.axle.map d ≠ 0 → s.decks[d].mode = .steady)
  | .loadWithoutAxle => ∀ d : DeckId, d.val < deckCount s.legal → axlesOn s.axle.map d = 0 →
      s.decks[d].mode = .empty
  | .unverified => o.kind ≠ .check → s.metro.switch = .shut ∧
      ∀ d : DeckId, d.val < deckCount s.legal → s.deckStatus d ≠ .unverified
  | .notEmpty | .notLoaded => True

theorem switch_not_opened {l : SwitchLevel} : ¬l = .opened ↔ l = .shut := by
  cases l <;> simp

theorem conditionMet_iff (s : State) (o : Order) (c : NotReady) : conditionMet s o c = true ↔ ConditionHolds s o c := by
  cases c with
  | session => exact Bool.not_eq_true' _ ▸ Iff.rfl
  | mapInvalid => exact Iff.rfl
  | notAllOn =>
    simp only [conditionMet, ConditionHolds, ← allOn_iff, isWholeVehicle, Bool.or_eq_true, Bool.not_eq_true',
      decide_eq_false_iff_not]
    exact imp_iff_not_or.symm
  | axleCount =>
    simp only [conditionMet, ConditionHolds, isWholeVehicle, Bool.or_eq_true, Bool.not_eq_true',
      decide_eq_false_iff_not, ← imp_iff_not_or, Option.any_eq_false_iff_get]
    refine imp_congr_right fun _ => ?_
    cases orderClass s o with
    | none => simp
    | some x =>
      obtain ⟨c, e⟩ := x
      simp
  | deckFault =>
    simp only [conditionMet, ConditionHolds, not_any_inUse, isFaultMode, decide_eq_false_iff_not, not_or]
    rfl
  | zeroNotSet =>
    simp only [conditionMet, ConditionHolds, not_any_inUse, Bool.not_eq_false']
  | noise =>
    simp only [conditionMet, ConditionHolds, not_any_inUse, decide_eq_false_iff_not]
    rfl
  | motion => exact decksStill_iff
  | loadWithoutAxle =>
    simp only [conditionMet, ConditionHolds, not_any_inUse, decide_eq_false_iff_not, not_and, not_not]
    rfl
  | unverified =>
    simp only [conditionMet, ConditionHolds, isTrade, Bool.or_eq_true, Bool.not_eq_true',
      decide_eq_false_iff_not, ← imp_iff_not_or, not_or, switch_not_opened]
    refine imp_congr_right fun _ => and_congr_right fun _ => ?_
    rw [Bool.not_eq_true, ← Bool.not_eq_true', not_any_inUse]
    simp only [decide_eq_false_iff_not, ne_eq]
  | notEmpty => exact ⟨fun _ => trivial, fun _ => rfl⟩
  | notLoaded => exact ⟨fun _ => trivial, fun _ => rfl⟩

/-- Settles O18: the first condition in the test order that does not hold is the cause. -/
theorem captureConditionsInOrder : Obligations.CaptureConditionsInOrder := by
  intro s o used axles whole holds order
  have hmet : ∀ c, conditionMet s o c = true ↔ holds c := fun c =>
    (conditionMet_iff s o c).trans (by cases c <;> exact Iff.rfl)
  simp only [← hmet]
  exact ⟨firstFailing_none, fun c => firstFailing_some⟩

/-- States that the conditions read alike have the same cause. -/
theorem firstFailing_congr {s t : State} {o : Order} (h : t.conditionView o = s.conditionView o) :
    firstFailing t o = firstFailing s o := by
  simp only [State.conditionView, Prod.mk.injEq] at h
  obtain ⟨ho, ha, hp, hn, hd, hs, hc⟩ := h
  have hb : ∀ j : Boundary, t.axle.pairs[j].decoder = s.axle.pairs[j].decoder := congrFun hp
  have hm : ∀ d : DeckId, t.decks[d].mode = s.decks[d].mode := fun d => congrArg (·.1) (congrFun hd d)
  have hh : ∀ d : DeckId, t.decks[d].hold = s.decks[d].hold := fun d => congrArg (·.2.1) (congrFun hd d)
  have hz : ∀ d : DeckId, t.decks[d].zeroSet = s.decks[d].zeroSet := fun d => congrArg (·.2.2.1) (congrFun hd d)
  have hv : ∀ d : DeckId, t.deckStatus d = s.deckStatus d := fun d => congrArg (·.2.2.2) (congrFun hd d)
  have hmet : conditionMet t o = conditionMet s o := by
    funext c
    rw [Bool.eq_iff_iff, conditionMet_iff, conditionMet_iff]
    cases c <;> simp only [ConditionHolds, ho, ha, hb, hn, hs, hc, hm, hh, hz, hv]
  rw [firstFailing_eq, firstFailing_eq, hmet]

end Sys2Proof.Machine

/-!
Requests to the order controller, and the settings: READ_ORDERS, STAGE_ORDER, CANCEL_ORDER, CAPTURE, FINISH_SURVEY
and the requests that clamp their quantities.
-/

namespace Sys2Proof.Machine

/-! ### What a received request leaves of the conditions -/

section
variable (h : Header) (s : State)

@[simp] theorem received_sessionOpen : (s.received h).sessionOpen = s.sessionOpen :=
  (sessionOpen_of_side (touchSession_axles ..).1).trans rfl

@[simp] theorem received_switch : (s.received h).metro.switch = s.metro.switch := by
  simp only [State.received, touchSession]
  split <;> rfl

@[simp] theorem received_deckStatus (d : DeckId) : (s.received h).deckStatus d = s.deckStatus d := by
  simp only [State.received, touchSession]
  split <;> rfl

@[simp] theorem received_orderCapture : (s.received h).orderCapture = s.orderCapture := by
  simp only [State.orderCapture, received_order]

@[simp] theorem received_firstFailing (o : Order) : firstFailing (s.received h) o = firstFailing s o := by
  refine firstFailing_congr ?_
  simp only [State.conditionView, orderClass, received_sessionOpen, received_axle, received_legal, received_decks,
    received_deckStatus, received_switch, received_visit, received_check]

@[simp] theorem received_testedOrder : testedOrder (s.received h) = testedOrder s := by
  simp only [testedOrder, received_order]

end

/-! ### READ_ORDERS (R81) -/

theorem readOrders_permitted (p : Port) : ReqKind.readOrders.permitted p = true := by cases p <;> rfl

/-- The not-ready cause of an order in WAITING or SURVEYING. -/
theorem testedOrder_bind (s : State) : (testedOrder s).bind (firstFailing s) =
    match s.order.active with
    | some a => if a.state = .waiting ∨ a.state = .surveying then firstFailing s a.order else none
    | none => none := by
  unfold testedOrder
  cases s.order.active with
  | none => rfl
  | some a => dsimp only; split <;> rfl

/-- Settles O9: the reply is made of the state as it stands. -/
theorem readOrdersReturnsQueue : Obligations.ReadOrdersReturnsQueue := by
  intro h s ha
  refine read_accepted (ha.passes readOrders_permitted) ?_
  have hf : firstFailing (s.received h) = firstFailing s := funext (received_firstFailing h s)
  have hu : (s.received h).inUse = s.inUse := inUse_congr (by rw [received_legal])
  simp only [readOrdersReply, ordersPart, received_order, received_testedOrder, hf, testedOrder_bind, hu]
  rfl

/-! ### Settings (R80, R87, R116, R133, R164, R172) -/

section
variable {h : Header} {s : State}

theorem setCapture_accepted (hp : Passes h .setCapture s) (c a : Nat) : exec (.setCapture h c a) s =
    .next (((s.received h).setOrder fun u =>
      { u with window := max 25 (min 200 c), delay := min 500 a }).sent h 0x25#8 .accepted
        (.taken [max 25 (min 200 c), min 500 a])) := by
  have ha : clamp 0 500 a = min 500 a := by rw [clamp_eq 0 500 a (by omega)]; omega
  refine request_sent hp ?_ rfl
  simp only [ownSetCapture, ha, clamp_eq 25 200 c (by omega)]
  rfl

theorem setAxleCheck_accepted (hp : Passes h .setAxleCheck s) (a c : Nat) : exec (.setAxleCheck h a c) s =
    .next (((s.received h).setCheck fun k =>
      { k with axleTol := min 10 a, consTol := max 5 (min 50 c) }).sent h 0x2C#8 .accepted
        (.taken [min 10 a, max 5 (min 50 c)])) := by
  have ha : clamp 0 10 a = min 10 a := by rw [clamp_eq 0 10 a (by omega)]; omega
  refine request_sent hp ?_ rfl
  simp only [ownSetAxleCheck, ha, clamp_eq 5 50 c (by omega)]
  rfl

theorem setTareRules_accepted (hp : Passes h .setTareRules s) (v n : Nat) : exec (.setTareRules h v n) s =
    .next (((s.received h).setVisit fun u =>
      { u with
        validity := max 1 (min 365 v)
        initialUses := max 1 (min 255 n)
        made := u.made ++ [.rulesSet (max 1 (min 365 v)) (max 1 (min 255 n))] }).sent h 0x3B#8 .accepted
          (.taken [max 1 (min 365 v), max 1 (min 255 n)])) := by
  refine request_sent hp ?_ rfl
  simp only [ownSetTareRules, clamp_eq 1 365 v (by omega), clamp_eq 1 255 n (by omega)]
  rfl

theorem setPrinting_accepted (hp : Passes h .setPrinting s) (copy : Bool) (i l : Nat) :
    exec (.setPrinting h (some copy) i l) s = .next (((s.received h).setTicket fun u =>
      { u with copyOn := copy, interval := max 1 (min 10 i), limit := min 99 l }).sent h 0x43#8 .accepted
        (.printing copy (max 1 (min 10 i)) (min 99 l))) := by
  have hl : clamp 0 99 l = min 99 l := by rw [clamp_eq 0 99 l (by omega)]; omega
  refine request_sent hp ?_ rfl
  simp only [ownSetPrinting, hl, clamp_eq 1 10 i (by omega)]
  rfl

/-- A deck of the bridge by its number 1 to 4, in use or not (R164). -/
theorem find?_deck_succ (d : DeckId) : (List.finRange 4).find? (fun e => e.val + 1 = d.val + 1) = some d := by
  revert d
  decide

theorem find?_deck_outside {n : Nat} (hn : n = 0 ∨ 4 < n) :
    (List.finRange 4).find? (fun e : DeckId => e.val + 1 = n) = none := by
  refine List.find?_eq_none.mpr fun d _ => ?_
  simp only [decide_eq_true_eq]
  omega

theorem shuntModeOf_eq (m : ShuntModeName) (p : Nat) : shuntModeOf m p = match m with
    | .off => .off
    | .oneShot => .oneShot
    | .periodic => .periodic (max 1 (min 255 p)) := by
  cases m with
  | off => rfl
  | oneShot => rfl
  | periodic => simp only [shuntModeOf, clamp_eq 1 255 p (by omega)]

theorem setShuntMode_accepted (hp : Passes h .setShuntMode s) (d : DeckId) (m : ShuntModeName) (p : Nat) :
    exec (.setShuntMode h (d.val + 1) (some m) p) s = .next (((s.received h).setMetroDeck d fun k =>
      { k with shuntMode := shuntModeOf m p, entryCount := 0 }).sent h 0x5C#8 .accepted
        (.shuntMode (shuntModeOf m p))) := by
  refine request_sent hp ?_ rfl
  unfold ownSetShuntMode
  rw [find?_deck_succ]
  rfl

theorem setShuntMode_refused (hp : Passes h .setShuntMode s) {n p : Nat} {m : Choice ShuntModeName}
    (hn : n = 0 ∨ 4 < n ∨ m = none) : exec (.setShuntMode h n m p) s =
      .next ((s.received h).refusedWith h 0x5C#8 .badField .none) := by
  refine request_refused hp ?_ rfl
  unfold ownSetShuntMode
  rcases hn with hn | hn | rfl
  · rw [find?_deck_outside (.inl hn)]
    cases m <;> rfl
  · rw [find?_deck_outside (.inr hn)]
    cases m <;> rfl
  · rfl

/-! ### SET_PORT_RATE (R172) -/

theorem portNumbered_succ (p : Port) : portNumbered ((portNumber p).val + 1) = some p := by cases p <;> rfl

theorem portNumbered_outside {n : Nat} (hn : n = 0 ∨ 3 < n) : portNumbered n = none := by
  unfold portNumbered
  split <;> first | omega | rfl

theorem setPort_setPort (s : State) (p : Port) (f g : PortState → PortState) :
    (s.setPort p f).setPort p g = s.setPort p fun x => g (f x) := by
  simp only [State.setPort, upd_upd]

theorem rateTaken_eq (code : Nat) : clamp 0 3 code = min 3 code := by
  rw [clamp_eq 0 3 code (by omega)]
  omega

theorem setPortRate_own (hp : Passes h .setPortRate s) (code : Nat) :
    exec (.setPortRate h ((portNumber h.port).val + 1) code) s = .next (((s.received h).setPort h.port fun x =>
      { x with rate := min 3 code, rateDeferred := true }).sent h 0x08#8 .accepted (.taken [min 3 code])) := by
  refine request_sent hp ?_ rfl
  simp only [ownSetPortRate, portNumbered_succ, rateTaken_eq, if_true, setPort_setPort]
  rfl

theorem setPortRate_other (hp : Passes h .setPortRate s) {p : Port} (hn : p ≠ h.port) (code : Nat) :
    exec (.setPortRate h ((portNumber p).val + 1) code) s = .next (((s.received h).setPort p fun x =>
      applyRate { x with rate := min 3 code }).sent h 0x08#8 .accepted (.taken [min 3 code])) := by
  refine request_sent hp ?_ rfl
  simp only [ownSetPortRate, portNumbered_succ, rateTaken_eq, if_neg hn, setPort_setPort]
  rfl

theorem setPortRate_refused (hp : Passes h .setPortRate s) {n : Nat} (hn : n = 0 ∨ 3 < n) (code : Nat) :
    exec (.setPortRate h n code) s = .next ((s.received h).refusedWith h 0x08#8 .badField .none) := by
  refine request_refused hp ?_ rfl
  rw [ownSetPortRate, portNumbered_outside hn]
  rfl

end

/-- Settles O20: each quantity at its nearest limit, each unknown deck, mode or port refused. -/
theorem settingsAreClamped : Obligations.SettingsAreClamped := by
  refine ⟨⟨fun h c a s hp => setCapture_accepted hp c a, fun h a c s hp => setAxleCheck_accepted hp a c,
    fun h v n s hp => setTareRules_accepted hp v n, fun h copy i l s hp => setPrinting_accepted hp copy i l,
    fun h d m p s hp => ?shunt, fun h n p m s hp hn => setShuntMode_refused hp hn⟩,
    fun h n code s hp => ⟨?own, ?other, fun hn => setPortRate_refused hp hn code⟩⟩
  case shunt =>
    have hx := setShuntMode_accepted hp d m p
    rw [shuntModeOf_eq] at hx
    exact hx
  case own =>
    rintro p rfl rfl
    exact setPortRate_own hp code
  case other =>
    rintro p rfl hn
    rw [setPortRate_other hp hn]
    simp only [applyRate, satInc_eq_min]

end Sys2Proof.Machine

/-!
STAGE_ORDER and CANCEL_ORDER, promotion and stale orders (O16, O17).
-/

namespace Sys2Proof.Machine

/-! ### The tests of STAGE_ORDER (R62, R113) -/

section
variable {s : State} {o : Order}

theorem orderFieldsOk_iff : orderFieldsOk o = true ↔
    (o.storeTare = true → o.kind = .secondWeigh) ∧ (o.cls.isSome = true → o.visit = 0) ∧
      (o.visit = 0 → o.kind = .check) := by
  simp only [orderFieldsOk, Bool.and_eq_true, Bool.or_eq_true, Bool.not_eq_true', decide_eq_true_eq,
    ← Option.not_isSome, Bool.not_eq_true', and_assoc, ← imp_iff_not_or, ← Bool.not_eq_true, ne_eq]

theorem classMissing_false : (o.cls.any fun c => (classAt s.check c).isNone) = false ↔
    ∀ c, o.cls = some c → (classAt s.check c).isSome = true := by
  cases o.cls <;> simp

/-- A plate's valid tare (R113). -/
theorem validTare_isSome {u : VisitUnit} {today : Nat} {plate : Text} : (validTare u today plate).isSome = true ↔
    ∃ e, findTare u plate = some e ∧ 1 ≤ e.uses ∧ today - e.day ≤ u.validity := by
  have hv : ∀ e, tareValidity u today e = .valid ↔ 1 ≤ e.uses ∧ today - e.day ≤ u.validity := by
    intro e
    rw [tareValidity, tareAge]
    split
    · simp; omega
    · split
      · simp; omega
      · simp; omega
  unfold validTare
  cases findTare u plate with
  | none => simp
  | some e =>
    simp only [Option.some.injEq, exists_eq_left', ← hv]
    split <;> simp_all

/-- The second table of R62. -/
theorem suitsKind_iff {v : Visit} : suitsKind o v = true ↔ match o.kind with
    | .firstWeigh => v.state = .opened
    | .secondWeigh => v.state = .firstDone ∧ (o.storeTare = true → v.kind = .receival)
    | .storedTare => v.state = .opened ∧ v.kind = .receival
    | .axleSurvey => v.state = .opened ∨ v.state = .firstDone
    | .check => v.state ≠ .void := by
  unfold suitsKind
  split <;> simp_all [imp_iff_not_or]

/-- The rows before those that judge the visit. -/
theorem stageRefusal_eq (hf : orderFieldsOk o = true)
    (hc : ∀ c, o.cls = some c → (classAt s.check c).isSome = true) (hl : s.order.staged.length < 2)
    (hn : o.visit ∉ queueNumbers s.order) : stageRefusal s o = visitRefusal s o := by
  have hl' : ¬2 ≤ s.order.staged.length := by omega
  simp only [stageRefusal, hf, classMissing_false.mpr hc, hl', inQueue_false.mpr hn, Bool.not_true,
    Bool.false_eq_true, if_false]

theorem visitRefusal_some {v : Visit} (hn : o.visit ≠ 0) (hv : findVisit s.visit o.visit = some v) :
    visitRefusal s o =
      if v.held.isSome ∨ !suitsKind o v then some .wrongState
      else if o.kind = .storedTare ∧ (validTare s.visit s.clock.day v.plate).isNone then some .noValidTare
      else none := by
  simp only [visitRefusal, if_neg hn, hv]

@[simp] theorem received_stageRefusal (h : Header) (s : State) (o : Order) :
    stageRefusal (s.received h) o = stageRefusal s o := by
  simp only [stageRefusal, visitRefusal, received_order, received_check, received_visit, received_clock]

end

section
variable {h : Header} {s : State} {n : Nat} {k : OrderKind} {storeTare auto : Bool} {cls : Option Nat}

theorem stageOrder_refused (hp : Passes h .stageOrder s) {c : Status}
    (hr : stageRefusal s ⟨n, k, storeTare, auto, cls⟩ = some c) (hc : isRefusal c = true) :
    exec (.stageOrder h n (some k) storeTare auto cls) s =
      .next ((s.received h).refusedWith h 0x20#8 c .none) :=
  request_refused hp (by simp only [ownStageOrder, received_stageRefusal, hr]; rfl) hc

/-- An order that passes the tests takes its place (R61). -/
theorem stageOrder_placed (hp : Passes h .stageOrder s)
    (hr : stageRefusal s ⟨n, k, storeTare, auto, cls⟩ = none) :
    exec (.stageOrder h n (some k) storeTare auto cls) s = .next (match s.order.active with
      | none => ((s.received h).setOrder fun u =>
          { u with active := some ⟨⟨n, k, storeTare, auto, cls⟩, .waiting, 0, none⟩, condRun := 0 }).sent h 0x20#8
            .accepted (.placed 0)
      | some _ => ((s.received h).setOrder fun u =>
          { u with staged := u.staged ++ [⟨n, k, storeTare, auto, cls⟩] }).sent h 0x20#8 .accepted
            (.placed (s.order.staged.length + 1))) := by
  have ho : ownStageOrder n (some k) storeTare auto cls (s.received h) =
      accept (enqueue ⟨n, k, storeTare, auto, cls⟩ (s.received h)).1
        (.placed (enqueue ⟨n, k, storeTare, auto, cls⟩ (s.received h)).2) := by
    simp only [ownStageOrder, received_stageRefusal, hr]
  refine (request_sent hp ho rfl).trans ?_
  simp only [enqueue, received_order]
  cases s.order.active <;> rfl

end

/-- Settles O16: the tests one after another, then the place. -/
theorem stageOrderTests : Obligations.StageOrderTests := by
  intro h n k storeTare auto cls s hp visit suits tareValid fields named refused
  let o : Order := ⟨n, k, storeTare, auto, cls⟩
  have hrefused : ∀ c, stageRefusal s o = some c → isRefusal c = true → refused c :=
    fun c hr hc => stageOrder_refused hp hr hc
  have hfields : orderFieldsOk o = true ↔ fields := orderFieldsOk_iff
  have hnamed : (o.cls.any fun c => (classAt s.check c).isNone) = false ↔ named := classMissing_false
  have hsuits : ∀ v, suitsKind o v = true ↔ suits v := fun v => suitsKind_iff
  refine ⟨fun hf => hrefused .badField ?_ rfl, fun hf hc => hrefused .notFound ?_ rfl,
    fun hf hc hl => hrefused .full ?_ rfl, fun hf hc hl => ⟨fun hn => hrefused .duplicate ?_ rfl, fun hn => ?_⟩⟩
  · rw [← hfields, Bool.not_eq_true] at hf
    simp [stageRefusal, hf]
  · rw [← hnamed, Bool.not_eq_false] at hc
    simp [stageRefusal, hfields.mpr hf, hc]
  · simp [stageRefusal, hfields.mpr hf, hnamed.mpr hc, hl]
  · have hq : inQueue s.order o.visit = true := by
      rw [← Bool.not_eq_false, inQueue_false, not_not]
      exact hn
    simp [stageRefusal, hfields.mpr hf, hnamed.mpr hc, hq, Nat.not_le_of_lt hl]
  · have hv := stageRefusal_eq (hfields.mpr hf) hc hl hn
    refine ⟨fun h0 hnone => hrefused .notFound ?_ rfl, fun v h0 hsome => ⟨fun hw => hrefused .wrongState ?_ rfl,
      fun hh hs hk ht => hrefused .noValidTare ?_ rfl⟩, fun hok => stageOrder_placed hp ?_⟩
    · rw [hv, visitRefusal, if_neg h0, show findVisit s.visit o.visit = none from hnone]
    · rw [hv, visitRefusal_some h0 hsome, if_pos]
      simpa [← hsuits, Option.isSome_iff_ne_none] using hw
    · have htare : (validTare s.visit s.clock.day v.plate).isNone = true := by
        rw [← Option.not_isSome, Bool.not_eq_true', ← Bool.not_eq_true]
        exact fun hx => ht (validTare_isSome.mp hx)
      rw [hv, visitRefusal_some h0 hsome, if_neg (by simp [hh, (hsuits v).mpr hs]), if_pos ⟨hk, htare⟩]
    · rw [hv]
      by_cases h0 : n = 0
      · exact if_pos h0
      · obtain ⟨v, hsome, hh, hs, ht⟩ := hok.resolve_left h0
        rw [visitRefusal_some h0 hsome, if_neg (by simp [hh, (hsuits v).mpr hs]), if_neg]
        rintro ⟨hk, hx⟩
        rw [← Option.not_isSome, validTare_isSome.mpr (ht hk)] at hx
        cases hx

end Sys2Proof.Machine

/-!
CANCEL_ORDER, promotion and stale orders (O17).
-/

namespace Sys2Proof.Machine

/-! ### Promotion (R64) -/

section
variable {s : State} {o : Order}

/-- The examination of R64. -/
theorem passesExamination_iff : passesExamination s o = true ↔
    o.visit = 0 ∨ ∃ v, findVisit s.visit o.visit = some v ∧ v.held = none ∧ suitsKind o v = true := by
  unfold passesExamination
  split
  · simp_all
  · rename_i h0
    cases findVisit s.visit o.visit <;> simp [h0]

/-- The ORDER event of an order that leaves as stale (R64, R79). -/
def staleEvent (o : Order) : Cause := .orderLeft o.visit o.kind .stale

/-- Orders that fail the examination leave one after another. -/
theorem promoteFrom_stale {stale : List Order} (rest : List Order)
    (h : ∀ x ∈ stale, passesExamination s x = false) : promoteFrom (stale ++ rest) s =
      promoteFrom rest ((stale.map staleEvent).foldl State.raise s) := by
  induction stale generalizing s with
  | nil => rfl
  | cons o l ih =>
    have ho := h o (.head _)
    simp only [List.cons_append, promoteFrom, ho, Bool.false_eq_true, if_false, List.map_cons, List.foldl_cons]
    exact ih fun x hx => h x (.tail _ hx)

theorem raises_visit (cs : List Cause) (s : State) : (cs.foldl State.raise s).visit = s.visit :=
  foldl_keeps (view := State.visit) (f := State.raise) (fun _ _ => rfl) cs s

/-- The first order that passes becomes active in WAITING; those before it leave (R64). -/
theorem promote_first {stale rest : List Order} (hs : s.order.staged = stale ++ o :: rest)
    (hf : ∀ x ∈ stale, passesExamination s x = false) (ho : passesExamination s o = true) :
    promote s = ((stale.map staleEvent).foldl State.raise s).setOrder fun u =>
      { u with active := some ⟨o, .waiting, 0, none⟩, staged := rest, condRun := 0 } := by
  have ho' : passesExamination ((stale.map staleEvent).foldl State.raise s) o = true := by
    rw [← ho]
    simp only [passesExamination, raises_visit]
  rw [promote, hs, promoteFrom_stale _ hf, promoteFrom, if_pos ho']
  rfl

theorem promote_none (hf : ∀ x ∈ s.order.staged, passesExamination s x = false) :
    promote s = ((s.order.staged.map staleEvent).foldl State.raise s).setOrder fun u => { u with staged := [] } := by
  have h := promoteFrom_stale [] hf
  rw [List.append_nil] at h
  exact h

/-- The active order leaves, and promotion follows (R65). -/
theorem leaveActive_some {a : ActiveOrder} (r : OrderResult) (ha : s.order.active = some a) :
    leaveActive r s = promote (raiseLeft a.order r (s.setOrder fun u => { u with active := none, condRun := 0 })) := by
  simp only [leaveActive, ha]

end

/-! ### CANCEL_ORDER (R63) -/

section
variable {h : Header} {s : State} {n : Nat}

/-- The active order is named by its visit. -/
theorem cancelOrder_active (hp : Passes h .cancelOrder s) {a : ActiveOrder} (ha : s.order.active = some a)
    (hn : a.order.visit = n) : exec (.cancelOrder h n) s =
      .next ((cancelActive (s.received h)).sent h 0x21#8 .accepted .none) := by
  refine request_sent hp ?_ rfl
  rw [ownCancelOrder, received_order, ha, if_pos (by simpa using hn)]
  rfl

theorem cancelActive_idle {a : ActiveOrder} (ha : s.order.active = some a) (he : s.order.engine = none) :
    cancelActive s = promote ((s.setOrder fun u => { u with active := none, condRun := 0 }).raise
      (.orderLeft a.order.visit a.order.kind .cancelled)) := by
  rw [cancelActive, if_neg (by simp [State.orderCapture, he]), leaveActive_some _ ha]
  rfl

/-- A capture in flight is first aborted (R63, R71). -/
theorem cancelActive_capturing {a : ActiveOrder} {e : OrderCapture} (ha : s.order.active = some a)
    (he : s.order.engine = some e) : cancelActive s =
      promote (((s.setOrder fun u => { u with active := none, engine := none, condRun := 0 }).raise
        (.orderAborted a.order.visit a.order.kind .cancelled)).raise
          (.orderLeft a.order.visit a.order.kind .cancelled)) := by
  have hc : abortCapture .cancelled s = (s.setOrder fun u =>
      { u with engine := none, condRun := 0, active := some { a with state := e.fromState } }).raise
        (.orderAborted a.order.visit a.order.kind .cancelled) := by
    simp only [abortCapture, he, ha]
  rw [cancelActive, if_pos (by simp [State.orderCapture, he]), hc, leaveActive_some _ rfl]
  rfl

theorem cancelOrder_staged (hp : Passes h .cancelOrder s) {o : Order}
    (ha : ∀ a, s.order.active = some a → a.order.visit ≠ n)
    (ho : s.order.staged.find? (fun x => x.visit = n) = some o) : exec (.cancelOrder h n) s =
      .next ((((s.received h).setOrder fun u => { u with staged := u.staged.filter fun x => x.visit ≠ n }).raise
        (.orderLeft n o.kind .cancelled)).sent h 0x21#8 .accepted .none) := by
  have hv : o.visit = n := by simpa using List.find?_some ho
  have hna : (s.order.active.any fun a => a.order.visit = n) = false := by
    cases hc : s.order.active with
    | none => rfl
    | some a => simpa using ha a hc
  have hc : cancelStaged o (s.received h) = ((s.received h).setOrder fun u =>
      { u with staged := u.staged.filter fun x => x.visit ≠ n }).raise (.orderLeft n o.kind .cancelled) := by
    subst hv
    rfl
  refine request_sent hp ?_ rfl
  rw [ownCancelOrder, received_order, if_neg (by simp [hna]), ho]
  exact congrArg accept hc

theorem cancelOrder_notFound (hp : Passes h .cancelOrder s) (hn : n ∉ queueNumbers s.order) :
    exec (.cancelOrder h n) s = .next ((s.received h).refusedWith h 0x21#8 .notFound .none) := by
  have hq := inQueue_false.mpr hn
  simp only [inQueue, Bool.or_eq_false_iff] at hq
  obtain ⟨ha, hs⟩ := hq
  have hf : s.order.staged.find? (fun x => x.visit = n) = none := by
    simpa [List.find?_eq_none] using hs
  refine request_refused hp ?_ rfl
  rw [ownCancelOrder, received_order, if_neg (by simp [ha]), hf]
  rfl

end

/-- Settles O17: an order leaves from either slot, and the first staged order that passes follows it. -/
theorem ordersLeaveAndPromote : Obligations.OrdersLeaveAndPromote := by
  have hex : ∀ (s : State) (o : Order), passesExamination s o = false ↔ o.visit ≠ 0 ∧
      ¬∃ v, findVisit s.visit o.visit = some v ∧ v.held = none ∧ suitsKind o v = true := by
    intro s o
    rw [← Bool.not_eq_true, passesExamination_iff, not_or]
  refine ⟨fun h n s hp => ⟨fun a ha hn he => ?idle, fun a e ha hn he => ?capturing,
    fun o ha ho => cancelOrder_staged hp ha ho, cancelOrder_notFound hp⟩,
    fun s stale rest o hs hf ho => ?first, fun s hf => ?none⟩
  case idle =>
    rw [cancelOrder_active hp ha hn, cancelActive_idle (by rw [received_order, ha]) (by rw [received_order, he]), hn]
  case capturing =>
    rw [cancelOrder_active hp ha hn, cancelActive_capturing (by rw [received_order, ha]) (by rw [received_order, he]),
      hn]
  case first =>
    exact promote_first hs (fun x hx => (hex s x).mpr (hf x hx)) (passesExamination_iff.mpr ho)
  case none =>
    exact promote_none fun x hx => (hex s x).mpr (hf x hx)

end Sys2Proof.Machine

/-!
CAPTURE and FINISH_SURVEY (O19), with the completion of an order and the slip it queues.
-/

namespace Sys2Proof.Machine

/-! ### Jobs, slips and completion (R76, R126, R128) -/

/-- A job joins the spool; a READY line sends its head at once. -/
theorem pushJob_eq (j : Job) : pushJob j = fun l =>
    if l.state = .ready then
      { l with spool := l.spool ++ [j], state := .sending, answerLeft := some 1000 }
    else { l with spool := l.spool ++ [j] } := by
  funext l
  simp [pushJob, sendHead, answerTime]

theorem exitEnd_eq (dir : Option Direction) : exitEnd dir = if dir = some .forward then .b else .a := by
  rcases dir with - | d
  · rfl
  · cases d <;> rfl

section
variable {s : State} {a : ActiveOrder}

theorem queueSlip_room {e : BridgeEnd} (k : SlipKind) (content : List PrintField)
    (h : (lineOf s.ticket e).spool.length < 8) : queueSlip e k content s =
      s.setTicket (setLine e (pushJob ⟨.slip k, false, content⟩)) :=
  if_pos (decide_eq_true h)

theorem queueSlip_full {e : BridgeEnd} (k : SlipKind) (content : List PrintField)
    (h : 8 ≤ (lineOf s.ticket e).spool.length) : queueSlip e k content s = s.raise (.spoolFull e none) :=
  if_neg (by simpa [hasRoom] using h)

theorem setActiveState_some (st : OrderState) (ha : s.order.active = some a) :
    setActiveState st s = s.setOrder fun u => { u with active := some { a with state := st } } := by
  rw [setActiveState, State.setOrder, State.setOrder, ha]
  rfl

theorem completeActive_some (n : Option Nat) (ha : s.order.active = some a) :
    completeActive n s = (s.setOrder fun u => { u with active := some { a with state := .complete } }).raise
      (.orderComplete a.order.visit a.order.kind n) := by
  rw [completeActive, ha, ← setActiveState_some _ ha]

/-- The axle report of a survey. -/
def surveyReport (s : State) (a : ActiveOrder) (dir : Option Direction) (m : Marks) : List PrintField :=
  let s1 := s.setVisit (make (.surveyed a.order.visit (summaryOf s.check.table)))
  slipFields s1.check .axleReport (findVisit s1.visit a.order.visit) (summaryOf s.check.table).cls
    (summaryOf s.check.table) (summaryOf s.check.table).indication m s1.now s1.metro.cal (exitEnd dir)

/-- A survey completes: summary, report, COMPLETE (R76). -/
theorem finishSurvey_stop {dir : Option Direction} {m : Marks} (ha : s.order.active = some a)
    (hl : a.lastStop = some (dir, m)) : finishSurvey s =
      ((queueSlip (exitEnd dir) .axleReport (surveyReport s a dir m)
        (s.setVisit (make (.surveyed a.order.visit (summaryOf s.check.table))))).setOrder fun u =>
          { u with active := some { a with state := .complete } }).raise
            (.orderComplete a.order.visit a.order.kind none) := by
  have hq : (queueSlip (exitEnd dir) .axleReport (surveyReport s a dir m)
      (s.setVisit (make (.surveyed a.order.visit (summaryOf s.check.table))))).order.active = some a :=
    (congrArg OrderUnit.active (queueSlip_order ..)).trans ha
  rw [← completeActive_some none hq]
  simp only [finishSurvey, ha, hl, Option.getD_some]
  rfl

theorem leaveWithoutPass_inPass (hd : s.axle.map.direction ≠ none) : leaveWithoutPass s = s := if_neg hd

theorem finishSurvey_direction (s : State) : (finishSurvey s).axle.map.direction = s.axle.map.direction := by
  have h := (finishSurvey_axles s).1
  simp only [State.axleSide, Prod.mk.injEq] at h
  rw [h.1]

end

/-! ### CAPTURE (R68, R69) -/

section
variable {h : Header} {s : State}

theorem capture_busy (hp : Passes h .capture s) (hb : s.orderCapture = true ∨ s.testCapture = true) :
    exec (.capture h) s = .next ((s.received h).refusedWith h 0x22#8 .busy .none) := by
  refine request_refused hp ?_ rfl
  rw [ownCapture, received_orderCapture, received_testCapture, if_pos (by simpa using hb)]
  rfl

/-- With nothing in flight the active order is asked for. -/
theorem ownCapture_free (ho : s.orderCapture = false) (ht : s.testCapture = false) :
    ownCapture (s.received h) = match s.order.active with
      | none => refuse (s.received h) .notFound
      | some a =>
        match testedOrder s with
        | none => refuse (s.received h) .wrongState
        | some _ =>
          match firstFailing s a.order with
          | some c => refuse (s.received h) .notReady (.notReady c)
          | none => accept (startCapture (s.received h)) := by
  simp only [ownCapture, received_orderCapture, received_testCapture, ho, ht, received_order, received_testedOrder,
    received_firstFailing]
  rfl

theorem testedOrder_active {a : ActiveOrder} (ha : s.order.active = some a) : testedOrder s =
    if a.state = .waiting ∨ a.state = .surveying then some a.order else none := by
  simp only [testedOrder, ha]

theorem startCapture_active {a : ActiveOrder} (ha : s.order.active = some a) : startCapture s =
    s.setOrder fun u =>
      { u with
        engine := some ⟨s.order.window, s.axle.map.direction, a.state, vrep 4 0, vrep 4 0⟩
        active := some { a with state := .capturing } } := by
  simp only [startCapture, ha]
  rfl

/-! ### FINISH_SURVEY (R76) -/

theorem finishSurvey_accepted (hp : Passes h .finishSurvey s) {a : ActiveOrder} (ha : s.order.active = some a)
    (hk : a.order.kind = .axleSurvey) (hst : a.state = .surveying) (hd : s.axle.map.direction ≠ none) :
    exec (.finishSurvey h) s = .next ((finishSurvey (s.received h)).sent h 0x23#8 .accepted .none) := by
  have hl : leaveWithoutPass (finishSurvey (s.received h)) = finishSurvey (s.received h) :=
    leaveWithoutPass_inPass (by rwa [finishSurvey_direction, received_axle])
  refine request_sent hp ?_ rfl
  simp only [ownFinishSurvey, received_order, ha, hk, hst, hl]
  rfl

theorem finishSurvey_refused (hp : Passes h .finishSurvey s) {a : ActiveOrder} (ha : s.order.active = some a)
    (hst : a.state ≠ .capturing) (hk : ¬(a.order.kind = .axleSurvey ∧ a.state = .surveying)) :
    exec (.finishSurvey h) s = .next ((s.received h).refusedWith h 0x23#8 .wrongState .none) := by
  refine request_refused hp ?_ rfl
  simp only [ownFinishSurvey, received_order, ha, if_neg hst, if_neg hk]
  rfl

end

/-- Settles O19: the tests in their order, the capture that starts, the survey that completes. -/
theorem captureAndFinishSurvey : Obligations.CaptureAndFinishSurvey := by
  refine ⟨fun h s hp => ⟨capture_busy hp, fun ho ht => ⟨fun ha => ?notFound, fun a ha =>
      ⟨fun hw hs => ?wrongState, fun hst => ⟨fun c hf => ?notReady, fun hf => ?starts⟩⟩⟩⟩,
    fun h s hp => ⟨fun ha => ?noOrder, fun a ha => ⟨fun hst => ?busy, fun hst hk => finishSurvey_refused hp ha hst hk,
      fun dir marks hk hst hl hd => ?queued, fun dir marks hk hst hl hd => ?discarded⟩⟩⟩
  case notFound =>
    refine request_refused hp ?_ rfl
    rw [ownCapture_free ho ht, ha]
    rfl
  case wrongState =>
    refine request_refused hp ?_ rfl
    rw [ownCapture_free ho ht, testedOrder_active ha, if_neg (by simp [hw, hs]), ha]
    rfl
  case notReady =>
    refine request_refused hp ?_ rfl
    rw [ownCapture_free ho ht, testedOrder_active ha, if_pos hst, ha]
    simp only [hf]
    rfl
  case starts =>
    refine request_sent hp ?_ rfl
    rw [ownCapture_free ho ht, testedOrder_active ha, if_pos hst, ha]
    simp only [hf]
    rw [startCapture_active (by rw [received_order, ha]), received_order, received_axle]
    rfl
  case noOrder =>
    refine request_refused hp ?_ rfl
    simp only [ownFinishSurvey, received_order, ha]
    rfl
  case busy =>
    refine request_refused hp ?_ rfl
    simp only [ownFinishSurvey, received_order, ha, hst]
    rfl
  case queued =>
    intro e hroom
    refine ⟨surveyReport (s.received h) a dir marks, ?_⟩
    have hq := queueSlip_room (s := (s.received h).setVisit
      (make (.surveyed a.order.visit (summaryOf s.check.table)))) .axleReport
      (surveyReport (s.received h) a dir marks) (e := e) (by rwa [State.setVisit_ticket, received_ticket])
    rw [finishSurvey_accepted hp ha hk hst hd, finishSurvey_stop (by rw [received_order, ha]) hl, received_check,
      exitEnd_eq, hq, pushJob_eq, hk]
    rfl
  case discarded =>
    intro e hfull
    have hq := queueSlip_full (s := (s.received h).setVisit
      (make (.surveyed a.order.visit (summaryOf s.check.table)))) .axleReport
      (surveyReport (s.received h) a dir marks) (e := e) (by rwa [State.setVisit_ticket, received_ticket])
    rw [finishSurvey_accepted hp ha hk hst hd, finishSurvey_stop (by rw [received_order, ha]) hl, received_check,
      exitEnd_eq, hq, hk]
    rfl

end Sys2Proof.Machine

/-!
The condition run: notices, what the decks' part of a sample leaves of it, and the state in which deck 1's sample tests
the conditions (R67).
-/

namespace Sys2Proof.Machine

/-! ### Notices -/

/-- From `s` to `t` the order unit stands, but that a notice may have set the run of a tested order to 0. -/
def Noticed (s t : State) : Prop :=
  t.order = s.order ∨ ((testedOrder s).isSome = true ∧ t.order = { s.order with condRun := 0 })

theorem testedOrder_congr {s t : State} (h : t.order.active = s.order.active) : testedOrder t = testedOrder s := by
  simp only [testedOrder, h]

namespace Noticed
variable {s t u : State}

theorem refl (s : State) : Noticed s s := .inl rfl

theorem active (h : Noticed s t) : t.order.active = s.order.active := by
  rcases h with h | ⟨-, h⟩ <;> rw [h]

theorem trans (h : Noticed s t) (h' : Noticed t u) : Noticed s u := by
  have ht := testedOrder_congr h.active
  rcases h with h | ⟨hs, h⟩ <;> rcases h' with h' | ⟨hs', h'⟩ <;> rw [h] at h'
  · exact .inl h'
  · exact .inr ⟨ht ▸ hs', h'⟩
  · exact .inr ⟨hs, h'⟩
  · exact .inr ⟨hs, h'⟩

/-- Without a tested order nothing is noticed. -/
theorem order_eq (h : Noticed s t) (hs : testedOrder s = none) : t.order = s.order := by
  rcases h with h | ⟨ht, -⟩
  · exact h
  · rw [hs] at ht
    cases ht

theorem condRun_le (h : Noticed s t) : t.order.condRun ≤ s.order.condRun := by
  rcases h with h | ⟨-, h⟩ <;> rw [h]
  exact Nat.zero_le _

/-- Whatever the notice, the rest of the order unit stands. -/
theorem rest (h : Noticed s t) : { t.order with condRun := 0 } = { s.order with condRun := 0 } := by
  rcases h with h | ⟨-, h⟩ <;> rw [h]

theorem engine (h : Noticed s t) : t.order.engine = s.order.engine := by
  rcases h with h | ⟨-, h⟩ <;> rw [h]

theorem delay (h : Noticed s t) : t.order.delay = s.order.delay := by
  rcases h with h | ⟨-, h⟩ <;> rw [h]

theorem window (h : Noticed s t) : t.order.window = s.order.window := by
  rcases h with h | ⟨-, h⟩ <;> rw [h]

theorem crossingSince (h : Noticed s t) : t.order.crossingSince = s.order.crossingSince := by
  rcases h with h | ⟨-, h⟩ <;> rw [h]

theorem foldl {α : Type} {f : State → α → State} (h : ∀ s a, Noticed s (f s a)) (l : List α) (s : State) :
    Noticed s (l.foldl f s) := by
  induction l generalizing s with
  | nil => exact refl s
  | cons a l ih => exact (h s a).trans (ih _)

end Noticed

/-! ### What a notice does -/

section
variable (s : State)

theorem noticeConditions_noticed : Noticed s (noticeConditions s) := by
  unfold noticeConditions
  split
  · rename_i h
    exact .inr ⟨h.1, rfl⟩
  · exact .refl s

/-- With every condition met, or no order tested, a notice is without effect. -/
theorem noticeConditions_met (h : ∀ o, testedOrder s = some o → firstFailing s o = none) :
    noticeConditions s = s := by
  unfold noticeConditions
  rw [if_neg]
  rintro ⟨ht, hc⟩
  obtain ⟨o, ho⟩ := Option.isSome_iff_exists.mp ht
  rw [conditionsHold_iff.mpr ⟨o, ho, h o ho⟩] at hc
  cases hc

/-- A notice of a condition that fails sets the run to 0. -/
theorem noticeConditions_fails {o : Order} (ht : testedOrder s = some o) (h : firstFailing s o ≠ none) :
    noticeConditions s = s.setOrder fun u => { u with condRun := 0 } := by
  unfold noticeConditions
  rw [if_pos]
  refine ⟨by rw [ht]; rfl, ?_⟩
  rw [Bool.not_eq_true', ← Bool.not_eq_true, conditionsHold_iff]
  rintro ⟨x, hx, hf⟩
  cases ht.symm.trans hx
  exact h hf

/-! ### The decks' part of a sample -/

theorem changeStatus_order (p : Bool) (d : DeckId) (v : VStatus) (c : StatusCause) :
    (changeStatus p d v c s).order = s.order := by
  rcases changeStatus_cases p d v c s with ⟨-, h⟩ | ⟨-, m, h, -⟩ <;> rw [h]
  rfl

theorem reportDowngrade_noticed (c : StatusCause) (d : DeckId) : Noticed s (reportDowngrade c d s) :=
  Noticed.trans (.inl (changeStatus_order s true d _ c)) (noticeConditions_noticed _)

theorem frontEndStep_noticed (d : DeckId) (conv : Conversion) : Noticed s (frontEndStep d conv s) := by
  rw [frontEndStep_eq]
  split
  · exact reportDowngrade_noticed (s.setFront d _) _ d
  · exact .inl rfl

theorem handleNote_noticed (d : DeckId) (n : DeckNote) : Noticed s (handleNote d s n) := by
  by_cases h : n = .zero .zeroLimit
  · subst h
    exact reportDowngrade_noticed (s.raise _) _ d
  · rcases handleNote_cases s d n h with e | ⟨c, -, e⟩ <;> rw [e] <;> exact .inl rfl

theorem applyMonitor_noticed (d : DeckId) (x : Monitor) : Noticed s (applyMonitor d x s) :=
  Noticed.trans (t := (s.setDeck d fun _ => x.deck).setMetroDeck d (countEntries (emptyEntries x.notes))) (.inl rfl)
    (.foldl (fun s n => handleNote_noticed s d n) _ _)

theorem abandonRun_noticed (d : DeckId) : Noticed s (abandonRun d s) := by
  unfold abandonRun
  split
  · exact .refl s
  · exact Noticed.trans (.inl rfl) (applyMonitor_noticed _ d _)

theorem abandonOn_noticed (c : AbortCause) (d : DeckId) : Noticed s (abandonOn c d s) := by
  have ha : ∀ s : State, Noticed s (abortOperation c s) := by
    intro s
    unfold abortOperation
    split <;> exact .inl rfl
  unfold abandonOn
  split
  · exact .refl s
  · split
    · exact (abandonRun_noticed s d).trans (ha _)
    · exact abandonRun_noticed s d

theorem sampleHead_noticed (d : DeckId) (conv : Conversion) : Noticed s (sampleHead d conv s) := by
  unfold sampleHead abandonOnError
  split
  · exact (frontEndStep_noticed s d conv).trans (abandonOn_noticed _ _ d)
  · exact frontEndStep_noticed s d conv

theorem afterMonitor_noticed (d : DeckId) (conv : Conversion) : Noticed s (afterMonitor d conv s) :=
  (sampleHead_noticed s d conv).trans (applyMonitor_noticed _ d _)

end

/-! ### The captures' W -/

/-- The W that the monitor hands on is that of the deck as it stood (R19). -/
theorem sampleGross_eq (d : DeckId) (conv : Conversion) (s : State) :
    sampleGross (recordOf s.legal d s.front[d] conv) (sampleHead d conv s).decks[d] = sampleW d conv s := by
  cases hr : recordOf s.legal d s.front[d] conv with
  | invalid =>
    simp only [sampleW, hr, sampleGross]
    cases (sampleHead d conv s).decks[d].hold <;> rfl
  | shunted =>
    simp only [sampleW, hr, sampleGross]
    cases (sampleHead d conv s).decks[d].hold <;> rfl
  | valid g =>
    rw [sampleHead_notInvalid (by rw [hr]; nofun)]
    simp only [sampleW, hr, sampleGross, State.setFront_decks]
    cases s.decks[d].hold <;> rfl

section
variable {d : DeckId} {conv : Conversion} {s : State}

theorem sampled_tail : sampled d conv s = (sampleTail false d conv.raw (sampleW d conv s)
    ((sampleMonitor d conv s).notes.contains (.entered .empty)) (afterMonitor d conv s)).drive := by
  rw [sampled, sampleWhole_fst, sampleGross_eq]

/-- A change that leaves the order unit. -/
theorem setOrder_self {f : OrderUnit → OrderUnit} (h : f s.order = s.order) : s.setOrder f = s := by
  rw [State.setOrder, h]

theorem captureSample_none (w : Int) (h : s.order.engine = none) : captureSample d w s = s := by
  refine setOrder_self ?_
  rw [h, Option.map_none, ← h]

theorem testSample_order (w : Int) (raw : Vector Int 4) : (testSample d w raw s).order = s.order := by
  unfold testSample
  split <;> rfl

theorem testSample_none (w : Int) (raw : Vector Int 4) (h : s.operation = none) : testSample d w raw s = s :=
  if_neg (by simp [testCaptureOn_away (d := d) fun o ho => nomatch h.symm.trans ho])

/-- With nothing in flight a sample's W goes nowhere. -/
theorem takeGross_idle (raw : Vector Int 4) (w : Option Int) (he : s.order.engine = none)
    (ho : s.operation = none) : takeGross d raw w s = s := by
  cases w with
  | none => rfl
  | some w => rw [takeGross, captureSample_none w he, testSample_none w raw ho]

/-- With no capture in flight it leaves the orders. -/
theorem takeGross_order (raw : Vector Int 4) (w : Option Int) (he : s.order.engine = none) :
    (takeGross d raw w s).order = s.order := by
  cases w with
  | none => rfl
  | some w => rw [takeGross, captureSample_none w he, testSample_order]

/-! ### The test of the conditions on deck 1's sample -/

/-- The state in which deck 1's sample tests the conditions. -/
def testState (conv : Conversion) (s : State) : State :=
  noticeConditions (captureStep false 0 (takeGross 0 conv.raw (sampleW 0 conv s) (afterMonitor 0 conv s)))

/-- AUTO_CAPTURE_START is the sample on which the test starts a capture. -/
theorem exec_autoCaptureStart (hp : s.power = .running) : exec (.autoCaptureStart conv) s =
    .next (if (testOnSample (testState conv s)).2 = true then sampled 0 conv s else s.drive) := by
  have hd : (0 : DeckId).val < deckCount s.legal := (deckCount_bounds s.legal).1
  have hu : deckInUse s.legal 0 = true := by simpa [deckInUse] using hd
  have hn : (sampleWhole false 0 conv s).2.autoStart = (testOnSample (testState conv s)).2 := by
    rw [testState, ← sampleGross_eq]
    rfl
  show runCommand (takeSampleIf false (·.autoStart) 0 conv) s = _
  rw [runCommand_running hp, takeSampleIf, if_pos hu]
  simp only [hn]
  split <;> rfl

/-- The active order is one that the test captures (R67). -/
structure Starts (s : State) (a : ActiveOrder) : Prop where
  active : s.order.active = some a
  auto : a.order.auto = true
  free : s.order.engine = none
  conditions : firstFailing s a.order = none
  run : s.order.delay ≤ min 500 (s.order.condRun + 1)
  state : a.state = .waiting ∨ (a.state = .surveying ∧ s.order.crossingSince = true)

theorem countTest_conditions (s : State) (o : Order) : firstFailing (countTest s) o = firstFailing s o :=
  firstFailing_congr rfl

/-- A test counts, or sets the run to 0. -/
theorem countTest_run {o : Order} (ht : testedOrder s = some o) : (countTest s).order.condRun =
    if firstFailing s o = none then min 500 (s.order.condRun + 1) else 0 := by
  have hc : (conditionsHold s = true) ↔ firstFailing s o = none := by
    rw [conditionsHold_iff]
    exact ⟨fun ⟨x, hx, hf⟩ => by cases ht.symm.trans hx; exact hf, fun hf => ⟨o, ht, hf⟩⟩
  simp only [countTest, State.setOrder_order, runLimit, satInc_eq_min, hc]

theorem testOnSample_starts : (testOnSample s).2 = true ↔ ∃ a, Starts s a := by
  constructor
  · intro h
    unfold testOnSample at h
    split at h
    · dsimp only at h
      split at h
      · rename_i ht hd
        obtain ⟨o, ho⟩ := Option.isSome_iff_exists.mp ht
        obtain ⟨a, ha, rfl, -⟩ := testedOrder_some ho
        have hr := countTest_run ho
        obtain ⟨x, hx, hf⟩ := conditionsHold_iff.mp (autoCaptureDue_holds hd)
        cases (testedOrder_congr (t := countTest s) (s := s) rfl ▸ hx).symm.trans ho
        rw [countTest_conditions] at hf
        rw [if_pos hf] at hr
        have ha' : (countTest s).order.active = some a := ha
        simp only [autoCaptureDue, ha', Bool.and_eq_true, Bool.or_eq_true, decide_eq_true_eq, hr,
          Option.isNone_iff_eq_none] at hd
        obtain ⟨⟨⟨⟨hauto, hfree⟩, -⟩, hrun⟩, hst⟩ := hd
        exact ⟨a, ha, hauto, hfree, hf, hrun, hst⟩
      · cases h
    · cases h
  · rintro ⟨a, ha, hauto, hfree, hf, hrun, hst⟩
    have ht : testedOrder s = some a.order := by
      rw [testedOrder_active ha, if_pos (hst.imp_right And.left)]
    have hd : autoCaptureDue (countTest s) = true := by
      have ha' : (countTest s).order.active = some a := ha
      have hr := countTest_run ht
      rw [if_pos hf] at hr
      have hc : conditionsHold (countTest s) = true :=
        conditionsHold_iff.mpr ⟨a.order, (testedOrder_congr rfl).trans ht, (countTest_conditions s _).trans hf⟩
      simp only [autoCaptureDue, ha', hc, hr, Bool.and_eq_true, Bool.or_eq_true, decide_eq_true_eq,
        Option.isNone_iff_eq_none]
      exact ⟨⟨⟨⟨hauto, hfree⟩, trivial⟩, hrun⟩, hst⟩
    simp only [testOnSample, ht, Option.isSome_some, if_true, hd]

theorem Starts.tested {a : ActiveOrder} (h : Starts s a) : testedOrder s = some a.order := by
  rw [testedOrder_active h.active, if_pos (h.state.imp_right And.left)]

/-- The capture that the test starts. -/
theorem Starts.testOnSample {a : ActiveOrder} (h : Starts s a) : (Machine.testOnSample s).1 = s.setOrder fun u =>
    { u with
      engine := some ⟨s.order.window, s.axle.map.direction, a.state, vrep 4 0, vrep 4 0⟩
      active := some { a with state := .capturing }
      condRun := min 500 (s.order.condRun + 1) } := by
  have hs : (Machine.testOnSample s).2 = true := testOnSample_starts.mpr ⟨a, h⟩
  have hr := countTest_run h.tested
  rw [if_pos h.conditions] at hr
  have hc : (Machine.testOnSample s).1 = startCapture (countTest s) := by
    unfold Machine.testOnSample at hs ⊢
    rw [h.tested] at hs ⊢
    simp only [Option.isSome_some, if_true] at hs ⊢
    split <;> simp_all
  rw [hc, startCapture_active (show (countTest s).order.active = some a from h.active)]
  simp only [State.setOrder, countTest] at hr ⊢
  rw [hr]

theorem testOnSample_counts {o : Order} (ht : testedOrder s = some o) (h : ¬∃ a, Starts s a) :
    (testOnSample s).1 = countTest s := by
  rw [← testOnSample_starts] at h
  unfold testOnSample at h ⊢
  rw [ht] at h ⊢
  simp only [Option.isSome_some, if_true] at h ⊢
  split <;> simp_all

theorem testOnSample_none (ht : testedOrder s = none) : testOnSample s = (s, false) := by
  simp [testOnSample, ht]

end
end Sys2Proof.Machine

/-!
Samples with nothing in flight: the state in which the conditions are tested, a deck that its sample leaves at rest, and
the tests that start no capture (R67).
-/

namespace Sys2Proof.Machine

/-! ### Nothing in flight -/

section
variable {d : DeckId} {conv : Conversion} {s : State}

theorem abandonOn_operation (c : AbortCause) (h : s.operation = none) : (abandonOn c d s).operation = none := by
  have hr : ∀ s : State, (abandonRun d s).operation = s.operation := by
    intro s
    unfold abandonRun
    split
    · rfl
    · exact (RestStands.applyMonitor d _ _).operation
  unfold abandonOn
  split
  · exact h
  · split
    · rw [abortOperation, (hr s).trans h]
      exact (hr s).trans h
    · exact (hr s).trans h

theorem afterMonitor_operation (h : s.operation = none) : (afterMonitor d conv s).operation = none := by
  rw [afterMonitor, (RestStands.applyMonitor d _ _).operation]
  have hf : (frontEndStep d conv s).operation = none := (RestStands.frontEndStep d s conv).operation.trans h
  unfold sampleHead abandonOnError
  split
  · exact abandonOn_operation _ hf
  · exact hf

theorem afterMonitor_run (h : s.metro.decks[d].run = none) : (afterMonitor d conv s).metro.decks[d].run = none := by
  rw [afterMonitor, (applyMonitor_flight d _ _).2, sampleHead_noRun h, (frontEndStep_flight d s conv).2, h]

/-- With nothing in flight deck 1's sample tests the conditions as its monitor leaves them. -/
theorem testState_idle (he : s.order.engine = none) (ho : s.operation = none) :
    testState conv s = noticeConditions (afterMonitor 0 conv s) := by
  have hc := (afterMonitor_noticed s 0 conv).engine.trans he
  rw [testState, takeGross_idle _ _ hc (afterMonitor_operation ho), captureStep_none hc]

/-- Of a sample with nothing in flight only the tests, the scheduler and the map's recovery follow the monitor. -/
theorem sampled_idle (he : s.order.engine = none) (ho : s.operation = none) (hr : s.metro.decks[d].run = none) :
    sampled d conv s = (noticeConditions (recoverMap (schedule
      ((sampleMonitor d conv s).notes.contains (.entered .empty)) d
        (orderStep false d (afterMonitor d conv s))))).drive := by
  have hc := (afterMonitor_noticed s d conv).engine.trans he
  have ho1 : (orderStep false d (afterMonitor d conv s)).operation = none :=
    (orderStep_none hc false).operation.trans (afterMonitor_operation ho)
  have hr1 : (orderStep false d (afterMonitor d conv s)).metro.decks[d].run = none := by
    simpa using afterMonitor_run hr
  rw [sampled_tail, sampleTail, takeGross_idle _ _ hc (afterMonitor_operation ho), testCaptureStep_none ho1,
    shuntSample_none _ hr1]

theorem orderStep_idle_first (he : s.order.engine = none) :
    orderStep false 0 s = (testOnSample (noticeConditions s)).1 := by
  rw [orderStep, captureStep_none he]
  exact if_pos rfl

theorem orderStep_idle_other (he : s.order.engine = none) (hd : d ≠ 0) :
    orderStep false d s = noticeConditions s := by
  rw [orderStep, captureStep_none he]
  exact if_neg hd

/-! ### A deck at rest -/

namespace LeavesAtRest
variable {g : Int} (h : LeavesAtRest d conv g s)
include h

theorem notInvalid : recordOf s.legal d s.front[d] conv ≠ .invalid := by
  rw [h.record]
  nofun

/-- The monitor notes nothing, and leaves what the conditions read of its deck. -/
theorem monitor : (sampleMonitor d conv s).notes = [] ∧
    (sampleMonitor d conv s).deck.mode = s.decks[d].mode ∧ (sampleMonitor d conv s).deck.hold = s.decks[d].hold ∧
      (sampleMonitor d conv s).deck.zeroSet = s.decks[d].zeroSet := by
  obtain ⟨ref, hr, hin⟩ := h.within
  have hw := (recordOf_not_invalid h.notInvalid).2.window
  have ho : ¬Overloads s.legal d (g - s.decks[d].zeroOffset) s.decks[d] := by
    rintro ⟨hov, -⟩
    have := h.notOver
    omega
  have hu : ¬Underloads s.legal (g - s.decks[d].zeroOffset) s.decks[d] := by
    rintro ⟨hun, -⟩
    have := h.notUnder
    omega
  obtain ⟨n, hn⟩ := sampleMonitor_noZero h.record h.unheld h.zeroTried h.noZeroPending h.noMoveDue
  have hb : ¬Leaves s.legal g ref := not_lt.mpr hin
  rw [hn, classified_band (by omega) h.settled ho hu, bandTest_eq hr, if_neg hb]
  exact ⟨rfl, rfl, rfl, rfl⟩

theorem afterMonitor_eq : afterMonitor d conv s =
    ((s.setFront d (convertDeck s.legal d conv)).setDeck d fun _ => (sampleMonitor d conv s).deck).setMetroDeck d
      (countEntries 0) := by
  rw [afterMonitor, applyMonitor, h.monitor.1, sampleHead_notInvalid h.notInvalid]
  rfl

theorem afterMonitor_order : (afterMonitor d conv s).order = s.order := by
  rw [h.afterMonitor_eq]
  rfl

theorem afterMonitor_conditionView (o : Order) :
    (afterMonitor d conv s).conditionView o = s.conditionView o := by
  obtain ⟨hn, hmode, hhold, hzero⟩ := h.monitor
  have hs : (afterMonitor d conv s).deckStatus = s.deckStatus := by
    rw [afterMonitor, (applyMonitor_quiet _ _ _ (by rw [hn]; nofun)).2.1, sampleHead_notInvalid h.notInvalid]
    rfl
  have hd : ∀ b : DeckId, ((afterMonitor d conv s).decks[b].mode, (afterMonitor d conv s).decks[b].hold,
      (afterMonitor d conv s).decks[b].zeroSet) = (s.decks[b].mode, s.decks[b].hold, s.decks[b].zeroSet) := by
    intro b
    rw [h.afterMonitor_eq]
    by_cases hb : b = d
    · subst hb
      simp [hmode, hhold, hzero]
    · simp [Fin.val_ne_of_ne (Ne.symm hb)]
  simp only [Prod.mk.injEq] at hd
  simp only [State.conditionView, hs, hd]
  rw [h.afterMonitor_eq]
  rfl

theorem afterMonitor_firstFailing (o : Order) : firstFailing (afterMonitor d conv s) o = firstFailing s o :=
  firstFailing_congr (h.afterMonitor_conditionView o)

theorem not_entered : (sampleMonitor d conv s).notes.contains (.entered .empty) = false := by
  rw [h.monitor.1]
  rfl

/-- With nothing in flight either, the scheduler has no part. -/
theorem sampled_eq (he : s.order.engine = none) (ho : s.operation = none) (hr : s.metro.decks[d].run = none) :
    sampled d conv s = (noticeConditions (recoverMap (orderStep false d (afterMonitor d conv s)))).drive := by
  rw [sampled_idle he ho hr, h.not_entered]
  rfl

end LeavesAtRest

/-! ### Settled runs -/

/-- What a sample that takes a capture out of flight leaves to auto-capture: a run of 0, or an order that the test does
not capture. -/
def Rested (s : State) : Prop :=
  s.order.engine ≠ none ∨ s.order.condRun = 0 ∨ ∀ a, s.order.active = some a →
    a.state ≠ .waiting ∧ (a.state ≠ .surveying ∨ s.order.crossingSince = false)

theorem Rested.not_starts (h : Rested s) (hd : 1 < s.order.delay) : ¬∃ a, Starts s a := by
  rintro ⟨a, ha, -, hfree, -, hrun, hst⟩
  rcases h with h | h | h
  · exact h hfree
  · omega
  · obtain ⟨hw, hs⟩ := h a ha
    rcases hst with hst | ⟨hst, hc⟩
    · exact hw hst
    · rcases hs with hs | hs
      · exact hs hst
      · rw [hs] at hc
        cases hc

theorem Rested.noticed {t : State} (h : Rested s) (hn : Noticed s t) : Rested t := by
  unfold Rested at h ⊢
  rw [hn.engine, hn.active, hn.crossingSince]
  have := hn.condRun_le
  exact h.imp_right (Or.imp_left fun h0 => by omega)

end

section
variable {s : State} {a : ActiveOrder}

theorem promoteFrom_run (l : List Order) (h : s.order.condRun = 0) : (promoteFrom l s).order.condRun = 0 := by
  induction l generalizing s with
  | nil => exact h
  | cons o l ih =>
    unfold promoteFrom
    split
    · rfl
    · exact ih h

/-- The run is 0 once the active order has left. -/
theorem leaveActive_run (r : OrderResult) (ha : s.order.active = some a) : (leaveActive r s).order.condRun = 0 := by
  rw [leaveActive_some r ha]
  exact promoteFrom_run _ rfl

theorem returnOrder_some (e : OrderCapture) (c : NotCompleted) (ha : s.order.active = some a) : returnOrder e c s =
    (s.setOrder fun u => { u with active := some { a with state := e.fromState }, condRun := 0 }).raise
      (.orderNotCompleted a.order.visit a.order.kind c) := by
  simp only [returnOrder, ha, setActiveState_some _ ha]
  rfl

theorem returnOrder_rested (e : OrderCapture) (c : NotCompleted) (ha : s.order.active = some a) :
    Rested (returnOrder e c s) := by
  rw [returnOrder_some e c ha]
  exact .inr (.inl rfl)

theorem completeActive_rested (n : Option Nat) (ha : s.order.active = some a) : Rested (completeActive n s) := by
  rw [completeActive_some n ha]
  exact .inr (.inr fun b hb => by cases hb; exact ⟨nofun, .inl nofun⟩)

theorem surveyStop_rested (e : OrderCapture) (m : Marks) (reported : Bool) (ha : s.order.active = some a) :
    Rested (surveyStop e m reported s) := by
  rcases surveyStop_cases e m reported s with hc | hc <;> rw [hc]
  · refine .inr (.inr fun b hb => ?_)
    simp only [State.setOrder_order, surveyedUnit, ha, Option.map_some, Option.some.injEq] at hb
    subst hb
    exact ⟨nofun, .inr rfl⟩
  · have ha1 : (s.setOrder (surveyedUnit e m)).order.active =
        some { a with state := .surveying, stopsTaken := a.stopsTaken + 1, lastStop := some (e.direction, m) } := by
      simp only [State.setOrder_order, surveyedUnit, ha, Option.map_some]
    have hf := (finishSurvey_eq ha1).1
    unfold leaveWithoutPass
    split
    · exact .inr (.inl (leaveActive_run _ hf))
    · refine .inr (.inr fun b hb => ?_)
      cases hf.symm.trans hb
      exact ⟨nofun, .inl nofun⟩

theorem weighOrder_rested (e : OrderCapture) (o : Order) (mass : Int) (m : Marks) (ha : s.order.active = some a) :
    Rested (weighOrder e o mass m s) := by
  unfold weighOrder
  dsimp only
  split <;> rename_i s1 hw
  all_goals
    have ho : s1.order = s.order := (congrArg (·.2.order) hw).symm.trans (weighingStep_order _ s)
    have ha1 : s1.order.active = some a := by rw [ho]; exact ha
  · exact returnOrder_rested e _ ha1
  · exact completeActive_rested _ ha1
  · rw [setActiveState_some _ ha1]
    exact .inr (.inr fun b hb => by cases hb; exact ⟨nofun, .inl nofun⟩)

theorem takeStop_active (o : Order) (st : Stop) (s : State) : (takeStop o st s).order.active = s.order.active := by
  unfold takeStop
  split <;> rfl

theorem completeStop_rested (e : OrderCapture) (o : Order) (ha : s.order.active = some a) :
    Rested (completeStop e o s) := by
  have ha1 := (takeStop_active o (stopOf e o.kind s) s).trans ha
  unfold completeStop
  dsimp only
  split
  · exact weighOrder_rested _ _ _ _ ha1
  · exact weighOrder_rested _ _ _ _ ha1
  · exact weighOrder_rested _ _ _ _ ha1
  · exact surveyStop_rested _ _ _ ha1
  · exact completeActive_rested none ((congrArg OrderUnit.active (queueSlip_order ..)).trans ha1)

theorem completeCapture_rested (h : Rested s) : Rested (completeCapture s) := by
  unfold completeCapture
  dsimp only
  split
  · rename_i e a he ha
    split
    · exact returnOrder_rested e _ (a := a) ha
    · exact completeStop_rested e _ (a := a) ha
  · exact h

theorem abortCapture_rested (c : AbortCause) (h : Rested s) : Rested (abortCapture c s) := by
  rcases abortCapture_cases c s with hc | ⟨e, a, he, ha, hc⟩ <;> rw [hc]
  · exact h
  · exact .inr (.inl rfl)

theorem captureStep_rested (endFirst : Bool) (d : DeckId) (h : Rested s) : Rested (captureStep endFirst d s) := by
  have ha : ∀ {s}, Rested s → Rested (abortOnDeck d s) := by
    intro s h
    unfold abortOnDeck
    split
    · exact abortCapture_rested _ h
    · exact h
  have hf : ∀ {s}, Rested s → Rested (if windowEnded s then completeCapture s else s) := by
    intro s h
    split
    · exact completeCapture_rested h
    · exact h
  unfold captureStep
  cases endFirst
  · exact hf (ha h)
  · exact ha (hf h)

end

/-! ### The capture's settings -/

/-- The window C and the delay A (R80). -/
def State.captureSettings (s : State) : Nat × Nat := (s.order.window, s.order.delay)

section
variable (s : State)

theorem promoteFrom_settings (l : List Order) : (promoteFrom l s).captureSettings = s.captureSettings := by
  induction l generalizing s with
  | nil => rfl
  | cons o l ih =>
    unfold promoteFrom
    split
    · rfl
    · exact ih _

theorem leaveActive_settings (r : OrderResult) : (leaveActive r s).captureSettings = s.captureSettings := by
  unfold leaveActive
  split
  · rfl
  · exact promoteFrom_settings _ _

theorem completeActive_settings (n : Option Nat) : (completeActive n s).captureSettings = s.captureSettings := by
  unfold completeActive
  split <;> rfl

theorem captureSettings_of_order {s t : State} (h : t.order = s.order) : t.captureSettings = s.captureSettings := by
  simp only [State.captureSettings, h]

theorem finishSurvey_settings : (finishSurvey s).captureSettings = s.captureSettings := by
  unfold finishSurvey
  split
  · rfl
  · exact (completeActive_settings _ _).trans (captureSettings_of_order (queueSlip_order ..))

theorem surveyStop_settings (e : OrderCapture) (m : Marks) (reported : Bool) :
    (surveyStop e m reported s).captureSettings = s.captureSettings := by
  rcases surveyStop_cases e m reported s with hc | hc <;> rw [hc]
  · rfl
  · have hf := finishSurvey_settings (s.setOrder (surveyedUnit e m))
    unfold leaveWithoutPass
    split
    · exact (leaveActive_settings ..).trans hf
    · exact hf

theorem returnOrder_settings (e : OrderCapture) (c : NotCompleted) :
    (returnOrder e c s).captureSettings = s.captureSettings := by
  unfold returnOrder
  split <;> rfl

theorem weighOrder_settings (e : OrderCapture) (o : Order) (mass : Int) (m : Marks) :
    (weighOrder e o mass m s).captureSettings = s.captureSettings := by
  unfold weighOrder
  dsimp only
  split <;> rename_i s1 hw
  all_goals
    have ho : s1.captureSettings = s.captureSettings :=
      captureSettings_of_order ((congrArg (·.2.order) hw).symm.trans (weighingStep_order _ s))
  · exact (returnOrder_settings ..).trans ho
  · exact (completeActive_settings ..).trans ho
  · exact ho

theorem completeStop_settings (e : OrderCapture) (o : Order) :
    (completeStop e o s).captureSettings = s.captureSettings := by
  have ht : (takeStop o (stopOf e o.kind s) s).captureSettings = s.captureSettings := by
    unfold takeStop
    split <;> rfl
  unfold completeStop
  dsimp only
  split
  · exact (weighOrder_settings ..).trans ht
  · exact (weighOrder_settings ..).trans ht
  · exact (weighOrder_settings ..).trans ht
  · exact (surveyStop_settings ..).trans ht
  · exact ((completeActive_settings ..).trans (captureSettings_of_order (queueSlip_order ..))).trans ht

theorem completeCapture_settings : (completeCapture s).captureSettings = s.captureSettings := by
  unfold completeCapture
  dsimp only
  split
  · split
    · exact returnOrder_settings ..
    · exact completeStop_settings ..
  · rfl

theorem abortOnDeck_settings (d : DeckId) : (abortOnDeck d s).captureSettings = s.captureSettings := by
  unfold abortOnDeck
  split
  · rcases abortCapture_cases (if isFaultMode (s.deckMode d) then .deckFault else .motion) s with
      hc | ⟨e, a, -, -, hc⟩ <;> rw [hc]
    rfl
  · rfl

theorem captureStep_settings (endFirst : Bool) (d : DeckId) :
    (captureStep endFirst d s).captureSettings = s.captureSettings := by
  have hf : ∀ s, (if windowEnded s then completeCapture s else s).captureSettings = s.captureSettings := by
    intro s
    split
    · exact completeCapture_settings s
    · rfl
  unfold captureStep
  cases endFirst
  · exact (hf _).trans (abortOnDeck_settings ..)
  · exact (abortOnDeck_settings ..).trans (hf _)

end
end Sys2Proof.Machine

/-!
Tests of the conditions on samples with nothing in flight: the start of a capture, what starts none, and the condition
run (the first five parts of O40).
-/

namespace Sys2Proof.Machine

section
variable {d : DeckId} {conv : Conversion} {g : Int} {s : State} {a : ActiveOrder}

/-- Condition 2 (R66). -/
theorem firstFailing_mapValid {o : Order} (h : firstFailing s o = none) : s.axle.map.valid = true :=
  firstFailing_none.mp h .mapInvalid (by simp [conditionOrder])

/-- What the lanes show of STOP at both ends stands on the pins. -/
theorem drive_stopped (h : laneSignals s = (.stop, .stop)) :
    s.drive.order.laneA = .stop ∧ s.drive.order.laneB = .stop := by
  simp [State.drive, h]

theorem laneSignals_capturing (ha : s.order.active = some a) (hst : a.state = .capturing) :
    laneSignals s = (.stop, .stop) := by
  unfold laneSignals
  split
  · rfl
  · split
    · rfl
    · simp only [ha, hst]

/-- On a deck at rest a notice of conditions that are all met has no effect. -/
theorem LeavesAtRest.notice_met (h : LeavesAtRest d conv g s) (ha : s.order.active = some a)
    (hf : firstFailing s a.order = none) : noticeConditions (afterMonitor d conv s) = afterMonitor d conv s := by
  refine noticeConditions_met _ fun o ho => ?_
  obtain ⟨b, hb, rfl, -⟩ := testedOrder_some ho
  rw [h.afterMonitor_order] at hb
  cases ha.symm.trans hb
  rw [h.afterMonitor_firstFailing, hf]

theorem afterMonitor_axle : (afterMonitor d conv s).axle = s.axle := by
  have h := (applyMonitor_axles (sampleHead d conv s) d (sampleMonitor d conv s)).1.trans (sampleHead_axles s d conv).1
  exact congrArg Prod.fst h

/-! ### The start -/

/-- The order that stands at its delay. -/
theorem LeavesAtRest.starts_iff (h : LeavesAtRest d conv g s) : Starts (afterMonitor d conv s) a ↔ Starts s a := by
  constructor
  · rintro ⟨ha, hauto, hfree, hf, hrun, hst⟩
    rw [h.afterMonitor_order] at ha hfree hrun hst
    rw [h.afterMonitor_firstFailing] at hf
    exact ⟨ha, hauto, hfree, hf, hrun, hst⟩
  · rintro ⟨ha, hauto, hfree, hf, hrun, hst⟩
    refine ⟨?_, hauto, ?_, ?_, ?_, ?_⟩
    · rwa [h.afterMonitor_order]
    · rwa [h.afterMonitor_order]
    · rwa [h.afterMonitor_firstFailing]
    · rwa [h.afterMonitor_order]
    · rwa [h.afterMonitor_order]

/-- R67: the sample on which the run reaches the delay starts a capture. -/
theorem LeavesAtRest.captures (h : LeavesAtRest 0 conv g s) (hr : s.metro.decks[(0 : DeckId)].run = none)
    (ho : s.operation = none) (hS : Starts s a) : exec (.autoCaptureStart conv) s = .next (sampled 0 conv s) ∧
      sampled 0 conv s = ((afterMonitor 0 conv s).setOrder fun u =>
        { u with
          engine := some ⟨s.order.window, s.axle.map.direction, a.state, vrep 4 0, vrep 4 0⟩
          active := some { a with state := .capturing }
          condRun := min 500 (s.order.condRun + 1) }).drive := by
  have hn := h.notice_met hS.active hS.conditions
  have hs := h.starts_iff.mpr hS
  constructor
  · rw [exec_autoCaptureStart h.running, testState_idle hS.free ho, hn,
      if_pos (testOnSample_starts.mpr ⟨a, hs⟩)]
  · have he : (afterMonitor 0 conv s).order.engine = none := hs.free
    rw [h.sampled_eq hS.free ho hr, orderStep_idle_first he, hn, hs.testOnSample, recoverMap_valid,
      noticeConditions_met, h.afterMonitor_order, afterMonitor_axle]
    · intro o hto
      obtain ⟨b, hb, -, hst⟩ := testedOrder_some hto
      cases hb
      rcases hst with hst | hst <;> cases hst
    · exact (congrArg (·.map.valid) afterMonitor_axle).trans (firstFailing_mapValid hS.conditions)

/-! ### What starts none -/

theorem noStart (hp : s.power = .running) (h : ¬∃ b, Starts (testState conv s) b) :
    exec (.autoCaptureStart conv) s = .next s.drive := by
  rw [exec_autoCaptureStart hp, if_neg (by rwa [testOnSample_starts])]

/-- With no capture in flight the order unit reaches the test as it stood, but for a run set to 0. -/
theorem testState_noticed (he : s.order.engine = none) : Noticed s (testState conv s) := by
  have h1 := afterMonitor_noticed s 0 conv
  have h2 := takeGross_order (d := 0) conv.raw (sampleW 0 conv s) (h1.engine.trans he)
  rw [testState, captureStep_none (by rw [h2, h1.engine, he])]
  exact (h1.trans (.inl h2)).trans (noticeConditions_noticed _)

theorem Starts.of_noticed {t : State} (h : Starts t a) (hn : Noticed s t) : s.order.active = some a ∧
    a.order.auto = true ∧ s.order.delay ≤ min 500 (s.order.condRun + 1) ∧
      (a.state = .waiting ∨ (a.state = .surveying ∧ s.order.crossingSince = true)) := by
  obtain ⟨ha, hauto, -, -, hrun, hst⟩ := h
  rw [hn.active] at ha
  rw [hn.delay] at hrun
  rw [hn.crossingSince] at hst
  have := hn.condRun_le
  exact ⟨ha, hauto, by omega, hst⟩

/-- R67: an order without its auto flag or in another state, a survey without a crossing, a run that falls short. -/
theorem noStart_idle (hp : s.power = .running) (he : s.order.engine = none)
    (h : (∀ a, s.order.active = some a → a.order.auto = false ∨
      (a.state ≠ .waiting ∧ (a.state ≠ .surveying ∨ s.order.crossingSince = false))) ∨
        min 500 (s.order.condRun + 1) < s.order.delay) : exec (.autoCaptureStart conv) s = .next s.drive := by
  refine noStart hp fun ⟨a, hS⟩ => ?_
  obtain ⟨ha, hauto, hrun, hst⟩ := hS.of_noticed (testState_noticed he)
  rcases h with h | h
  · rcases h a ha with hno | ⟨hw, hs⟩
    · rw [hauto] at hno
      cases hno
    · rcases hst with hst | ⟨hst, hc⟩
      · exact hw hst
      · rcases hs with hs | hs
        · exact hs hst
        · rw [hs] at hc
          cases hc
  · omega

theorem takeGross_settings (raw : Vector Int 4) (w : Option Int) :
    (takeGross d raw w s).captureSettings = s.captureSettings := by
  cases w with
  | none => rfl
  | some w => exact (captureSettings_of_order (testSample_order ..)).trans rfl

theorem takeGross_engine_some (raw : Vector Int 4) (w : Option Int) (h : s.order.engine ≠ none) :
    (takeGross d raw w s).order.engine ≠ none := by
  cases w with
  | none => exact h
  | some w =>
    rw [takeGross, testSample_order, captureSample, State.setOrder_order]
    simpa using h

/-- R67: with a delay above 1 a capture in flight keeps the sample from starting another. -/
theorem noStart_capturing (hp : s.power = .running) (he : s.order.engine ≠ none) (hd : 1 < s.order.delay) :
    exec (.autoCaptureStart conv) s = .next s.drive := by
  have h1 := afterMonitor_noticed s 0 conv
  have h2 : Rested (takeGross 0 conv.raw (sampleW 0 conv s) (afterMonitor 0 conv s)) :=
    .inl (takeGross_engine_some _ _ (by rwa [h1.engine]))
  have hset : (testState conv s).captureSettings = s.captureSettings := by
    have hn := noticeConditions_noticed
      (captureStep false 0 (takeGross 0 conv.raw (sampleW 0 conv s) (afterMonitor 0 conv s)))
    have hs : ∀ {s t : State}, Noticed s t → t.captureSettings = s.captureSettings := fun h =>
      Prod.ext h.window h.delay
    exact (hs hn).trans ((captureStep_settings ..).trans ((takeGross_settings ..).trans (hs h1)))
  refine noStart hp (((captureStep_rested false 0 h2).noticed (noticeConditions_noticed _)).not_starts ?_)
  have hx := congrArg Prod.snd hset
  exact hd.trans_eq hx.symm

/-! ### A failing condition that the sample leaves failing -/

/-- The switch, and every UNVERIFIED deck, stand. -/
def KeepsUnverified (s t : State) : Prop :=
  t.metro.switch = s.metro.switch ∧ ∀ b, s.deckStatus b = .unverified → t.deckStatus b = .unverified

theorem KeepsUnverified.trans {s t u : State} (h : KeepsUnverified s t) (h' : KeepsUnverified t u) :
    KeepsUnverified s u :=
  ⟨h'.1.trans h.1, fun b hb => h'.2 b (h.2 b hb)⟩

theorem KeepsUnverified.same {s t : State} (hs : t.metro.switch = s.metro.switch)
    (hd : t.deckStatus = s.deckStatus) : KeepsUnverified s t :=
  ⟨hs, fun _ hb => hd ▸ hb⟩

theorem KeepsUnverified.foldl {α : Type} {f : State → α → State} (h : ∀ s a, KeepsUnverified s (f s a))
    (l : List α) (s : State) : KeepsUnverified s (l.foldl f s) := by
  induction l generalizing s with
  | nil => exact .same rfl rfl
  | cons a l ih => exact (h s a).trans (ih _)

theorem noticeConditions_unverified (s : State) : KeepsUnverified s (noticeConditions s) := by
  obtain ⟨n, h⟩ := noticeConditions_eq s
  rw [h]
  exact .same rfl rfl

theorem reportDowngrade_unverified (c : StatusCause) (d : DeckId) (s : State) :
    KeepsUnverified s (reportDowngrade c d s) := by
  constructor
  · have hr : ∀ v, (changeStatus true d v c s).metro.switch = s.metro.switch := by
      intro v
      rcases changeStatus_cases true d v c s with ⟨-, h⟩ | ⟨-, m, h, -, -, -, -, hs⟩ <;> rw [h]
      exact hs
    exact (noticeConditions_unverified _).1.trans (hr _)
  · intro b hb
    rw [(reportDowngrade_keeps s c d).2.2.2.2]
    by_cases h : b = d
    · subst h
      rw [Function.update_self, hb]
      rfl
    · rw [Function.update_of_ne h, hb]

theorem applyMonitor_unverified (d : DeckId) (x : Monitor) (s : State) : KeepsUnverified s (applyMonitor d x s) := by
  have hn : ∀ s n, KeepsUnverified s (handleNote d s n) := by
    intro s n
    by_cases h : n = .zero .zeroLimit
    · subst h
      exact reportDowngrade_unverified _ _ (s.raise _)
    · rcases handleNote_cases s d n h with e | ⟨c, -, e⟩ <;> rw [e] <;> exact .same rfl rfl
  have hd : KeepsUnverified s ((s.setDeck d fun _ => x.deck).setMetroDeck d (countEntries (emptyEntries x.notes))) :=
    .same rfl (by simp)
  exact hd.trans (.foldl hn _ _)

theorem sampleHead_unverified (d : DeckId) (conv : Conversion) (s : State) :
    KeepsUnverified s (sampleHead d conv s) := by
  have hf : KeepsUnverified s (frontEndStep d conv s) := by
    rw [frontEndStep_eq]
    split
    · exact reportDowngrade_unverified _ _ (s.setFront d _)
    · exact .same rfl rfl
  have hrun : ∀ s : State, KeepsUnverified s (abandonRun d s) := by
    intro s
    unfold abandonRun
    split
    · exact .same rfl rfl
    · dsimp only
      refine KeepsUnverified.trans ?_ (applyMonitor_unverified _ _ _)
      refine .same rfl (funext fun b => ?_)
      by_cases h : d = b
      · subst h
        simp [State.deckStatus, switchShunt]
      · simp [State.deckStatus, switchShunt, Fin.val_ne_of_ne h]
  have hop : ∀ (c : AbortCause) (s : State), KeepsUnverified s (abortOperation c s) := by
    intro c s
    unfold abortOperation
    split <;> exact .same rfl rfl
  unfold sampleHead abandonOnError abandonOn
  split
  · split
    · exact hf
    · split
      · exact (hf.trans (hrun _)).trans (hop _ _)
      · exact hf.trans (hrun _)
  · exact hf

theorem afterMonitor_unverified (d : DeckId) (conv : Conversion) (s : State) :
    KeepsUnverified s (afterMonitor d conv s) :=
  (sampleHead_unverified d conv s).trans (applyMonitor_unverified ..)

theorem afterMonitor_axles : SameAxles (afterMonitor d conv s) s :=
  ⟨(applyMonitor_axles ..).1.trans (sampleHead_axles ..).1, (applyMonitor_axles ..).2.trans (sampleHead_axles ..).2⟩

theorem afterMonitor_orders : SameOrders (afterMonitor d conv s) s :=
  (applyMonitor_orders ..).trans (sampleHead_orders ..)

theorem orderClass_congr {t : State} (hv : t.visit = s.visit) (hc : t.check = s.check) (o : Order) :
    orderClass t o = orderClass s o := by
  simp only [orderClass, hv, hc]

/-- The deck's part of a sample cannot cure a condition that does not read the decks' states. -/
theorem afterMonitor_fails {o : Order} {c : NotReady} (h : conditionMet s o c = false) (hm : c ≠ .motion)
    (hn : c ≠ .noise) (hd : c ≠ .deckFault) (hz : c ≠ .zeroNotSet) (hl : c ≠ .loadWithoutAxle) :
    conditionMet (afterMonitor d conv s) o c = false := by
  obtain ⟨hside, hcheck⟩ := afterMonitor_axles (d := d) (conv := conv) (s := s)
  simp only [State.axleSide, Prod.mk.injEq] at hside
  obtain ⟨haxle, hcount, hopen, -⟩ := hside
  obtain ⟨hswitch, hstatus⟩ := afterMonitor_unverified d conv s
  have hclass := orderClass_congr (afterMonitor_orders (d := d) (conv := conv)).visit hcheck o
  cases c
  case motion => exact absurd rfl hm
  case noise => exact absurd rfl hn
  case deckFault => exact absurd rfl hd
  case zeroNotSet => exact absurd rfl hz
  case loadWithoutAxle => exact absurd rfl hl
  case session => rwa [conditionMet, hopen]
  case mapInvalid => rwa [conditionMet, haxle]
  case notAllOn =>
    have hall : allOn (afterMonitor d conv s) = allOn s :=
      Bool.eq_iff_iff.mpr (by simp only [allOn_iff, haxle, hcount])
    rwa [conditionMet, hall]
  case axleCount => rwa [conditionMet, haxle, hclass]
  case unverified =>
    simp only [conditionMet, Bool.or_eq_false_iff, Bool.not_eq_false', decide_eq_true_eq, List.any_eq_true,
      mem_inUse] at h ⊢
    refine h.imp_right (Or.imp hswitch.trans ?_)
    rintro ⟨b, hb, hu⟩
    exact ⟨b, hcount ▸ hb, hstatus b hu⟩
  case notEmpty => cases h
  case notLoaded => cases h

theorem noticeConditions_firstFailing (s : State) (o : Order) :
    firstFailing (noticeConditions s) o = firstFailing s o := by
  obtain ⟨n, hx⟩ := noticeConditions_eq s
  rw [hx]
  exact firstFailing_congr rfl

theorem noStart_failing (hp : s.power = .running) {c : NotReady} (ha : s.order.active = some a)
    (he : s.order.engine = none) (ho : s.operation = none)
    (h : firstFailing (afterMonitor 0 conv s) a.order = some c) : exec (.autoCaptureStart conv) s = .next s.drive := by
  refine noStart hp fun ⟨b, hS⟩ => ?_
  rw [testState_idle he ho] at hS
  have hn := noticeConditions_noticed (afterMonitor 0 conv s)
  have hb : (afterMonitor 0 conv s).order.active = some b := hn.active ▸ hS.active
  rw [(afterMonitor_noticed s 0 conv).active, ha] at hb
  cases hb
  cases h.symm.trans ((noticeConditions_firstFailing ..).symm.trans hS.conditions)

/-! ### The condition run on a deck at rest -/

theorem passEndActive_run (h : s.order.condRun = 0) : (passEndActive s).order.condRun = 0 := by
  unfold passEndActive
  split
  · exact h
  · rename_i a ha
    split
    · rfl
    · exact leaveActive_run _ (finishSurvey_eq ha).1
    · exact leaveActive_run _ ha
    · exact leaveActive_run _ ha
    · exact h

theorem recoverMap_run (h : s.order.condRun = 0) : (recoverMap s).order.condRun = 0 := by
  by_cases hr : Recovers s
  · rw [recoverMap_recovers hr]
    split
    · exact passEndActive_run (s := recovered s) h
    · exact h
  · rwa [recoverMap_stays hr]

/-- R67: with the conditions met deck 1's sample counts one, and another's leaves the run. -/
theorem LeavesAtRest.counts (h : LeavesAtRest d conv g s) (hr : s.metro.decks[d].run = none) (ho : s.operation = none)
    (he : s.order.engine = none) (ha : s.order.active = some a) (hst : a.state = .waiting ∨ a.state = .surveying)
    (hf : firstFailing s a.order = none) (hn : d ≠ 0 ∨ ¬∃ b, Starts s b) :
    sampled d conv s = ((afterMonitor d conv s).setOrder fun u =>
      { u with condRun := if d = 0 then min 500 (s.order.condRun + 1) else s.order.condRun }).drive := by
  have hord := h.afterMonitor_order
  have hnm := h.notice_met ha hf
  have hstep : orderStep false d (afterMonitor d conv s) = (afterMonitor d conv s).setOrder fun u =>
      { u with condRun := if d = 0 then min 500 (s.order.condRun + 1) else s.order.condRun } := by
    by_cases hd : d = 0
    · subst hd
      have hS : ¬∃ b, Starts (afterMonitor 0 conv s) b := fun ⟨b, hb⟩ =>
        hn.elim (fun h => h rfl) fun hno => hno ⟨b, h.starts_iff.mp hb⟩
      have ht : testedOrder (afterMonitor 0 conv s) = some a.order := by
        rw [testedOrder_active (by rw [hord, ha]), if_pos hst]
      have hrun := countTest_run ht
      rw [h.afterMonitor_firstFailing, if_pos hf, hord] at hrun
      rw [orderStep_idle_first (by rw [hord, he]), hnm, testOnSample_counts ht hS, if_pos rfl, ← hrun]
      rfl
    · rw [orderStep_idle_other (by rw [hord, he]) hd, hnm, if_neg hd]
      exact (setOrder_self (by rw [hord])).symm
  rw [h.sampled_eq he ho hr, hstep, recoverMap_valid, noticeConditions_met]
  · intro o hto
    obtain ⟨b, hb, rfl, -⟩ := testedOrder_some hto
    have hb' : (afterMonitor d conv s).order.active = some b := hb
    rw [hord, ha] at hb'
    cases hb'
    exact (firstFailing_congr (s := afterMonitor d conv s) rfl).trans ((h.afterMonitor_firstFailing _).trans hf)
  · exact (congrArg (·.map.valid) afterMonitor_axle).trans (firstFailing_mapValid hf)

/-- R67: a test on which a condition fails sets the run to 0. -/
theorem testOnSample_fails {o : Order} (ht : testedOrder s = some o) (hf : firstFailing s o ≠ none) :
    (testOnSample s).1.order.condRun = 0 := by
  have hS : ¬∃ b, Starts s b := by
    rintro ⟨b, hb⟩
    have hbo := hb.tested.symm.trans ht
    exact hf ((Option.some.inj hbo) ▸ hb.conditions)
  rw [testOnSample_counts ht hS, countTest_run ht, if_neg hf]

theorem LeavesAtRest.resets (h : LeavesAtRest 0 conv g s) (hr : s.metro.decks[(0 : DeckId)].run = none)
    (ho : s.operation = none) (he : s.order.engine = none) (ha : s.order.active = some a)
    (hst : a.state = .waiting ∨ a.state = .surveying) (hf : firstFailing s a.order ≠ none) :
    (sampled 0 conv s).order.condRun = 0 := by
  have hord := h.afterMonitor_order
  have ht : testedOrder (noticeConditions (afterMonitor 0 conv s)) = some a.order := by
    rw [testedOrder_active (by rw [(noticeConditions_noticed _).active, hord, ha]), if_pos hst]
  have hf' : firstFailing (noticeConditions (afterMonitor 0 conv s)) a.order ≠ none := by
    rwa [noticeConditions_firstFailing, h.afterMonitor_firstFailing]
  rw [h.sampled_eq he ho hr, orderStep_idle_first (by rw [hord, he])]
  have hx := (noticeConditions_noticed (recoverMap
    (testOnSample (noticeConditions (afterMonitor 0 conv s))).1)).condRun_le
  rw [recoverMap_run (testOnSample_fails ht hf')] at hx
  exact Nat.le_zero.mp hx

end
end Sys2Proof.Machine

/-!
The condition run after a notice: samples, transitions, stuck beams, the switch and the opening of a session leave no run
above 0 for an order with a condition that fails (R67).
-/

namespace Sys2Proof.Machine

/-- Where a condition of the tested order fails, its run is 0. -/
def RunNoticed (s : State) : Prop :=
  ∀ o, testedOrder s = some o → firstFailing s o ≠ none → s.order.condRun = 0

/-- What a test reads: the tested order, its run and the conditions. -/
structure SameTest (t s : State) : Prop where
  tested : testedOrder t = testedOrder s
  run : t.order.condRun = s.order.condRun
  view : ∀ o, t.conditionView o = s.conditionView o

theorem SameTest.refl (s : State) : SameTest s s := ⟨rfl, rfl, fun _ => rfl⟩

theorem SameTest.trans {s t u : State} (h : SameTest u t) (h' : SameTest t s) : SameTest u s :=
  ⟨h.tested.trans h'.tested, h.run.trans h'.run, fun o => (h.view o).trans (h'.view o)⟩

section
variable {s t : State}

theorem RunNoticed.same (h : RunNoticed s) (hs : SameTest t s) : RunNoticed t := by
  intro o ho hf
  rw [hs.tested] at ho
  rw [firstFailing_congr (hs.view o)] at hf
  exact hs.run.trans (h o ho hf)

/-- An active order whose conditions all hold leaves nothing to notice. -/
theorem RunNoticed.of_met {a : ActiveOrder} (ha : s.order.active = some a) (hf : firstFailing s a.order = none) :
    RunNoticed s := by
  intro o ho hne
  obtain ⟨b, hb, rfl, -⟩ := testedOrder_some ho
  cases ha.symm.trans hb
  exact absurd hf hne

variable (s)

theorem noticeConditions_runNoticed : RunNoticed (noticeConditions s) := by
  intro o ho hf
  rw [testedOrder_congr (noticeConditions_noticed s).active] at ho
  rw [noticeConditions_firstFailing] at hf
  rw [noticeConditions_fails s ho hf]
  rfl

theorem drive_sameTest : SameTest s.drive s := ⟨rfl, rfl, fun _ => rfl⟩

theorem setPort_sameTest (p : Port) (f : PortState → PortState) : SameTest (s.setPort p f) s := ⟨rfl, rfl, fun _ => rfl⟩

theorem raise_sameTest (c : Cause) : SameTest (s.raise c) s := ⟨rfl, rfl, fun _ => rfl⟩

theorem touchSession_sameTest (p : Port) : SameTest (touchSession p s) s := by
  have ho := sessionOpen_of_side (touchSession_axles p s).1
  unfold touchSession at ho ⊢
  split at ho
  · rename_i hp
    rw [if_pos hp]
    refine ⟨rfl, rfl, fun o => ?_⟩
    simp only [State.conditionView, ho]
    rfl
  · rename_i hp
    rw [if_neg hp]
    exact .refl s

theorem recordRefusal_sameTest (h : Header) (k : Byte) (c : Status) : SameTest (recordRefusal h k c s) s := by
  unfold recordRefusal
  split <;> exact ⟨rfl, rfl, fun _ => rfl⟩

theorem answer_sameTest (h : Header) (k : Byte) (r : Response) : SameTest (answer h k r s) s := by
  unfold answer
  dsimp only
  split
  · exact (recordRefusal_sameTest ..).trans (setPort_sameTest ..)
  · exact setPort_sameTest ..

theorem countRejection_sameTest (k : ReqKind) : SameTest (countRejection k s) s := by
  unfold countRejection
  split <;> exact ⟨rfl, rfl, fun _ => rfl⟩

variable {s}

/-! ### The map's recovery -/

/-- With its map INVALID a state has no run but 0 for its tested order. -/
theorem RunNoticed.invalid (h : RunNoticed s) (hv : s.axle.map.valid = false) {o : Order}
    (ho : testedOrder s = some o) : s.order.condRun = 0 :=
  h o ho fun hf => nomatch hv.symm.trans (firstFailing_mapValid hf)

/-- The end of a pass leaves an order that is tested with a run of 0. -/
theorem passEndActive_tested {o : Order} (ho : testedOrder (passEndActive s) = some o) :
    (passEndActive s).order.condRun = 0 := by
  unfold passEndActive at ho ⊢
  split at ho
  · rename_i hn
    rw [testedOrder, hn] at ho
    cases ho
  · rename_i a ha
    split at ho
    · rfl
    · exact leaveActive_run _ (finishSurvey_eq ha).1
    · exact leaveActive_run _ ha
    · exact leaveActive_run _ ha
    · rename_i hst
      rw [testedOrder_active ha, if_neg (by rw [hst]; rintro (h | h) <;> cases h)] at ho
      cases ho

theorem recoverMap_runNoticed (h : RunNoticed s) : RunNoticed (recoverMap s) := by
  by_cases hr : Recovers s
  · intro o ho _
    rw [recoverMap_recovers hr] at ho ⊢
    split at ho
    · rename_i hd
      rw [if_pos hd]
      exact passEndActive_tested (s := recovered s) ho
    · rename_i hd
      rw [if_neg hd]
      exact h.invalid hr.1 (o := o) ho
  · rwa [recoverMap_stays hr]

/-! ### The commands -/

theorem filterExpired_runNoticed (j : Boundary) (h : RunNoticed s) : RunNoticed (filterExpired j s) := by
  unfold filterExpired
  split
  · unfold takeTransition
    dsimp only
    split
    · exact recoverMap_runNoticed (noticeConditions_runNoticed _)
    · split
      · refine h.same ⟨rfl, rfl, fun o => ?_⟩
        have hd : ∀ i : Boundary, ((s.setPair j fun p => { p with persist := none }).axle.pairs[i]).decoder =
            s.axle.pairs[i].decoder := by
          intro i
          simp only [State.setPair_axle, upd_get]
          split <;> rfl
        simp only [State.conditionView, hd]
        rfl
      · exact recoverMap_runNoticed (noticeConditions_runNoticed _)
  · exact h

theorem handleStuck_runNoticed (j : Boundary) (b : Beam) (h : RunNoticed s) : RunNoticed (handleStuck j b s) := by
  unfold handleStuck
  dsimp only
  split
  · exact noticeConditions_runNoticed _
  · exact h

theorem switchTaken_runNoticed (l : SwitchLevel) (h : RunNoticed s) : RunNoticed (switchTaken l s) := by
  unfold switchTaken
  split
  · exact h
  · exact noticeConditions_runNoticed _

theorem takeSample_runNoticed (d : DeckId) (conv : Conversion) (h : RunNoticed s) :
    RunNoticed (takeSample false d conv s) := by
  unfold takeSample
  split
  · exact noticeConditions_runNoticed _
  · exact h

theorem ownOpenSession_runNoticed (h : RunNoticed s) : RunNoticed (ownOpenSession s).1 := by
  unfold ownOpenSession
  split
  · exact h
  · exact (noticeConditions_runNoticed _).same (raise_sameTest ..)

theorem routeRequest_runNoticed {h : Header} {k : ReqKind} {owner : State → State × Response}
    (ho : ∀ s, RunNoticed s → RunNoticed (owner s).1) (hs : RunNoticed s) : RunNoticed (routeRequest h k owner s) := by
  unfold routeRequest
  split
  · exact hs.same ((answer_sameTest ..).trans (countRejection_sameTest ..))
  · split
    · exact hs.same (answer_sameTest ..)
    · exact (ho s hs).same (answer_sameTest ..)

theorem runCommand_runNoticed {f : State → State} (hp : s.power = .running) (h : RunNoticed (f s)) :
    ∃ t, runCommand f s = .next t ∧ RunNoticed t :=
  ⟨_, runCommand_running hp, h.same (drive_sameTest _)⟩

theorem request_runNoticed {h : Header} {k : ReqKind} {owner : State → State × Response} (hp : s.power = .running)
    (ho : ∀ s, RunNoticed s → RunNoticed (owner s).1) (hs : RunNoticed s) :
    ∃ t, request h k owner s = .next t ∧ RunNoticed t := by
  refine runCommand_runNoticed hp ?_
  dsimp only
  split
  · exact routeRequest_runNoticed ho (hs.same ((touchSession_sameTest ..).trans (setPort_sameTest ..)))
  · exact hs.same (setPort_sameTest ..)

/-- R67: what makes a condition fail leaves the run at 0. -/
theorem exec_runNoticed {i : Instr} (hp : s.power = .running) (hs : RunNoticed s)
    (hi : (∃ d conv, i = .deckSample d conv) ∨ (∃ j, i = .filterTimeExpired j) ∨ (∃ j b, i = .stuckBeam j b) ∨
      (∃ l, i = .switchChange l) ∨ ∃ h, i = .openSession h) : ∃ t, exec i s = .next t ∧ RunNoticed t := by
  rcases hi with ⟨d, conv, rfl⟩ | ⟨j, rfl⟩ | ⟨j, b, rfl⟩ | ⟨l, rfl⟩ | ⟨h, rfl⟩
  · exact runCommand_runNoticed hp (takeSample_runNoticed d conv hs)
  · exact runCommand_runNoticed hp (filterExpired_runNoticed j hs)
  · exact runCommand_runNoticed hp (handleStuck_runNoticed j b hs)
  · exact runCommand_runNoticed hp (switchTaken_runNoticed l hs)
  · exact request_runNoticed hp (fun _ => ownOpenSession_runNoticed) hs

end
end Sys2Proof.Machine

/-!
A sample that does not end the window of an order capture: it is counted, or the capture is aborted (R70, R71).
-/

namespace Sys2Proof.Machine

/-! ### The samples of a capture (R70) -/

/-- A capture once a sample of a deck is taken, which may have no W. -/
def takenCapture (d : DeckId) (w : Option Int) (e : OrderCapture) : OrderCapture :=
  match w with
  | some w => addSample d w e
  | none => e

section
variable (d b : DeckId) (w : Option Int) (e : OrderCapture)

theorem takenCapture_keeps : (takenCapture d w e).window = e.window ∧
    (takenCapture d w e).direction = e.direction ∧ (takenCapture d w e).fromState = e.fromState := by
  cases w with
  | none => exact ⟨rfl, rfl, rfl⟩
  | some w =>
    unfold takenCapture addSample
    dsimp only
    split <;> exact ⟨rfl, rfl, rfl⟩

/-- A sample counts on its own deck, until C. -/
theorem takenCapture_get : (takenCapture d w e).counts[b] =
      (if b = d ∧ w ≠ none ∧ e.counts[b] < e.window then e.counts[b] + 1 else e.counts[b]) ∧
    (takenCapture d w e).sums[b] =
      if b = d ∧ w ≠ none ∧ e.counts[b] < e.window then e.sums[b] + w.getD 0 else e.sums[b] := by
  cases w with
  | none => simp [takenCapture]
  | some w =>
    by_cases hb : b = d
    · subst hb
      by_cases hc : e.counts[b.val] < e.window
      · simp [takenCapture, addSample, hc]
      · simp [takenCapture, addSample, hc]
    · have hn : (takenCapture d (some w) e).counts[b] = e.counts[b] ∧
          (takenCapture d (some w) e).sums[b] = e.sums[b] := by
        unfold takenCapture addSample
        dsimp only
        split
        · simp [Fin.val_ne_of_ne (Ne.symm hb)]
        · exact ⟨rfl, rfl⟩
      simpa [hb] using hn

end

section
variable {d : DeckId} {conv : Conversion} {s : State} {e : OrderCapture} {a : ActiveOrder}

/-- With no operation in flight the capture alone takes the sample. -/
theorem takeGross_capturing (raw : Vector Int 4) (w : Option Int) (he : s.order.engine = some e)
    (ho : s.operation = none) : takeGross d raw w s =
      s.setOrder fun u => { u with engine := some (takenCapture d w e) } := by
  cases w with
  | none =>
    rw [takenCapture, ← he]
    rfl
  | some w =>
    rw [takeGross, testSample_none (s := captureSample d w s) w raw ho, captureSample, State.setOrder, State.setOrder,
      he]
    rfl

/-- The window has not ended while a deck in use lacks samples. -/
theorem windowEnded_short (he : s.order.engine = some e) {b : DeckId} (hb : b.val < deckCount s.legal)
    (hc : e.counts[b] < e.window) : windowEnded s = false := by
  rw [windowEnded, he, ← Bool.not_eq_true, all_inUse]
  intro h
  have := of_decide_eq_true (h b hb)
  omega

theorem afterMonitor_rest (hr : s.metro.decks[d].run = none) : RestStands d s (afterMonitor d conv s) := by
  rw [afterMonitor, sampleHead_noRun hr]
  exact (RestStands.frontEndStep d s conv).trans (.applyMonitor d _ _)

theorem testedOrder_capturing (ha : s.order.active = some a) (hst : a.state = .capturing) : testedOrder s = none := by
  rw [testedOrder_active ha, if_neg]
  rw [hst]
  rintro (h | h) <;> cases h

theorem afterMonitor_order_capturing (ha : s.order.active = some a) (hst : a.state = .capturing) :
    (afterMonitor d conv s).order = s.order :=
  (afterMonitor_noticed s d conv).order_eq (testedOrder_capturing ha hst)

/-- No check is due while a capture is in flight (R164). -/
theorem schedule_capturing (entered : Bool) (he : s.order.engine = some e) : schedule entered d s = s := by
  refine if_neg ?_
  rintro ⟨-, h⟩
  simp [checkDue, State.orderCapture, he] at h

/-- No check is due on a deck that is not EMPTY (R164). -/
theorem schedule_notEmpty (entered : Bool) (h : s.deckMode d ≠ .empty) : schedule entered d s = s := by
  refine if_neg ?_
  rintro ⟨-, hc⟩
  simp [checkDue, h] at hc

theorem noticeConditions_untested (h : testedOrder s = none) : noticeConditions s = s :=
  noticeConditions_met s fun _ ho => nomatch h.symm.trans ho

/-- A notice has no effect on a run of 0. -/
theorem noticeConditions_zero (h : s.order.condRun = 0) : noticeConditions s = s := by
  rcases noticeConditions_cases s with hc | hc <;> rw [hc]
  exact setOrder_self (by rw [← h])

/-- The map's recovery leaves an order that is capturing, its visit and the tickets. -/
theorem recoverMap_capturing (ha : s.order.active = some a) (hst : a.state = .capturing) :
    (recoverMap s).order.active = s.order.active ∧ (recoverMap s).order.engine = s.order.engine ∧
      (recoverMap s).order.condRun = s.order.condRun ∧ (recoverMap s).visit = s.visit ∧
        (recoverMap s).ticket = s.ticket := by
  by_cases hr : Recovers s
  · have hp : passEndActive (recovered s) = recovered s := by
      have ha1 : (recovered s).order.active = some a := ha
      simp only [passEndActive, ha1, hst]
    rw [recoverMap_recovers hr]
    split
    · rw [passEnd, hp]
      exact ⟨rfl, rfl, rfl, rfl, rfl⟩
    · exact ⟨rfl, rfl, rfl, rfl, rfl⟩
  · rw [recoverMap_stays hr]
    exact ⟨rfl, rfl, rfl, rfl, rfl⟩

/-! ### The sample counted -/

/-- R70: after a monitor that leaves its deck settled the sample is counted. -/
theorem sampleTail_counted (raw : Vector Int 4) (w : Option Int) (entered : Bool) (he : s.order.engine = some e)
    (ha : s.order.active = some a) (hst : a.state = .capturing) (ho : s.operation = none)
    (hr : s.metro.decks[d].run = none)
    (hw : windowEnded (s.setOrder fun u => { u with engine := some (takenCapture d w e) }) = false)
    (hm : isSettled (s.deckMode d) = true) : sampleTail false d raw w entered s =
      noticeConditions (recoverMap (s.setOrder fun u => { u with engine := some (takenCapture d w e) })) := by
  have hg := takeGross_capturing (d := d) raw w he ho
  obtain ⟨x, hx⟩ : ∃ x, x = s.setOrder fun u => { u with engine := some (takenCapture d w e) } := ⟨_, rfl⟩
  have hactive : x.order.active = some a := by rw [hx]; exact ha
  have hengine : x.order.engine = some (takenCapture d w e) := by rw [hx]; rfl
  have hmode : isSettled (x.deckMode d) = true := by rw [hx]; exact hm
  have hop : x.operation = none := by rw [hx]; exact ho
  have hrun : x.metro.decks[d].run = none := by rw [hx]; exact hr
  rw [← hx] at hg hw ⊢
  have ht := testedOrder_capturing hactive hst
  have habort : abortOnDeck d x = x := if_neg (by simp [hmode])
  have hstep : captureStep false d x = x := by
    simp only [captureStep, habort, hw]
    rfl
  have horder : orderStep false d x = x := by
    rw [orderStep, hstep, noticeConditions_untested ht]
    split
    · rw [testOnSample_none ht]
    · rfl
  rw [sampleTail, hg, horder, testCaptureStep_none hop, shuntSample_none _ hrun, schedule_capturing _ hengine]

/-! ### The capture aborted -/

/-- The active order given back a state by an abort (R71). -/
def aborted (c : AbortCause) (st : OrderState) (a : ActiveOrder) (s : State) : State :=
  (s.setOrder fun u => { u with engine := none, condRun := 0, active := some { a with state := st } }).raise
    (.orderAborted a.order.visit a.order.kind c)

theorem abortOnDeck_unsettled (he : s.order.engine = some e) (ha : s.order.active = some a)
    (hm : isSettled (s.deckMode d) = false) : abortOnDeck d s =
      aborted (if isFaultMode (s.deckMode d) then .deckFault else .motion) e.fromState a s := by
  rw [abortOnDeck, if_pos (by simp [State.orderCapture, he, hm]), abortCapture, he, ha]
  rfl

/-- A deck in use that is not settled fails a condition. -/
theorem firstFailing_unsettled (hd : d.val < deckCount s.legal) (hm : isSettled (s.deckMode d) = false) (o : Order) :
    firstFailing s o ≠ none := by
  intro hf
  have hs := (decksStill_iff.mp (firstFailing_none.mp hf .motion (by simp [conditionOrder])) d hd).1
  rw [← Bool.not_eq_true] at hm
  refine hm ?_
  rw [State.deckMode]
  rcases hs with hs | hs <;> rw [hs] <;> rfl

/-- A test that fails leaves a run of 0. -/
theorem testOnSample_zero (h0 : s.order.condRun = 0) (hf : ∀ o, firstFailing s o ≠ none) :
    (testOnSample s).1 = s := by
  cases ht : testedOrder s with
  | none => rw [testOnSample_none ht]
  | some o =>
    have hS : ¬∃ b, Starts s b := fun ⟨b, hb⟩ => hf _ hb.conditions
    have hrun := countTest_run ht
    rw [if_neg (hf o)] at hrun
    rw [testOnSample_counts ht hS]
    refine setOrder_self ?_
    simp only [countTest, State.setOrder_order] at hrun
    rw [hrun, ← h0]

/-- R71: after a monitor that leaves its deck unsettled the capture is aborted. -/
theorem sampleTail_aborted (raw : Vector Int 4) (w : Option Int) (entered : Bool) (hd : d.val < deckCount s.legal)
    (he : s.order.engine = some e) (ha : s.order.active = some a) (ho : s.operation = none)
    (hr : s.metro.decks[d].run = none) (hm : isSettled (s.deckMode d) = false) : sampleTail false d raw w entered s =
      aborted (if isFaultMode (s.deckMode d) then .deckFault else .motion) e.fromState a s := by
  have habort : abortOnDeck d (takeGross d raw w s) =
      aborted (if isFaultMode (s.deckMode d) then .deckFault else .motion) e.fromState a s := by
    have hu := abortOnDeck_unsettled (d := d) (a := a)
      (s := s.setOrder fun u => { u with engine := some (takenCapture d w e) }) rfl ha hm
    rw [takeGross_capturing (d := d) raw w he ho, hu, (takenCapture_keeps d w e).2.2]
    rfl
  obtain ⟨x, hx⟩ : ∃ x, x =
    aborted (if isFaultMode (s.deckMode d) then .deckFault else .motion) e.fromState a s := ⟨_, rfl⟩
  have hzero : x.order.condRun = 0 := by rw [hx]; rfl
  have hengine : x.order.engine = none := by rw [hx]; rfl
  have hmode : isSettled (x.deckMode d) = false := by rw [hx]; exact hm
  have hop : x.operation = none := by rw [hx]; exact ho
  have hrun : x.metro.decks[d].run = none := by rw [hx]; exact hr
  have huse : d.val < deckCount x.legal := by rw [hx]; exact hd
  rw [← hx] at habort ⊢
  have hempty : x.deckMode d ≠ .empty := by
    intro h
    rw [h] at hmode
    cases hmode
  have hstep : captureStep false d (takeGross d raw w s) = x := by
    simp only [captureStep, habort, windowEnded, hengine]
    rfl
  have horder : orderStep false d (takeGross d raw w s) = x := by
    rw [orderStep, hstep, noticeConditions_zero hzero]
    split
    · exact testOnSample_zero hzero fun o => firstFailing_unsettled huse hmode o
    · rfl
  rw [sampleTail, horder, testCaptureStep_none hop, shuntSample_none _ hrun, schedule_notEmpty _ hempty,
    recoverMap_stays, noticeConditions_zero hzero]
  rintro ⟨-, -, hall, -⟩
  exact hempty (hall d huse)

/-! ### The whole sample -/

/-- A sample that does not end the window of a capture (R70, R71). -/
theorem exec_captureSample (hp : s.power = .running) (hd : d.val < deckCount s.legal) (he : s.order.engine = some e)
    (ha : s.order.active = some a) (hst : a.state = .capturing) (ho : s.operation = none)
    (hr : s.metro.decks[d].run = none) {b : DeckId} (hb : b.val < deckCount s.legal)
    (hshort : (takenCapture d (sampleW d conv s) e).counts[b] < e.window) :
    ∃ t, exec (.deckSample d conv) s = .next t ∧ t.visit = s.visit ∧ t.ticket = s.ticket ∧
      (isSettled (t.deckMode d) = true → t.order.active = some a ∧ t.order.condRun = s.order.condRun ∧
        t.order.engine = some (takenCapture d (sampleW d conv s) e)) ∧
      (isSettled (t.deckMode d) = false →
        t.order.engine = none ∧ t.order.active = some { a with state := e.fromState } ∧
        t.order.condRun = 0 ∧ t.order.stops = s.order.stops ∧
        ∀ q, t.orderEvents q = withEvent (.orderAborted a.order.visit a.order.kind
          (if isFaultMode (t.deckMode d) then .deckFault else .motion)) s (s.orderEvents q)) := by
  have hord := afterMonitor_order_capturing (d := d) (conv := conv) ha hst
  have hrest := afterMonitor_rest (conv := conv) hr
  have hsame := afterMonitor_orders (d := d) (conv := conv) (s := s)
  have hlegal : (afterMonitor d conv s).legal = s.legal := congrArg Prod.fst hrest.metro
  have hticket : (afterMonitor d conv s).ticket = s.ticket := congrArg (fun v => v.2.2.2.1) hrest.blocks
  have hvisit := hsame.visit
  have hclock := hsame.clock
  have hevents := hsame.events
  have hop := afterMonitor_operation (d := d) (conv := conv) ho
  have hrun := afterMonitor_run (conv := conv) hr
  refine ⟨_, exec_deckSample conv hp hd, ?_⟩
  rw [sampled_tail]
  generalize afterMonitor d conv s = m at *
  by_cases hm : isSettled (m.deckMode d) = true
  · have hw : windowEnded (m.setOrder fun u => { u with engine := some (takenCapture d (sampleW d conv s) e) }) =
        false := by
      refine windowEnded_short rfl (b := b) ?_ ?_
      · exact hlegal ▸ hb
      · rwa [(takenCapture_keeps d _ e).1]
    rw [sampleTail_counted _ _ _ (by rw [hord, he]) (by rw [hord, ha]) hst hop hrun hw hm]
    have hactive : (m.setOrder fun u =>
        { u with engine := some (takenCapture d (sampleW d conv s) e) }).order.active = some a :=
      (congrArg OrderUnit.active hord).trans ha
    obtain ⟨h1, h2, h3, h4, h5⟩ := recoverMap_capturing hactive hst
    have hn := noticeConditions_untested (testedOrder_capturing (h1.trans hactive) hst)
    rw [hn]
    have hdecks := (recoverMap_bridge (m.setOrder fun u =>
      { u with engine := some (takenCapture d (sampleW d conv s) e) })).2.1
    refine ⟨h4.trans hvisit, h5.trans hticket, fun _ => ⟨h1.trans hactive, ?_, h2⟩, fun hno => ?_⟩
    · exact h3.trans (show m.order.condRun = _ by rw [hord])
    · have hmode : (recoverMap (m.setOrder fun u =>
          { u with engine := some (takenCapture d (sampleW d conv s) e) })).drive.deckMode d = m.deckMode d :=
        congrArg (fun k : Vector Deck 4 => k[d].mode) hdecks
      rw [hmode, hm] at hno
      cases hno
  · rw [Bool.not_eq_true] at hm
    rw [sampleTail_aborted _ _ _ (hlegal ▸ hd) (by rw [hord, he]) (by rw [hord, ha]) hop hrun hm]
    refine ⟨hvisit, hticket, fun hyes => ?_, fun _ => ⟨rfl, rfl, rfl, ?_, fun q => ?_⟩⟩
    · cases hm.symm.trans hyes
    · exact show m.order.stops = _ by rw [hord]
    · have hdr := congrFun (drive_orders (aborted (if isFaultMode (m.deckMode d) then .deckFault else .motion)
        e.fromState a m)).events q
      rw [hdr, aborted, raise_orderEvents, if_pos (by rfl), withEvent, withEvent, ← hclock, ← hevents]
      rfl

end
end Sys2Proof.Machine

/-!
A sample that does not end the window of a test capture (R159), and O40 assembled.
-/

namespace Sys2Proof.Machine

section
variable {d : DeckId} {s : State} {r : Session} {o : Operation}

/-- An open session's operation is the one in flight. -/
theorem operation_of_session (hs : s.metro.session = some r) (hopen : r.isOpen = true) :
    s.operation = r.op ∧ s.sessionOpen = true := by
  constructor
  · rw [State.operation, hs]
    exact if_pos hopen
  · rw [State.sessionOpen, hs]
    exact hopen

/-- The capture of a test once a sample is taken, which may have no W. -/
def takenTest (raw : Vector Int 4) (w : Option Int) (c : TestCapture) : TestCapture :=
  match w with
  | some x => { c with
    count := c.count + 1
    sum := c.sum + x
    rawSums := vgen fun i => c.rawSums[i] + raw[i] }
  | none => c

theorem takenTest_count (raw : Vector Int 4) (w : Option Int) (c : TestCapture) :
    (takenTest raw w c).window = c.window ∧
      (takenTest raw w c).count = c.count + if w = none then 0 else 1 := by
  cases w <;> simp [takenTest]

/-- With no order capture in flight the test capture of the deck alone takes the sample. -/
theorem takeGross_test {k : OpKind} {n : Nat} {c : TestCapture} (raw : Vector Int 4) (w : Option Int)
    (hs : s.metro.session = some r) (hopen : r.isOpen = true) (hop : r.op = some ⟨k, d, n, some c⟩)
    (he : s.order.engine = none) (hc : c.count + (if w = none then 0 else 1) < c.window) :
    takeGross d raw w s = s.setMetro fun m =>
      { m with session := some { r with op := some ⟨k, d, n, some (takenTest raw w c)⟩ } } := by
  cases w with
  | none =>
    have hr : { r with op := some ⟨k, d, n, some (takenTest raw none c)⟩ } = r := by
      rw [takenTest, ← hop]
    rw [hr, State.setMetro, ← hs]
    rfl
  | some w =>
    have hlt : c.count < c.window := by simp at hc; omega
    have hon : s.testCaptureOn d = true := by
      simp [State.testCaptureOn, (operation_of_session hs hopen).1, hop]
    rw [takeGross, captureSample_none w he, testSample, if_pos hon, setSession, State.setMetro, State.setMetro, hs]
    simp [hop, addTestSample, takenTest, hlt]

/-- An operation that ends ABORTED (R159). -/
theorem abortOperation_some (c : AbortCause) (h : s.operation = some o) : abortOperation c s =
    (s.setMetro fun m => { m with session := m.session.map fun r => { r with op := none } }).raise
      (.operationEnded o.kind o.deck (.aborted c)) := by
  rw [abortOperation, h]
  rfl

theorem schedule_open (entered : Bool) (h : s.sessionOpen = true) : schedule entered d s = s := by
  refine if_neg ?_
  rintro ⟨-, hc⟩
  simp [checkDue, h] at hc

theorem recoverMap_open (h : s.sessionOpen = true) : recoverMap s = s :=
  recoverMap_stays fun ⟨_, ho, _⟩ => nomatch h.symm.trans ho

/-- What follows the monitor of a sample in an open session with a test capture of the deck that it does not end. -/
theorem sampleTail_test {k : OpKind} {n : Nat} {c : TestCapture} (raw : Vector Int 4) (w : Option Int) (entered : Bool)
    (hs : s.metro.session = some r) (hopen : r.isOpen = true) (hop : r.op = some ⟨k, d, n, some c⟩)
    (he : s.order.engine = none) (hr : s.metro.decks[d].run = none)
    (hc : c.count + (if w = none then 0 else 1) < c.window) :
    ∃ y, SameBridge y (s.setMetro fun m =>
        { m with session := some { r with op := some ⟨k, d, n, some (takenTest raw w c)⟩ } }) ∧
      sampleTail false d raw w entered s = noticeConditions (if isSettled (y.deckMode d) then y else
        abortOperation (if isFaultMode (y.deckMode d) then .deckFault else .motion) y) := by
  have hg := takeGross_test raw w hs hopen hop he hc
  obtain ⟨x, hx⟩ : ∃ x, x = s.setMetro fun m =>
    { m with session := some { r with op := some ⟨k, d, n, some (takenTest raw w c)⟩ } } := ⟨_, rfl⟩
  rw [← hx] at hg ⊢
  refine ⟨orderStep false d x, orderStep_bridge .., ?_⟩
  have hmetro : (orderStep false d x).metro = x.metro := (orderStep_bridge ..).2.2.1
  have hsess : (orderStep false d x).metro.session =
      some { r with op := some ⟨k, d, n, some (takenTest raw w c)⟩ } := by
    rw [hmetro, hx]
    rfl
  have hrun : (orderStep false d x).metro.decks[d].run = none := by
    rw [hmetro, hx]
    exact hr
  rw [sampleTail, hg]
  generalize orderStep false d x = y at *
  obtain ⟨hyop, hyopen⟩ := operation_of_session hsess hopen
  have hyon : y.testCaptureOn d = true := by simp [State.testCaptureOn, hyop]
  have hfollow : ∀ z : State, testCaptureStep false d y = z → z.sessionOpen = true → z.metro.decks[d].run = none →
      noticeConditions (recoverMap (schedule entered d (shuntSample d raw (testCaptureStep false d y)).1)) =
        noticeConditions z := by
    intro z hz hzo hzr
    rw [hz, shuntSample_none _ hzr, schedule_open _ hzo, recoverMap_open hzo]
  by_cases hm : isSettled (y.deckMode d) = true
  · rw [if_pos hm]
    refine hfollow y ?_ hyopen hrun
    have habort : abortTestCapture d y = y := if_neg (by simp [hm])
    have hend : testWindowEnded d y = false := by
      obtain ⟨hwin, hcount⟩ := takenTest_count raw w c
      simp only [testWindowEnded, hyop, hwin, hcount]
      simpa using hc
    simp only [testCaptureStep, habort, hend]
    rfl
  · rw [if_neg hm]
    refine hfollow _ ?_ ?_ ?_
    · rw [testCaptureStep_unsettled (Bool.eq_false_iff.mpr hm), abortTestCapture, if_pos ⟨hyon, by simpa using hm⟩]
    · exact (sessionOpen_of_side (abortOperation_axles ..).1).trans hyopen
    · rw [(abortOperation_keeps ..).2.2.1]
      exact hrun

/-- R159: a sample that does not end the window of a test capture is taken, or aborts it. -/
theorem exec_testSample {conv : Conversion} {k : OpKind} {n : Nat} {c : TestCapture} (hp : s.power = .running)
    (hd : d.val < deckCount s.legal) (hs : s.metro.session = some r) (hopen : r.isOpen = true)
    (hop : r.op = some ⟨k, d, n, some c⟩) (he : s.order.engine = none) (hr : s.metro.decks[d].run = none)
    (hc : c.count + (if sampleW d conv s = none then 0 else 1) < c.window) :
    ∃ t, exec (.deckSample d conv) s = .next t ∧ t.sessionOpen = true ∧
      t.metro.session.map (fun x => x.results) = some r.results ∧ t.metro.legal = s.metro.legal ∧
      t.metro.cal = s.metro.cal ∧
      (isSettled (t.deckMode d) = true →
        t.operation = some ⟨k, d, n, some (takenTest conv.raw (sampleW d conv s) c)⟩) ∧
      (isSettled (t.deckMode d) = false → t.operation = none ∧
        ∀ q, (t.portState q).events[(6 : Fin 9)].latest = some (.operationEnded k d (.aborted
          (if isFaultMode (t.deckMode d) then .deckFault else .motion)), ⟨s.clock.day, s.clock.sec⟩)) := by
  have hrest := afterMonitor_rest (conv := conv) hr
  have hmetro := hrest.metro
  simp only [Prod.mk.injEq] at hmetro
  obtain ⟨hlegal, hcal, hsession⟩ := hmetro
  have hclock := (afterMonitor_orders (d := d) (conv := conv) (s := s)).clock
  obtain ⟨y, hy, htail⟩ := sampleTail_test (s := afterMonitor d conv s) conv.raw (sampleW d conv s)
    ((sampleMonitor d conv s).notes.contains (.entered .empty)) (hsession.trans hs) hopen hop
    ((afterMonitor_noticed s d conv).engine.trans he) (afterMonitor_run hr) hc
  obtain ⟨-, -, hym, hyc, -, -, -⟩ := hy
  have hysession : y.metro.session =
      some { r with op := some ⟨k, d, n, some (takenTest conv.raw (sampleW d conv s) c)⟩ } := by
    rw [hym]
    rfl
  have hylegal : y.metro.legal = s.metro.legal := (congrArg Metrology.legal hym).trans hlegal
  have hycal : y.metro.cal = s.metro.cal := (congrArg Metrology.cal hym).trans hcal
  have hyclock : y.clock = s.clock := hyc.trans hclock
  obtain ⟨hyop, hyopen⟩ := operation_of_session hysession hopen
  refine ⟨_, exec_deckSample conv hp hd, ?_⟩
  rw [sampled_tail, htail]
  by_cases hm : isSettled (y.deckMode d) = true
  · rw [if_pos hm]
    obtain ⟨-, hnd, hnm, -⟩ := noticeConditions_bridge y
    have hmode : (noticeConditions y).drive.deckMode d = y.deckMode d := congrArg (fun k : Vector Deck 4 => k[d].mode) hnd
    have hmm : (noticeConditions y).drive.metro = y.metro := hnm
    obtain ⟨htop, htopen⟩ := operation_of_session ((congrArg Metrology.session hmm).trans hysession) hopen
    refine ⟨htopen, ?_, by rw [hmm, hylegal], by rw [hmm, hycal], fun _ => htop, fun hno => ?_⟩
    · rw [hmm, hysession]
      rfl
    · rw [hmode, hm] at hno
      cases hno
  · rw [if_neg hm, abortOperation_some _ hyop]
    obtain ⟨z, hz⟩ : ∃ z, z = (y.setMetro fun m => { m with session := m.session.map fun r => { r with op := none } }).raise
      (.operationEnded k d (.aborted (if isFaultMode (y.deckMode d) then .deckFault else .motion))) := ⟨_, rfl⟩
    have hzsession : z.metro.session = some { r with op := none } := by
      rw [hz]
      exact congrArg (Option.map fun r : Session => { r with op := none }) hysession
    have hzlegal : z.metro.legal = s.metro.legal := by rw [hz]; exact hylegal
    have hzcal : z.metro.cal = s.metro.cal := by rw [hz]; exact hycal
    have hzmode : z.deckMode d = y.deckMode d := by rw [hz]; rfl
    have hzevent : ∀ q, (z.portState q).events[(6 : Fin 9)].latest = some (.operationEnded k d (.aborted
        (if isFaultMode (z.deckMode d) then .deckFault else .motion)), ⟨s.clock.day, s.clock.sec⟩) := by
      intro q
      rw [hzmode, ← hyclock, hz, raise_event, if_pos (by rfl)]
      rfl
    rw [← hz]
    obtain ⟨-, hnd, hnm, -⟩ := noticeConditions_bridge z
    have hmode : (noticeConditions z).drive.deckMode d = z.deckMode d := congrArg (fun k : Vector Deck 4 => k[d].mode) hnd
    have hmm : (noticeConditions z).drive.metro = z.metro := hnm
    obtain ⟨htop, htopen⟩ := operation_of_session ((congrArg Metrology.session hmm).trans hzsession) hopen
    refine ⟨htopen, ?_, by rw [hmm, hzlegal], by rw [hmm, hzcal], fun hyes => ?_, fun _ => ⟨htop, fun q => ?_⟩⟩
    · rw [hmm, hzsession]
      rfl
    · rw [hmode, hzmode] at hyes
      exact absurd hyes hm
    · rw [hmode, drive_event, State.portState, noticeConditions_ports]
      exact hzevent q

end

/-- Settles O40: the tests of the conditions on deck 1's samples, their run, and the samples of a capture in flight. -/
theorem autoCaptureStarts : Obligations.AutoCaptureStarts := by
  refine ⟨fun conv g a s h hr ho he ha hauto hst hf hrun => ?starts, fun conv s hp h => ?notDue,
    fun conv a c s hp ha hf hm hn hd hz hl he ho => ?uncured, fun conv g a c s h ho he ha hf => ?atRest,
    fun d conv g a s h hr ho he ha hst => ?run, fun i a s hp ha hst hf hi => ?noticed,
    fun d conv e a s hp hd he ha hst ho hr hshort => ?capture, fun d conv r k n c s hp hd hs hopen hop he hr hc => ?test⟩
  case starts =>
    obtain ⟨hexec, hs⟩ := h.captures hr ho ⟨ha, hauto, he, hf, hrun, hst⟩
    obtain ⟨hA, hB⟩ := drive_stopped (laneSignals_capturing (s := (afterMonitor 0 conv s).setOrder fun u =>
      { u with
        engine := some ⟨s.order.window, s.axle.map.direction, a.state, vrep 4 0, vrep 4 0⟩
        active := some { a with state := .capturing }
        condRun := min 500 (s.order.condRun + 1) }) rfl rfl)
    have hrest := afterMonitor_rest (conv := conv) hr
    have hblocks := hrest.blocks
    simp only [Prod.mk.injEq] at hblocks
    obtain ⟨haxle, hcheck, hvisit, hticket, -⟩ := hblocks
    have hstops := congrArg Prod.snd hrest.orders
    refine ⟨_, hexec, exec_deckSample conv h.running h.inUse, ?_⟩
    rw [hs]
    exact ⟨rfl, rfl, rfl, hA, hB, hstops, hvisit, hticket, haxle, hcheck⟩
  case notDue =>
    rcases h with ⟨he, h⟩ | ⟨he, hd⟩
    · exact noStart_idle hp he h
    · exact noStart_capturing hp he hd
  case uncured =>
    obtain ⟨before, after, -, -, hc⟩ := firstFailing_some.mp hf
    have hfail := afterMonitor_fails (d := 0) (conv := conv) (Bool.eq_false_iff.mpr hc) hm hn hd hz hl
    have hne : firstFailing (afterMonitor 0 conv s) a.order ≠ none := by
      intro hnone
      have hmem : c ∈ conditionOrder := by
        obtain ⟨before, after, h, -⟩ := firstFailing_some.mp hf
        rw [h]
        simp
      cases hfail.symm.trans (firstFailing_none.mp hnone c hmem)
    obtain ⟨c', hc'⟩ := Option.ne_none_iff_exists'.mp hne
    exact noStart_failing hp ha he ho hc'
  case atRest =>
    exact noStart_failing h.running ha he ho ((h.afterMonitor_firstFailing _).trans hf)
  case run =>
    intro starts
    refine ⟨_, exec_deckSample conv h.running h.inUse, fun hf hn => ?_, fun hf hd => ?_⟩
    · have hn' : d ≠ 0 ∨ ¬∃ b, Starts s b := by
        refine hn.imp_right fun hno ⟨b, hb, hauto, _, _, hrun, hbst⟩ => hno ?_
        cases ha.symm.trans hb
        exact ⟨hauto, hbst.imp_right And.right, hrun⟩
      have hord := h.afterMonitor_order
      rw [h.counts hr ho he ha hst hf hn']
      generalize afterMonitor d conv s = m at hord
      exact ⟨(congrArg OrderUnit.active hord).trans ha, (congrArg OrderUnit.engine hord).trans he, rfl⟩
    · subst hd
      exact h.resets hr ho he ha hst hf
  case noticed =>
    obtain ⟨t, ht, hn⟩ := exec_runNoticed hp (.of_met ha hf) hi
    refine ⟨t, ht, fun b hb hbst hbf => hn b.order ?_ hbf⟩
    rw [testedOrder_active hb, if_pos hbst]
  case capture =>
    obtain ⟨b, hb, hbc⟩ := hshort
    obtain ⟨t, ht, hvisit, hticket, hyes, hno⟩ := exec_captureSample hp hd he ha hst ho hr hb
      ((takenCapture_get d b (sampleW d conv s) e).1.trans_lt hbc)
    refine ⟨t, ht, hvisit, hticket, fun hm => ?_, hno⟩
    obtain ⟨hactive, hrun, hengine⟩ := hyes hm
    obtain ⟨hwin, hdir, hfrom⟩ := takenCapture_keeps d (sampleW d conv s) e
    exact ⟨hactive, hrun, _, hengine, hwin, hdir, hfrom, fun b => takenCapture_get d b _ e⟩
  case test => exact exec_testSample hp hd hs hopen hop he hr hc

end Sys2Proof.Machine

/-!
The sample that ends the window of an order capture: what its deck's part leaves of all that the completion reads, and
what follows the completion in the same handling (R70).
-/

namespace Sys2Proof.Machine

/-! ### No ZERO_LIMIT while a capture is in flight (R40) -/

/-- No note reports the zero limit. -/
def NoLimit (x : Monitor) : Prop := .zero .zeroLimit ∉ x.notes

section
variable {p : LegalParams} {d : DeckId} {x : Monitor}

theorem NoLimit.mod (h : NoLimit x) (f : Deck → Deck) : NoLimit (x.mod f) := h

theorem NoLimit.note {n : DeckNote} (h : NoLimit x) (hn : n ≠ .zero .zeroLimit) : NoLimit (x.note n) := by
  simpa [NoLimit, Monitor.note, hn.symm] using h

theorem NoLimit.enter (h : NoLimit x) (m : DeckMode) : NoLimit (x.enter m) :=
  NoLimit.note (h.mod _) nofun

theorem NoLimit.reclassify (h : NoLimit x) : NoLimit (reclassify p x) := by
  unfold Machine.reclassify
  split
  · exact h.enter _
  · exact h

theorem NoLimit.bandTest (g : Int) (h : NoLimit x) : NoLimit (bandTest p g x) := by
  unfold Machine.bandTest
  dsimp only
  split
  · exact (h.mod _).enter _
  · exact h.mod _

theorem NoLimit.settleTest (h : NoLimit x) : NoLimit (settleTest p x) := by
  unfold Machine.settleTest
  dsimp only
  split
  · exact (h.mod _).enter _
  · exact h

theorem NoLimit.classifyValid (g w : Int) (h : NoLimit x) : NoLimit (classifyValid p d g w x) := by
  unfold Machine.classifyValid
  dsimp only
  split
  · split
    · exact h.enter _
    · exact h
  · split
    · exact h.mod _
    · exact (h.mod _).enter _
  · split
    · exact h.mod _
    · exact (h.mod _).enter _
  · split
    · exact ((h.mod _).mod _).enter _
    · split
      · exact ((h.mod _).mod _).enter _
      · split
        · exact (h.mod _).bandTest g
        · exact (h.mod _).settleTest

theorem NoLimit.powerUpZero (clear : Bool) (h : NoLimit x) : NoLimit (powerUpZero p d clear x) := by
  unfold Machine.powerUpZero
  dsimp only
  split
  · split
    · exact ((h.mod _).note (by nofun)).reclassify
    · exact (h.mod _).note (by nofun)
  · exact h

theorem NoLimit.pendingZeroTest (clear capturing : Bool) (h : NoLimit x) :
    NoLimit (pendingZeroTest p d clear capturing x) := by
  unfold Machine.pendingZeroTest countDeadline
  dsimp only
  split
  · split
    · exact ((h.mod _).note (by nofun)).reclassify
    · exact (h.mod _).note (by nofun)
  · split
    · exact h
    · split
      · exact (h.mod _).note (by nofun)
      · exact h.mod _

end

section
variable {d : DeckId} {conv : Conversion} {s : State} {e : OrderCapture} {g : Int}

/-- A capture in flight keeps the zero from being tracked, and so from its limit (R39, R40). -/
theorem sampleMonitor_noLimit (hr : recordOf s.legal d s.front[d] conv = .valid g) (hh : s.decks[d].hold = false)
    (he : s.order.engine = some e) : NoLimit (sampleMonitor d conv s) := by
  have hb : (surroundings s d).busyHere = true := by simp [surroundings, State.orderCapture, he]
  have h0 : NoLimit (beforeTracking s.legal d (surroundings s d) g s.decks[d]) := by
    rw [beforeTracking_eq]
    refine NoLimit.pendingZeroTest _ _ (NoLimit.powerUpZero _ ?_)
    exact NoLimit.classifyValid g _ (NoLimit.mod (x := .of s.decks[d]) nofun _)
  obtain ⟨n, hn⟩ := trackZero_counts (p := s.legal) (d := d) (clear := (surroundings s d).clear) (g := g)
    (w := g - s.decks[d].zeroOffset) (x := beforeTracking s.legal d (surroundings s d) g s.decks[d])
    (busy := true) (.inr (by simp [qualifies]))
  rw [sampleMonitor_valid hr hh, hb, hn]
  exact h0.mod _

/-! ### What the completion reads -/

/-- From `s` to `t` stand the blocks and events beside the decks' states and the order queue. -/
structure SameBooks (t s : State) : Prop where
  axle : t.axle = s.axle
  check : t.check = s.check
  visit : t.visit = s.visit
  ticket : t.ticket = s.ticket
  watch : t.watch = s.watch
  clock : t.clock = s.clock
  legal : t.metro.legal = s.metro.legal
  cal : t.metro.cal = s.metro.cal
  switch : t.metro.switch = s.metro.switch
  status : t.deckStatus = s.deckStatus
  events : ∀ (q : Port) (k : Fin 9), k ≠ 0 → (t.portState q).events[k] = (s.portState q).events[k]

theorem applyMonitor_event {x : Monitor} (h : NoLimit x) (s : State) (q : Port) {k : Fin 9} (hk : k ≠ 0) :
    ((applyMonitor d x s).portState q).events[k] = (s.portState q).events[k] := by
  have hf : ∀ (l : List DeckNote) (s : State), .zero .zeroLimit ∉ l →
      ((l.foldl (handleNote d) s).portState q).events[k] = (s.portState q).events[k] := by
    intro l
    induction l with
    | nil => exact fun s _ => rfl
    | cons n l ih =>
      intro s hl
      rw [List.mem_cons, not_or] at hl
      refine (ih (handleNote d s n) hl.2).trans ?_
      rcases handleNote_cases s d n (Ne.symm hl.1) with hc | ⟨c, hc, he⟩
      · rw [hc]
      · rw [he, raise_event, if_neg (by rw [hc]; exact hk.symm)]
  exact hf x.notes _ h

theorem EndsWindow.books {a : ActiveOrder} (h : EndsWindow d conv g e a s) : SameBooks (afterMonitor d conv s) s := by
  have hn := sampleMonitor_noLimit h.record h.unheld h.engine
  have hv : recordOf s.legal d s.front[d] conv ≠ .invalid := by rw [h.record]; nofun
  have hb := (afterMonitor_rest (conv := conv) h.noRun).blocks
  simp only [Prod.mk.injEq] at hb
  obtain ⟨haxle, hcheck, hvisit, hticket, hwatch, hclock⟩ := hb
  obtain ⟨hm, hs, -⟩ := applyMonitor_quiet (sampleHead d conv s) d (sampleMonitor d conv s) hn
  have hhead : (sampleHead d conv s).metro = s.metro := by rw [sampleHead_notInvalid hv]; rfl
  rw [hhead] at hm
  refine ⟨haxle, hcheck, hvisit, hticket, hwatch, hclock, ?_, ?_, ?_, ?_, fun q k hk => ?_⟩
  · rw [afterMonitor, hm]
  · rw [afterMonitor, hm]
  · rw [afterMonitor, hm]
  · rw [afterMonitor, hs, sampleHead_notInvalid hv]
    rfl
  · rw [afterMonitor, applyMonitor_event hn _ q hk, sampleHead_notInvalid hv]
    rfl

theorem EndsWindow.order {a : ActiveOrder} (h : EndsWindow d conv g e a s) :
    (afterMonitor d conv s).order = s.order :=
  afterMonitor_order_capturing h.active h.capturing

theorem SameBooks.setOrder {t : State} (h : SameBooks t s) (f : OrderUnit → OrderUnit) : SameBooks (t.setOrder f) s :=
  ⟨h.axle, h.check, h.visit, h.ticket, h.watch, h.clock, h.legal, h.cal, h.switch, h.status, h.events⟩

/-! ### The completed capture -/

/-- W is that of the record. -/
theorem EndsWindow.gross {a : ActiveOrder} (h : EndsWindow d conv g e a s) :
    sampleW d conv s = some (g - s.decks[d].zeroOffset) := by
  simp only [sampleW, h.record, h.unheld]
  rfl

/-- The capture with its last sample. -/
def lastTaken (d : DeckId) (g : Int) (e : OrderCapture) (s : State) : OrderCapture :=
  takenCapture d (some (g - s.decks[d].zeroOffset)) e

theorem EndsWindow.endGross_eq {a : ActiveOrder} (h : EndsWindow d conv g e a s) (b : DeckId) :
    capturedGross (lastTaken d g e s) b = endGross d g e s b := by
  obtain ⟨-, hs⟩ := takenCapture_get d b (some (g - s.decks[d].zeroOffset)) e
  have hl := h.last
  rw [Machine.capturedGross, lastTaken, (takenCapture_keeps d _ e).1, hs, endGross]
  by_cases hb : b = d
  · subst hb
    rw [if_pos ⟨rfl, nofun, by omega⟩, if_pos rfl]
    rfl
  · rw [if_neg (fun hc => hb hc.1), if_neg hb]

theorem EndsWindow.ended {a : ActiveOrder} (h : EndsWindow d conv g e a s) {t : State}
    (he : t.order.engine = some (lastTaken d g e s)) (hl : t.metro.legal = s.metro.legal) :
    windowEnded t = true := by
  rw [windowEnded, he, all_inUse]
  intro b hb
  rw [State.legal, hl] at hb
  refine decide_eq_true ?_
  rw [lastTaken, (takenCapture_keeps d _ e).1, (takenCapture_get d b _ e).1]
  have hlast := h.last
  by_cases hbd : b = d
  · subst hbd
    rw [if_pos ⟨rfl, nofun, by omega⟩]
    omega
  · rw [if_neg fun hc => hbd hc.1]
    exact h.others b hbd hb

/-! ### What follows the completion -/

/-- The condition test that follows the completion of a capture. -/
def orderTest (d : DeckId) (s : State) : State :=
  if d = 0 then (testOnSample (noticeConditions s)).1 else noticeConditions s

/-- With nothing else in flight under a VALID map, what follows the completion in the same handling. -/
def afterCompletion (entered : Bool) (d : DeckId) (s : State) : State :=
  (noticeConditions (schedule entered d (orderTest d s))).drive

theorem orderTest_eq (d : DeckId) (s : State) :
    orderTest d s = if d = 0 then (testOnSample (noticeConditions s)).1 else noticeConditions s := rfl

theorem orderTest_rest (b d : DeckId) (s : State) : RestStands d s (orderTest b s) := by
  rw [orderTest_eq]
  split
  · exact (RestStands.noticeConditions d s).trans (.testOnSample d _)
  · exact .noticeConditions d s

theorem takenEnd {a : ActiveOrder} (h : EndsWindow d conv g e a s) :
    takeGross d conv.raw (sampleW d conv s) (afterMonitor d conv s) =
      (afterMonitor d conv s).setOrder fun u => { u with engine := some (lastTaken d g e s) } := by
  rw [takeGross_capturing _ _ (by rw [h.order, h.engine]) (afterMonitor_operation h.noOperation), h.gross]
  rfl

/-- CAPTURE_WINDOW_END is the sample that ends the window, its end taken before an abort. -/
theorem EndsWindow.exec {a : ActiveOrder} (h : EndsWindow d conv g e a s) {x : State}
    (hx : completeCapture ((afterMonitor d conv s).setOrder fun u => { u with engine := some (lastTaken d g e s) }) = x)
    (he : x.order.engine = none) : exec (.captureWindowEnd d conv) s =
      .next (afterCompletion ((sampleMonitor d conv s).notes.contains (.entered .empty)) d x) := by
  have hu : deckInUse s.legal d = true := by simpa [deckInUse] using h.inUse
  have hend : windowEnded ((afterMonitor d conv s).setOrder fun u =>
      { u with engine := some (lastTaken d g e s) }) = true := h.ended rfl h.books.legal
  have hn : (sampleWhole true d conv s).2.windowEnd = true := by
    have hw : (sampleWhole true d conv s).2.windowEnd = windowEndTaken true d
        (takeGross d conv.raw (sampleGross (recordOf s.legal d s.front[d] conv) (sampleHead d conv s).decks[d])
          (afterMonitor d conv s)) := rfl
    rw [hw, sampleGross_eq, takenEnd h, windowEndTaken, hend]
    rfl
  have hmetro : x.metro = (afterMonitor d conv s).metro := by
    rw [← hx]
    exact (completeCapture_bridge _).2.2.1
  have hvalid : x.axle.map.valid = true := by
    have hs := congrArg (fun v => v.1.map.valid) (completeCapture_axleSide
      ((afterMonitor d conv s).setOrder fun u => { u with engine := some (lastTaken d g e s) }))
    rw [hx] at hs
    exact hs.trans ((congrArg (·.map.valid) h.books.axle).trans h.mapValid)
  have hop : x.operation = none := by
    rw [State.operation, hmetro]
    exact afterMonitor_operation h.noOperation
  have hrun : x.metro.decks[d].run = none := by
    rw [hmetro]
    exact afterMonitor_run h.noRun
  have hstep : captureStep true d ((afterMonitor d conv s).setOrder fun u =>
      { u with engine := some (lastTaken d g e s) }) = x := by
    simp only [captureStep, hend, if_true, hx]
    exact if_neg (by simp [State.orderCapture, he])
  have horder : orderStep true d (takeGross d conv.raw (sampleW d conv s) (afterMonitor d conv s)) = orderTest d x := by
    rw [takenEnd h, orderStep, hstep]
    rfl
  have hrest := orderTest_rest d d x
  have hrun' : (orderTest d x).metro.decks[d].run = none := by
    have hb : (orderTest d x).metro = x.metro := by
      rw [← horder]
      exact (orderStep_bridge ..).2.2.1.trans (by rw [takenEnd h]; exact hmetro.symm)
    rw [hb, hrun]
  show runCommand (takeSampleIf true (·.windowEnd) d conv) s = _
  rw [runCommand_running h.running, takeSampleIf, if_pos hu]
  simp only [hn, if_true]
  rw [sampleWhole_fst, sampleGross_eq, sampleTail, horder, testCaptureStep_none (hrest.operation.trans hop),
    shuntSample_none _ hrun', afterCompletion, recoverMap_valid]
  rw [((hrest.trans (.schedule d _ _)).axle)]
  exact hvalid

/-- Without a capture in flight no window ends. -/
theorem exec_captureWindowEnd_idle (hp : s.power = .running) (he : s.order.engine = none) :
    exec (.captureWindowEnd d conv) s = .next s.drive := by
  have hn : (sampleWhole true d conv s).2.windowEnd = false := by
    have hw : (sampleWhole true d conv s).2.windowEnd = windowEndTaken true d
        (takeGross d conv.raw (sampleGross (recordOf s.legal d s.front[d] conv) (sampleHead d conv s).decks[d])
          (afterMonitor d conv s)) := rfl
    have hg := takeGross_engine (d := d) ((afterMonitor_noticed s d conv).engine.trans he) conv.raw
      (sampleGross (recordOf s.legal d s.front[d] conv) (sampleHead d conv s).decks[d])
    rw [hw, windowEndTaken, windowEnded, hg]
    rfl
  show runCommand (takeSampleIf true (·.windowEnd) d conv) s = _
  rw [runCommand_running hp, takeSampleIf]
  simp only [hn]
  split <;> rfl

end
end Sys2Proof.Machine

/-!
The results of a window end: the limits and the verification (R72, R73), the stop (R74), the orders given back, and what
the rest of the sample leaves of them.
-/

namespace Sys2Proof.Machine

/-! ### The rest of the sample -/

/-- From `x` to `t` stand the blocks, the stops and the events, and the order stands or is captured anew by deck 1's
test of the conditions (R67). -/
structure AfterCompletion (d : DeckId) (x t : State) : Prop where
  blocks : (t.axle, t.check, t.visit, t.ticket, t.watch, t.clock) =
    (x.axle, x.check, x.visit, x.ticket, x.watch, x.clock)
  stops : t.order.stops = x.order.stops
  crossingSince : t.order.crossingSince = x.order.crossingSince
  events : ∀ (q : Port) (k : Fin 9), (t.portState q).events[k] = (x.portState q).events[k]
  order : (t.order.engine = none ∧ t.order.active = x.order.active ∧
      (d ≠ 0 → t.order.condRun ≤ x.order.condRun)) ∨
    (d = 0 ∧ ∃ b, x.order.active = some b ∧ b.order.auto = true ∧
      x.order.delay ≤ min 500 (x.order.condRun + 1) ∧
      (b.state = .waiting ∨ (b.state = .surveying ∧ x.order.crossingSince = true)) ∧
      t.order.engine = some ⟨x.order.window, x.axle.map.direction, b.state, vrep 4 0, vrep 4 0⟩ ∧
      t.order.active = some { b with state := .capturing })

section
variable {d : DeckId} {x : State} {a : ActiveOrder}

theorem testOnSample_ports (s : State) : (testOnSample s).1.ports = s.ports := by
  unfold testOnSample startCapture
  dsimp only
  split
  · split
    · split <;> rfl
    · rfl
  · rfl

theorem orderTest_ports (d : DeckId) (s : State) : (orderTest d s).ports = s.ports := by
  rw [orderTest_eq]
  split
  · rw [testOnSample_ports, noticeConditions_ports]
  · rw [noticeConditions_ports]

/-- The test captures an order that is due, or leaves all of the order unit but the run. -/
theorem orderTest_cases (d : DeckId) (s : State) : (∃ b, d = 0 ∧ Starts (noticeConditions s) b ∧
      orderTest d s = (testOnSample (noticeConditions s)).1) ∨
    (∃ n, (orderTest d s).order = { s.order with condRun := n } ∧ (d ≠ 0 → n ≤ s.order.condRun)) := by
  have hn := noticeConditions_noticed s
  have hk : ∀ t : State, Noticed s t → ∃ n, t.order = { s.order with condRun := n } ∧ n ≤ s.order.condRun := by
    rintro t (h | ⟨-, h⟩)
    · exact ⟨s.order.condRun, h, le_rfl⟩
    · exact ⟨0, h, Nat.zero_le _⟩
  obtain ⟨n, ho, hle⟩ := hk _ hn
  rw [orderTest_eq]
  by_cases hd : d = 0
  · rw [if_pos hd]
    by_cases hS : ∃ b, Starts (noticeConditions s) b
    · obtain ⟨b, hb⟩ := hS
      exact .inl ⟨b, hd, hb, rfl⟩
    · refine .inr ?_
      cases ht : testedOrder (noticeConditions s) with
      | none => exact ⟨n, by rw [testOnSample_none ht, ho], fun h => absurd hd h⟩
      | some o =>
        refine ⟨(countTest (noticeConditions s)).order.condRun, ?_, fun h => absurd hd h⟩
        rw [testOnSample_counts ht hS]
        simp only [countTest, State.setOrder_order, ho]
  · rw [if_neg hd]
    exact .inr ⟨n, ho, fun _ => hle⟩

theorem schedule_order (entered : Bool) (d : DeckId) (s : State) : (schedule entered d s).order = s.order ∧
    (schedule entered d s).ports = s.ports := by
  unfold schedule
  split <;> exact ⟨rfl, rfl⟩

theorem afterCompletion_stands (entered : Bool) (d : DeckId) (he : x.order.engine = none) :
    AfterCompletion d x (afterCompletion entered d x) := by
  have hrest := (((orderTest_rest d d x).trans (.schedule d _ entered)).trans (.noticeConditions d _)).trans (.drive d _)
  have hports : (noticeConditions (schedule entered d (orderTest d x))).ports = x.ports := by
    rw [noticeConditions_ports, (schedule_order ..).2, orderTest_ports]
  have hn := noticeConditions_noticed (schedule entered d (orderTest d x))
  have hS : ∀ b, (schedule entered d (orderTest d x)).order = (orderTest d x).order → d = 0 →
      Starts (noticeConditions x) b → orderTest d x = (testOnSample (noticeConditions x)).1 →
      (noticeConditions (schedule entered d (orderTest d x))).order.crossingSince = x.order.crossingSince ∧
      x.order.active = some b ∧ b.order.auto = true ∧ x.order.delay ≤ min 500 (x.order.condRun + 1) ∧
      (b.state = .waiting ∨ (b.state = .surveying ∧ x.order.crossingSince = true)) ∧
      (noticeConditions (schedule entered d (orderTest d x))).order.engine =
        some ⟨x.order.window, x.axle.map.direction, b.state, vrep 4 0, vrep 4 0⟩ ∧
      (noticeConditions (schedule entered d (orderTest d x))).order.active = some { b with state := .capturing } := by
    intro b hso hd hb hot
    obtain ⟨ha, hauto, hrun, hst⟩ := hb.of_noticed (noticeConditions_noticed x)
    have hax : (noticeConditions x).axle = x.axle := (RestStands.noticeConditions d x).axle
    have hto := hb.testOnSample
    rw [(noticeConditions_noticed x).window, hax] at hto
    rw [hn.crossingSince, hn.engine, hn.active, hso, hot, hto]
    exact ⟨(noticeConditions_noticed x).crossingSince, ha, hauto, hrun, hst, rfl, rfl⟩
  have hso := (schedule_order entered d (orderTest d x)).1
  refine ⟨hrest.blocks, congrArg Prod.snd hrest.orders, ?_, fun q k => ?_, ?_⟩
  · rcases orderTest_cases d x with ⟨b, hd, hb, hot⟩ | ⟨n, ho, -⟩
    · exact (hS b hso hd hb hot).1
    · refine hn.crossingSince.trans ?_
      rw [hso, ho]
  · rw [afterCompletion, drive_event, State.portState, hports]
    rfl
  · rcases orderTest_cases d x with ⟨b, hd, hb, hot⟩ | ⟨n, ho, hle⟩
    · exact .inr ⟨hd, b, (hS b hso hd hb hot).2⟩
    · refine .inl ⟨hn.engine.trans ?_, hn.active.trans ?_, fun hd => ?_⟩
      · rw [hso, ho, he]
      · rw [hso, ho]
      · refine hn.condRun_le.trans ?_
        rw [hso, ho]
        exact hle hd

/-- An order that is not tested, or whose survey has had no crossing, is not captured anew. -/
theorem AfterCompletion.stays {t : State} (h : AfterCompletion d x t) (hx : ∀ b, x.order.active = some b →
    b.state ≠ .waiting ∧ (b.state ≠ .surveying ∨ x.order.crossingSince = false)) :
    t.order.engine = none ∧ t.order.active = x.order.active := by
  rcases h.order with ⟨he, ha, -⟩ | ⟨-, b, hb, -, -, hst, -⟩
  · exact ⟨he, ha⟩
  · obtain ⟨hw, hs⟩ := hx b hb
    rcases hst with hst | ⟨hst, hc⟩
    · exact absurd hst hw
    · rcases hs with hs | hs
      · exact absurd hst hs
      · exact nomatch hs.symm.trans hc

/-- An order given back with a run of 0. -/
theorem AfterCompletion.givenBack {e : OrderCapture} {s t : State} (h : AfterCompletion d x t)
    (ha : x.order.active = some { a with state := e.fromState }) (hr : x.order.condRun = 0)
    (hset : x.captureSettings = s.captureSettings) (hax : x.axle = s.axle) :
    GivenBack d e a s t ∧ (d ≠ 0 → t.order.condRun = 0) := by
  simp only [State.captureSettings, Prod.mk.injEq] at hset
  obtain ⟨hwin, hdel⟩ := hset
  rcases h.order with ⟨he, hta, hrun⟩ | ⟨hd, b, hb, hauto, hdelay, -, he, hta⟩
  · exact ⟨.inl ⟨he, hta.trans ha⟩, fun hd => by have := hrun hd; omega⟩
  · cases hb.symm.trans ha
    refine ⟨.inr ⟨hd, hauto, by omega, ?_, hta⟩, fun hno => absurd hd hno⟩
    rw [he, hwin, hax]

end

/-! ### The limits and the verification (R72, R73) -/

section
variable {d : DeckId} {conv : Conversion} {g : Int} {e : OrderCapture} {a : ActiveOrder} {s m : State}

theorem someDeck_eq (hl : m.metro.legal = s.metro.legal) (hs : m.deckStatus = s.deckStatus) (v : VStatus) :
    (m.inUse.any fun b => m.deckStatus b = v) = someDeck s v := by
  refine Bool.eq_iff_iff.mpr ?_
  simp only [List.any_eq_true, mem_inUse, decide_eq_true_eq, hs, State.legal, hl]
  exact ⟨decide_eq_true, of_decide_eq_true⟩

theorem EndsWindow.vehicleMass (h : EndsWindow d conv g e a s) (hl : m.metro.legal = s.metro.legal) :
    vehicleMass (lastTaken d g e s) m.inUse = endMass d g e s := by
  have hu : m.inUse = (List.finRange 4).filter fun b => b.val < deckCount s.legal := by
    simp only [State.inUse, decksInUse, State.legal, hl]
    rfl
  rw [Machine.vehicleMass, endMass, hu, funext fun b => h.endGross_eq b]

theorem EndsWindow.captureFailure (h : EndsWindow d conv g e a s) (hm : SameBooks m s) (k : OrderKind) :
    captureFailure (lastTaken d g e s) k m =
      if (s.legal.capacity + 9 * s.legal.interval) * 1000 < endMass d g e s then some .over
      else if endMass d g e s < -(20 * s.legal.interval * 1000) then some .under
      else if k ≠ .check ∧ (s.metro.switch = .opened ∨
        ∃ b : DeckId, b.val < deckCount s.legal ∧ s.deckStatus b = .unverified) then some .refusedUnverified
      else none := by
  have hu : refusedUnverified m = true ↔ s.metro.switch = .opened ∨
      ∃ b : DeckId, b.val < deckCount s.legal ∧ s.deckStatus b = .unverified := by
    rw [refusedUnverified, someDeck_eq hm.legal hm.status]
    simp only [Bool.or_eq_true, decide_eq_true_eq, someDeck, hm.switch]
  have hunder : underLimit m.legal = -(20 * s.legal.interval * 1000) := by
    rw [underLimit, State.legal, hm.legal]
    exact Int.neg_mul ..
  have hover : overLimit m.legal = (s.legal.capacity + 9 * s.legal.interval) * 1000 := by
    rw [overLimit, State.legal, hm.legal]
    rfl
  simp only [Machine.captureFailure, h.vehicleMass hm.legal, hunder, hover, hu, isTrade, decide_eq_true_eq]

/-- The state in which a capture's result is worked out: the engine is idle. -/
def engineIdle (s : State) : State := s.setOrder fun u => { u with engine := none }

theorem EndsWindow.idleBooks (h : EndsWindow d conv g e a s) : SameBooks (engineIdle (afterMonitor d conv s)) s :=
  h.books.setOrder _

theorem EndsWindow.idleOrder (h : EndsWindow d conv g e a s) :
    (engineIdle (afterMonitor d conv s)).order = { s.order with engine := none } := by
  rw [engineIdle, State.setOrder_order, h.order]

theorem EndsWindow.completes (h : EndsWindow d conv g e a s) :
    completeCapture ((afterMonitor d conv s).setOrder fun u => { u with engine := some (lastTaken d g e s) }) =
      match Machine.captureFailure (lastTaken d g e s) a.order.kind (engineIdle (afterMonitor d conv s)) with
      | some c => returnOrder (lastTaken d g e s) c (engineIdle (afterMonitor d conv s))
      | none => completeStop (lastTaken d g e s) a.order (engineIdle (afterMonitor d conv s)) := by
  have ha : ((afterMonitor d conv s).setOrder fun u =>
      { u with engine := some (lastTaken d g e s) }).order.active = some a :=
    (congrArg OrderUnit.active h.order).trans h.active
  have he : ((afterMonitor d conv s).setOrder fun u =>
      { u with engine := some (lastTaken d g e s) }).order.engine = some (lastTaken d g e s) := rfl
  simp only [completeCapture, he, ha]
  rfl

theorem lastTaken_fromState (d : DeckId) (g : Int) (e : OrderCapture) (s : State) :
    (lastTaken d g e s).fromState = e.fromState ∧ (lastTaken d g e s).direction = e.direction :=
  ⟨(takenCapture_keeps ..).2.2, (takenCapture_keeps ..).2.1⟩

/-- A result that gives no stop: the order is given back (R72, R73). -/
theorem EndsWindow.returns (h : EndsWindow d conv g e a s) {c : NotCompleted}
    (hc : Machine.captureFailure (lastTaken d g e s) a.order.kind (engineIdle (afterMonitor d conv s)) = some c) :
    ∃ t, Machine.exec (.captureWindowEnd d conv) s = .next t ∧ GivenBack d e a s t ∧
      (d ≠ 0 → t.order.condRun = 0) ∧ t.order.stops = s.order.stops ∧ t.visit = s.visit ∧ t.ticket = s.ticket ∧
      t.check = s.check ∧ ∀ q, (t.portState q).events[(2 : Fin 9)].latest =
        some (.orderNotCompleted a.order.visit a.order.kind c, ⟨s.clock.day, s.clock.sec⟩) := by
  have hb := h.idleBooks
  have ho := h.idleOrder
  have hx : completeCapture ((afterMonitor d conv s).setOrder fun u => { u with engine := some (lastTaken d g e s) }) =
      returnOrder (lastTaken d g e s) c (engineIdle (afterMonitor d conv s)) := by
    rw [h.completes, hc]
  generalize engineIdle (afterMonitor d conv s) = m at hb ho hx
  have ha : m.order.active = some a := by rw [ho]; exact h.active
  have hr := returnOrder_some (lastTaken d g e s) c ha
  rw [(lastTaken_fromState d g e s).1] at hr
  have hA := afterCompletion_stands (x := returnOrder (lastTaken d g e s) c m)
    ((sampleMonitor d conv s).notes.contains (.entered .empty)) d (by rw [hr]; exact congrArg OrderUnit.engine ho)
  have hE := h.exec hx (by rw [hr]; exact congrArg OrderUnit.engine ho)
  generalize afterCompletion _ d (returnOrder (lastTaken d g e s) c m) = t at hA hE
  rw [hr] at hA
  obtain ⟨hback, hrun⟩ := hA.givenBack (s := s) (a := a) (e := e) rfl rfl
    (by simp only [State.captureSettings, State.raise_order, State.setOrder_order, ho]) hb.axle
  have hblocks := hA.blocks
  simp only [Prod.mk.injEq] at hblocks
  obtain ⟨-, hcheck, hvisit, hticket, -⟩ := hblocks
  refine ⟨t, hE, hback, hrun, hA.stops.trans (show m.order.stops = _ by rw [ho]), hvisit.trans hb.visit,
    hticket.trans hb.ticket, hcheck.trans hb.check, fun q => ?_⟩
  rw [hA.events, raise_event, if_pos (by rfl), ← hb.clock]
  rfl

/-! ### The stop (R74) -/

theorem EndsWindow.stop (h : EndsWindow d conv g e a s) (hm : SameBooks m s) (k : OrderKind) :
    stopOf (lastTaken d g e s) k m = endStop d g e (if k = .axleSurvey then none
      else some (roundDiv (endMass d g e s) (s.legal.interval * 1000) * s.legal.interval)) s := by
  have hd : ∀ b : DeckId, (if deckInUse m.legal b then
      some (indicated m.legal (Machine.capturedGross (lastTaken d g e s) b), axleRange m.axle.map b) else none) =
      if b.val < deckCount s.legal then
        some (roundDiv (endGross d g e s b) (s.legal.interval * 1000) * s.legal.interval, axleRange s.axle.map b)
      else none := by
    intro b
    have hu : deckInUse m.legal b = decide (b.val < deckCount s.legal) := by
      rw [deckInUse, State.legal, hm.legal]
      rfl
    by_cases hb : b.val < deckCount s.legal
    · rw [hu, if_pos (decide_eq_true hb), if_pos hb, indicated, h.endGross_eq, hm.axle, State.legal, hm.legal]
      rfl
    · rw [hu, if_neg (by simpa using hb), if_neg hb]
  have hw : (if isWholeVehicle k then some (indicated m.legal (Machine.vehicleMass (lastTaken d g e s) m.inUse))
      else none) = if k = .axleSurvey then none
        else some (roundDiv (endMass d g e s) (s.legal.interval * 1000) * s.legal.interval) := by
    rw [h.vehicleMass hm.legal, indicated, State.legal, hm.legal]
    by_cases hk : k = .axleSurvey
    · simp [hk, isWholeVehicle]
    · simp [hk, isWholeVehicle, State.legal]
  rw [stopOf, endStop, hw]
  simp only [hd]

/-- A stop is appended and judged, or a fifth is not handed on. -/
theorem takeStop_eq (o : Order) (st : Stop) (s : State) : takeStop o st s =
    (s.setCheck fun k => { k with table := tableAfter o st s }).setOrder fun u =>
      { u with stops := stopsAfter st s } := by
  by_cases h : s.order.stops.length < 4
  · rw [takeStop, if_neg (by omega), tableAfter, if_pos h, stopsAfter, if_pos h]
    rfl
  · rw [takeStop, if_pos (by omega), tableAfter, if_neg h, stopsAfter, if_neg h]
    rfl

/-- The stop's table and list read the books and the stops alone. -/
theorem tableAfter_congr (hm : SameBooks m s) (ho : m.order.stops = s.order.stops) (o : Order) (st : Stop) :
    tableAfter o st m = tableAfter o st s ∧ stopsAfter st m = stopsAfter st s := by
  have hc := orderClass_congr hm.visit hm.check o
  constructor
  · simp only [tableAfter, ho, hm.check, hc, State.legal, hm.legal]
  · simp only [stopsAfter, ho]

end
end Sys2Proof.Machine

/-!
Stops, slips and surveys at the window end (R74, R76, R77), and O43 assembled.
-/

namespace Sys2Proof.Machine

/-! ### Slips (R126) -/

/-- The PRINT category of each port's event set. -/
def State.printEvents (s : State) (q : Port) : EventCell := (s.portState q).events[(4 : Fin 9)]

theorem PrintReports.none {s t : State} (h : ∀ q, t.printEvents q = s.printEvents q) : PrintReports [] s t := h

theorem PrintReports.one {s t : State} {c : Cause} (h : ∀ q, t.printEvents q = withEvent c s (s.printEvents q)) :
    PrintReports [c] s t := h

theorem raise_printEvents (s : State) (c : Cause) (q : Port) : (s.raise c).printEvents q =
    if categoryOf c = 4 then withEvent c s (s.printEvents q) else s.printEvents q :=
  raise_event s c q 4

theorem lineOf_setLine (f : PrinterLine → PrinterLine) (e other : BridgeEnd) (u : TicketUnit) :
    lineOf (setLine e f u) other = if other = e then f (lineOf u other) else lineOf u other := by
  cases e <;> cases other <;> rfl

theorem pushJob_lineWith (j : Job) (l : PrinterLine) : pushJob j l = lineWith j l := by
  rw [pushJob_eq]
  rfl

theorem hasRoom_spoolFull (s : State) (e : BridgeEnd) : hasRoom s.ticket e = !spoolFull s e := by
  simp only [hasRoom, spoolFull]
  rw [← decide_not]
  simp

/-- A slip is queued, or discarded with SPOOL_FULL; neither changes counter nor journal. -/
theorem queueSlip_queued {s t : State} (k : SlipKind) (e : BridgeEnd) (content : List PrintField) (y : State)
    (hy : y.ticket = s.ticket) (hc : y.clock = s.clock) (hev : ∀ q, y.printEvents q = s.printEvents q)
    (ht : t.ticket = (queueSlip e k content y).ticket)
    (htev : ∀ q, t.printEvents q = (queueSlip e k content y).printEvents q) :
    SlipQueued k e content s t ∧ t.ticket.counter = s.ticket.counter ∧ t.ticket.journal = s.ticket.journal := by
  have hroom := hasRoom_spoolFull y e
  have hsame : spoolFull y e = spoolFull s e := by simp only [spoolFull, hy]
  rw [hsame] at hroom
  unfold queueSlip at ht htev
  unfold SlipQueued
  cases hf : spoolFull s e with
  | true =>
    rw [hf, Bool.not_true] at hroom
    simp only [hroom, Bool.false_eq_true, if_false] at ht htev
    have ht' : t.ticket = s.ticket := ht.trans hy
    refine ⟨⟨by rw [ht'], by rw [ht', if_pos rfl], ?_⟩, by rw [ht'], by rw [ht']⟩
    refine PrintReports.one fun q => ?_
    rw [htev, raise_printEvents, if_pos (by rfl), hev, withEvent, withEvent, hc]
  | false =>
    rw [hf, Bool.not_false] at hroom
    simp only [hroom, if_true] at ht htev
    have ht' : t.ticket = setLine e (pushJob ⟨.slip k, false, content⟩) s.ticket := by
      rw [ht, State.setTicket_ticket, hy]
    refine ⟨⟨?_, ?_, ?_⟩, ?_, ?_⟩
    · rw [ht', lineOf_setLine, if_neg (by cases e <;> nofun)]
    · rw [ht', lineOf_setLine, if_pos rfl, pushJob_lineWith]
      rfl
    · exact PrintReports.none fun q => (htev q).trans (hev q)
    · rw [ht']
      cases e <;> rfl
    · rw [ht']
      cases e <;> rfl

/-! ### The stop taken (R74) -/

/-- From `s` to `t` the stop of the order `o` has been taken with the engine idle, and the books stand but for it. -/
structure WithStop (o : Order) (st : Stop) (t s : State) : Prop where
  axle : t.axle = s.axle
  visit : t.visit = s.visit
  ticket : t.ticket = s.ticket
  watch : t.watch = s.watch
  clock : t.clock = s.clock
  cal : t.metro.cal = s.metro.cal
  check : t.check = { s.check with table := tableAfter o st s }
  order : t.order = { s.order with engine := none, stops := stopsAfter st s }
  events : ∀ (q : Port) (k : Fin 9), k ≠ 0 → (t.portState q).events[k] = (s.portState q).events[k]

/-- The marks of a trade capture (R73). -/
def endMarks (s : State) : Marks := ⟨someDeck s .due, someDeck s .suspect, false, false, false⟩

section
variable {d : DeckId} {conv : Conversion} {g : Int} {e : OrderCapture} {a : ActiveOrder} {s : State}

theorem EndsWindow.tradeMarks (h : EndsWindow d conv g e a s) :
    tradeMarks (engineIdle (afterMonitor d conv s)) = endMarks s := by
  rw [Machine.tradeMarks, endMarks, someDeck_eq h.idleBooks.legal h.idleBooks.status,
    someDeck_eq h.idleBooks.legal h.idleBooks.status]

theorem EndsWindow.takesStop (h : EndsWindow d conv g e a s) (st : Stop) :
    WithStop a.order st (takeStop a.order st (engineIdle (afterMonitor d conv s))) s := by
  have hb := h.idleBooks
  have ho := h.idleOrder
  generalize engineIdle (afterMonitor d conv s) = m at hb ho
  obtain ⟨htable, hstops⟩ := tableAfter_congr hb (show m.order.stops = s.order.stops by rw [ho]) a.order st
  rw [takeStop_eq]
  refine ⟨hb.axle, hb.visit, hb.ticket, hb.watch, hb.clock, hb.cal, ?_, ?_, hb.events⟩
  · rw [State.setOrder_check, State.setCheck_check, htable, hb.check]
  · rw [State.setOrder_order, State.setCheck_order, hstops, ho]

/-- R72, R73: a result that stands. -/
theorem EndsWindow.stands (h : EndsWindow d conv g e a s) (hr : ResultStands (endMass d g e s) s) :
    completeCapture ((afterMonitor d conv s).setOrder fun u => { u with engine := some (lastTaken d g e s) }) =
      completeStop (lastTaken d g e s) a.order (engineIdle (afterMonitor d conv s)) := by
  obtain ⟨hover, hunder, hshut, hver⟩ := hr
  have hf := h.captureFailure h.idleBooks a.order.kind
  rw [if_neg (by omega), if_neg (by omega), if_neg] at hf
  · rw [h.completes, hf]
  · rintro ⟨-, hop | ⟨b, hb, hu⟩⟩
    · cases hshut.symm.trans hop
    · exact hver b hb hu

end

/-! ### A survey's stop (R76) -/

section
variable {s : State} {a : ActiveOrder}

theorem surveyStop_eq (e : OrderCapture) (m : Marks) (reported : Bool) (ha : s.order.active = some a) :
    surveyStop e m reported s =
      if (reported && s.check.table.allResolved) || decide (4 ≤ a.stopsTaken + 1) then
        leaveWithoutPass (finishSurvey (s.setOrder (surveyedUnit e m)))
      else s.setOrder (surveyedUnit e m) := by
  have ha1 : (s.setOrder (surveyedUnit e m)).order.active =
      some { a with state := .surveying, stopsTaken := a.stopsTaken + 1, lastStop := some (e.direction, m) } := by
    simp only [State.setOrder_order, surveyedUnit, ha, Option.map_some]
  have hu : surveyStop e m reported s = match (s.setOrder (surveyedUnit e m)).order.active with
      | none => s.setOrder (surveyedUnit e m)
      | some a =>
        if (reported && (s.setOrder (surveyedUnit e m)).check.table.allResolved) || decide (4 ≤ a.stopsTaken) then
          leaveWithoutPass (finishSurvey (s.setOrder (surveyedUnit e m)))
        else s.setOrder (surveyedUnit e m) := rfl
  rw [hu, ha1]
  rfl

/-- With no order staged nothing is promoted. -/
theorem leaveActive_unstaged (r : OrderResult) (ha : s.order.active = some a) (hl : s.order.staged = []) :
    leaveActive r s = (raiseLeft a.order r (s.setOrder fun u =>
      { u with active := none, condRun := 0 })).setOrder fun u => { u with staged := [] } := by
  simp [leaveActive, ha, promote, raiseLeft, hl, promoteFrom]

/-- A survey that is complete: its summary handed on, its report queued, the order COMPLETE, the rest as it was. -/
structure SurveyDone (s : State) (a : ActiveOrder) (dir : Option Direction) (m : Marks) (x : State) : Prop where
  visit : x.visit = make (.surveyed a.order.visit (summaryOf s.check.table)) s.visit
  check : x.check = s.check
  watch : x.watch = s.watch
  clock : x.clock = s.clock
  engine : x.order.engine = s.order.engine
  stops : x.order.stops = s.order.stops
  crossingSince : x.order.crossingSince = s.order.crossingSince
  ticket : x.ticket = (queueSlip (exitEnd dir) .axleReport (surveyReport s a dir m)
    (s.setVisit (make (.surveyed a.order.visit (summaryOf s.check.table))))).ticket
  printed : ∀ q, x.printEvents q = (queueSlip (exitEnd dir) .axleReport (surveyReport s a dir m)
    (s.setVisit (make (.surveyed a.order.visit (summaryOf s.check.table))))).printEvents q

theorem finishSurvey_done {dir : Option Direction} {m : Marks} (ha : s.order.active = some a)
    (hl : a.lastStop = some (dir, m)) : SurveyDone s a dir m (finishSurvey s) ∧
      (finishSurvey s).order.active = some { a with state := .complete } ∧
      (finishSurvey s).order.staged = s.order.staged ∧ (finishSurvey s).axle = s.axle ∧
      ∀ q, ((finishSurvey s).orderEvents q).latest =
        some (.orderComplete a.order.visit a.order.kind none, ⟨s.clock.day, s.clock.sec⟩) := by
  have hq := queueSlip_orders (exitEnd dir) .axleReport (surveyReport s a dir m)
    (s.setVisit (make (.surveyed a.order.visit (summaryOf s.check.table))))
  have haxle : (finishSurvey s).axle = s.axle := congrArg Prod.fst (finishSurvey_axles s).1
  have hw : (queueSlip (exitEnd dir) .axleReport (surveyReport s a dir m)
      (s.setVisit (make (.surveyed a.order.visit (summaryOf s.check.table))))).watch = s.watch := by
    unfold queueSlip
    split <;> rfl
  have hf := finishSurvey_stop ha hl
  rw [hf] at haxle ⊢
  refine ⟨⟨hq.visit, hq.check, hw, hq.clock, hq.engine, hq.stops, hq.crossingSince, rfl, fun q => ?_⟩, rfl,
    hq.staged, haxle, fun q => ?_⟩
  · rw [raise_printEvents, if_neg (by simp [categoryOf])]
    rfl
  · rw [raise_orderEvents, if_pos (by rfl), withEvent]
    exact congrArg (fun c : Clock => some (_, (⟨c.day, c.sec⟩ : Stamp))) hq.clock

/-- Out of a pass a survey that is complete leaves at once with DONE (R76). -/
theorem leaveWithoutPass_done {b : ActiveOrder} {dir : Option Direction} {m : Marks} {x : State}
    (h : SurveyDone s a dir m x) (hx : x.order.active = some b) (hd : x.axle.map.direction = none)
    (hl : x.order.staged = []) : SurveyDone s a dir m (leaveWithoutPass x) ∧
      (leaveWithoutPass x).order.active = none ∧
      ∀ q, ((leaveWithoutPass x).orderEvents q).latest =
        some (.orderLeft b.order.visit b.order.kind .done, ⟨s.clock.day, s.clock.sec⟩) := by
  have he : leaveWithoutPass x = (raiseLeft b.order .done (x.setOrder fun u =>
      { u with active := none, condRun := 0 })).setOrder fun u => { u with staged := [] } :=
    (if_pos hd).trans (leaveActive_unstaged .done hx hl)
  obtain ⟨hvisit, hcheck, hwatch, hclock, hengine, hstops, hcross, hticket, hprint⟩ := h
  rw [he]
  refine ⟨⟨hvisit, hcheck, hwatch, hclock, hengine, hstops, hcross, hticket, fun q => ?_⟩, rfl, fun q => ?_⟩
  · exact (raise_printEvents _ _ q).trans ((if_neg (by simp [categoryOf])).trans (hprint q))
  · refine (congrArg EventCell.latest (raise_orderEvents _ _ q)).trans ?_
    rw [if_pos (by rfl), withEvent, ← hclock]
    rfl

end

section
variable {d : DeckId} {conv : Conversion} {g : Int} {e : OrderCapture} {a : ActiveOrder} {s : State}

/-- The active order with its survey's stop. -/
def surveyedOrder (e : OrderCapture) (a : ActiveOrder) (s : State) : ActiveOrder :=
  { a with state := .surveying, stopsTaken := a.stopsTaken + 1, lastStop := some (e.direction, endMarks s) }

/-- R74, R76: the state once a survey's stop is taken, before its completion. -/
structure SurveyTaken (e : OrderCapture) (a : ActiveOrder) (st : Stop) (y s : State) : Prop where
  axle : y.axle = s.axle
  visit : y.visit = s.visit
  ticket : y.ticket = s.ticket
  watch : y.watch = s.watch
  clock : y.clock = s.clock
  cal : y.metro.cal = s.metro.cal
  check : y.check = { s.check with table := tableAfter a.order st s }
  active : y.order.active = some (surveyedOrder e a s)
  engine : y.order.engine = none
  staged : y.order.staged = s.order.staged
  stops : y.order.stops = stopsAfter st s
  crossingSince : y.order.crossingSince = false
  printed : ∀ q, y.printEvents q = s.printEvents q

/-- The survey completes with this stop: every group resolved by a stop that was handed on, or the 4th (R76). -/
abbrev SurveyCompletes (a : ActiveOrder) (st : Stop) (s : State) : Prop :=
  (s.order.stops.length < 4 ∧ (tableAfter a.order st s).allResolved = true) ∨ 4 ≤ a.stopsTaken + 1

theorem EndsWindow.survey (h : EndsWindow d conv g e a s) (hr : ResultStands (endMass d g e s) s)
    (hk : a.order.kind = .axleSurvey) : ∃ y, SurveyTaken e a (endStop d g e none s) y s ∧
      completeCapture ((afterMonitor d conv s).setOrder fun u => { u with engine := some (lastTaken d g e s) }) =
        if SurveyCompletes a (endStop d g e none s) s then leaveWithoutPass (finishSurvey y) else y := by
  have hst : stopOf (lastTaken d g e s) a.order.kind (engineIdle (afterMonitor d conv s)) = endStop d g e none s := by
    rw [h.stop h.idleBooks, if_pos hk]
  have hlen : (engineIdle (afterMonitor d conv s)).order.stops.length = s.order.stops.length := by rw [h.idleOrder]
  have hN := h.takesStop (endStop d g e none s)
  have hc : completeStop (lastTaken d g e s) a.order (engineIdle (afterMonitor d conv s)) =
      surveyStop (lastTaken d g e s) (endMarks s) (decide (s.order.stops.length < 4))
        (takeStop a.order (endStop d g e none s) (engineIdle (afterMonitor d conv s))) := by
    rw [← h.tradeMarks, ← hlen, ← hst]
    simp only [completeStop, hk]
  generalize takeStop a.order (endStop d g e none s) (engineIdle (afterMonitor d conv s)) = n at hN hc
  have ha : n.order.active = some a := by rw [hN.order]; exact h.active
  refine ⟨n.setOrder (surveyedUnit (lastTaken d g e s) (endMarks s)), ?_, ?_⟩
  · refine ⟨hN.axle, hN.visit, hN.ticket, hN.watch, hN.clock, hN.cal, hN.check, ?_, ?_, ?_, ?_, rfl, fun q => ?_⟩
    · simp only [State.setOrder_order, surveyedUnit, ha, Option.map_some, (lastTaken_fromState d g e s).2, surveyedOrder]
    · exact show n.order.engine = none by rw [hN.order]
    · exact show n.order.staged = _ by rw [hN.order]
    · exact show n.order.stops = _ by rw [hN.order]
    · exact hN.events q 4 nofun
  · have hcond : ((decide (s.order.stops.length < 4) && n.check.table.allResolved) || decide (4 ≤ a.stopsTaken + 1)) =
        true ↔ SurveyCompletes a (endStop d g e none s) s := by
      simp only [hN.check, Bool.or_eq_true, Bool.and_eq_true, decide_eq_true_eq]
    rw [h.stands hr, hc, surveyStop_eq _ _ _ ha]
    exact if_congr hcond rfl rfl

/-- What the statement asks of every survey's stop, from what its completion left. -/
theorem EndsWindow.surveyExec (h : EndsWindow d conv g e a s) {x : State}
    (hx : completeCapture ((afterMonitor d conv s).setOrder fun u => { u with engine := some (lastTaken d g e s) }) = x)
    (he : x.order.engine = none) (hc : x.order.crossingSince = false)
    (ha : ∀ b, x.order.active = some b → b.state ≠ .waiting) :
    ∃ t, Machine.exec (.captureWindowEnd d conv) s = .next t ∧ t.order.engine = none ∧
      t.order.active = x.order.active ∧ t.order.crossingSince = false ∧ t.order.stops = x.order.stops ∧
      t.check = x.check ∧ t.visit = x.visit ∧ t.ticket = x.ticket ∧ t.watch = x.watch ∧
      ∀ (q : Port) (k : Fin 9), (t.portState q).events[k] = (x.portState q).events[k] := by
  have hA := afterCompletion_stands ((sampleMonitor d conv s).notes.contains (.entered .empty)) d he
  obtain ⟨hte, hta⟩ := hA.stays fun b hb => ⟨ha b hb, .inr hc⟩
  have hb := hA.blocks
  simp only [Prod.mk.injEq] at hb
  obtain ⟨-, hcheck, hvisit, hticket, hwatch, -⟩ := hb
  exact ⟨_, h.exec hx he, hte, hta, hA.crossingSince.trans hc, hA.stops, hcheck, hvisit, hticket, hwatch, hA.events⟩

/-- What a completed survey hands on (R76, R112, R126). -/
theorem SurveyDone.handedOn {x t y : State} {st : Stop} (hy : SurveyTaken e a st y s)
    (hx : SurveyDone y (surveyedOrder e a s) e.direction (endMarks s) x) (hv : t.visit = x.visit)
    (hc : t.check = x.check) (ht : t.ticket = x.ticket) (hev : ∀ q, t.printEvents q = x.printEvents q) :
    (∀ m, findVisit t.visit m = if m = a.order.visit then
        (findVisit s.visit m).map fun v =>
          { v with summary := some (summaryOf (tableAfter a.order st s)), revision := v.revision + 1 }
        else findVisit s.visit m) ∧
      SlipQueued .axleReport (if e.direction = some .forward then .b else .a)
        (slipFields t.check .axleReport (findVisit t.visit a.order.visit)
          (summaryOf (tableAfter a.order st s)).cls (summaryOf (tableAfter a.order st s))
          (summaryOf (tableAfter a.order st s)).indication (endMarks s) ⟨s.clock.day, s.clock.sec⟩ s.metro.cal
          (if e.direction = some .forward then .b else .a)) s t ∧
      t.ticket.counter = s.ticket.counter ∧ t.ticket.journal = s.ticket.journal ∧
      t.visit.tares = s.visit.tares := by
  have htable : summaryOf y.check.table = summaryOf (tableAfter a.order st s) := by rw [hy.check]
  have hreport : surveyReport y (surveyedOrder e a s) e.direction (endMarks s) =
      slipFields t.check .axleReport (findVisit t.visit a.order.visit)
        (summaryOf (tableAfter a.order st s)).cls (summaryOf (tableAfter a.order st s))
        (summaryOf (tableAfter a.order st s)).indication (endMarks s) ⟨s.clock.day, s.clock.sec⟩ s.metro.cal
        (exitEnd e.direction) := by
    rw [hv, hx.visit, hc, hx.check, ← htable, ← hy.clock, ← hy.cal]
    rfl
  rw [← exitEnd_eq, ← hreport]
  have hq := queueSlip_queued (s := s) (t := t) .axleReport (exitEnd e.direction)
    (surveyReport y (surveyedOrder e a s) e.direction (endMarks s))
    (y.setVisit (make (.surveyed a.order.visit (summaryOf y.check.table)))) hy.ticket hy.clock hy.printed
    (ht.trans hx.ticket) fun q => (hev q).trans (hx.printed q)
  refine ⟨fun m => ?_, hq.1, hq.2.1, hq.2.2, ?_⟩
  · rw [hv, hx.visit, findVisit_surveyed, hy.visit, htable]
    rfl
  · rw [hv, hx.visit, hy.visit]
    rfl

end

/-- Settles O43: the stop taken, the survey that waits for the next, and the survey that completes. -/
theorem axleSurveysTakeStops : Obligations.AxleSurveysTakeStops := by
  intro d conv g e a s h hr hk st table surveyed complete stopTaken end_ handedOn latestOrder
  obtain ⟨y, hy, hx⟩ := h.survey hr hk
  refine ⟨fun hno => ?waits, fun hc hd => ?inPass, fun hc hd hl => ?leaves⟩
  case waits =>
    obtain ⟨t, ht, he, ha, hcr, hst, hch, hv, htk, hw, -⟩ := h.surveyExec (hx.trans (if_neg hno)) hy.engine
      hy.crossingSince fun b hb => by cases hb.symm.trans hy.active; nofun
    refine ⟨t, ⟨ht, he, hcr, hst.trans hy.stops, hch.trans hy.check, ?_, ?_, hw.trans hy.watch, ?_⟩,
      ha.trans hy.active, hv.trans hy.visit, htk.trans hy.ticket⟩
    · rw [htk, hy.ticket]
    · rw [htk, hy.ticket]
    · rw [hv, hy.visit]
  case inPass =>
    obtain ⟨hdone, hact, hstaged, haxle, hlatest⟩ := finishSurvey_done (dir := e.direction) (m := endMarks s)
      hy.active rfl
    have hpass : leaveWithoutPass (finishSurvey y) = finishSurvey y :=
      leaveWithoutPass_inPass (by rw [haxle, hy.axle]; exact hd)
    obtain ⟨t, ht, he, ha, hcr, hst, hch, hv, htk, hw, hev⟩ := h.surveyExec (hx.trans ((if_pos hc).trans hpass))
      (hdone.engine.trans hy.engine) (hdone.crossingSince.trans hy.crossingSince) fun b hb => by
        cases hb.symm.trans hact; nofun
    obtain ⟨hvis, hslip, hcount, hjour, htares⟩ := hdone.handedOn hy hv hch htk fun q => hev q 4
    refine ⟨t, ⟨ht, he, hcr, hst.trans (hdone.stops.trans hy.stops), hch.trans (hdone.check.trans hy.check), hcount,
      hjour, hw.trans (hdone.watch.trans hy.watch), htares⟩, ⟨hvis, hslip⟩, ha.trans hact, fun q => ?_⟩
    rw [hev, ← hk, ← hy.clock]
    exact hlatest q
  case leaves =>
    obtain ⟨hdone, hact, hstaged, haxle, -⟩ := finishSurvey_done (dir := e.direction) (m := endMarks s)
      hy.active rfl
    obtain ⟨hleft, hnone, hlatest⟩ := leaveWithoutPass_done hdone hact (by rw [haxle, hy.axle]; exact hd)
      (hstaged.trans (hy.staged.trans hl))
    obtain ⟨t, ht, he, ha, hcr, hst, hch, hv, htk, hw, hev⟩ := h.surveyExec (hx.trans (if_pos hc))
      (hleft.engine.trans hy.engine) (hleft.crossingSince.trans hy.crossingSince) fun b hb =>
        nomatch hb.symm.trans hnone
    obtain ⟨hvis, hslip, hcount, hjour, htares⟩ := hleft.handedOn hy hv hch htk fun q => hev q 4
    refine ⟨t, ⟨ht, he, hcr, hst.trans (hleft.stops.trans hy.stops), hch.trans (hleft.check.trans hy.check), hcount,
      hjour, hw.trans (hleft.watch.trans hy.watch), htares⟩, ⟨hvis, hslip⟩, ha.trans hnone, fun q => ?_⟩
    rw [hev, ← hk, ← hy.clock]
    exact hlatest q

end Sys2Proof.Machine

/-!
The weighing step's tables: a visit's new record (R105, R111), the stored tares (R113, R115), and an issued ticket on its
way to the printers (R121, R126).
-/

namespace Sys2Proof.Machine

/-! ### A visit's new record -/

/-- A change of one visit, its number apart, leaves the others (R105). -/
theorem findVisit_changeVisit {f : Visit → Visit} (hf : ∀ v, (f v).number = v.number) (u : VisitUnit) (n m : Nat) :
    findVisit (changeVisit n f u) m = if m = n then (findVisit u m).map fun v =>
      { f v with revision := v.revision + 1 } else findVisit u m := by
  show List.find? _ (u.visits.map _) = _
  unfold findVisit
  induction u.visits with
  | nil => simp
  | cons v l ih => grind

/-- The new record of a visit takes its place, its revision raised; the others stand. -/
theorem findVisit_putVisit (v : Visit) (u : VisitUnit) (m : Nat) : findVisit (putVisit v u) m =
    if m = v.number then (findVisit u m).map fun x => { takeRecord v x with revision := x.revision + 1 }
      else findVisit u m :=
  findVisit_changeVisit (f := takeRecord v) (fun _ => rfl) u v.number m

theorem useOf_visits (k : OrderKind) (plate : Text) (u : VisitUnit) (m : Nat) :
    findVisit (useOf k plate u) m = findVisit u m := by
  unfold useOf
  split <;> rfl

/-- A STORED_TARE takes one use of its plate's entry (R113). -/
theorem useOf_tares (k : OrderKind) (plate : Text) (u : VisitUnit) : (useOf k plate u).tares =
    if k = .storedTare then u.tares.map fun q => if q.plate = plate then { q with uses := q.uses - 1 } else q
      else u.tares := by
  unfold useOf
  split <;> rfl

theorem useOf_initialUses (k : OrderKind) (plate : Text) (u : VisitUnit) :
    (useOf k plate u).initialUses = u.initialUses := by
  unfold useOf
  split <;> rfl

theorem storeAtIssue_visits (flag : Bool) (n : Nat) (u : VisitUnit) (m : Nat) :
    findVisit (storeAtIssue flag n u) m = findVisit u m := by
  unfold storeAtIssue
  split
  · rfl
  · split
    · split <;> rfl
    · rfl

/-- Without the flag nothing is stored at issue (R115). -/
theorem storeAtIssue_off (n : Nat) (u : VisitUnit) : storeAtIssue false n u = u := by
  unfold storeAtIssue
  split <;> rfl

/-- Nor without a captured tare. -/
theorem storeAtIssue_none {flag : Bool} {n : Nat} {u : VisitUnit} {v : Visit} (hv : findVisit u n = some v)
    (hc : capturedTare v = none) : storeAtIssue flag n u = u := by
  unfold storeAtIssue
  rw [hv]
  cases flag
  · rfl
  · simp only [hc]

/-- A captured tare that carries NOT_FOR_TRADE is not stored; another becomes its plate's entry (R115). -/
theorem storeAtIssue_on {n : Nat} {u : VisitUnit} {v : Visit} {w : Weighing} (hv : findVisit u n = some v)
    (hc : capturedTare v = some w) : storeAtIssue true n u =
      if w.notForTrade then u else make (tareWrite u v.plate w.mass w.time.day) u := by
  unfold storeAtIssue
  simp only [hv, hc]

/-- The entries that a write keeps are entries of other plates. -/
theorem tareWrite_tares (u : VisitUnit) (plate : Text) (tare : Int) (day : Nat) :
    ∃ rest, (make (tareWrite u plate tare day) u).tares = rest ++ [⟨plate, tare, day, u.initialUses⟩] ∧
      ∀ z ∈ rest, z ∈ u.tares ∧ z.plate ≠ plate := by
  refine ⟨u.tares.filter (fun x => x.plate ≠ plate ∧ some x.plate ≠ tareReplaced u plate), rfl, fun z hz => ?_⟩
  simp only [List.mem_filter, decide_eq_true_eq] at hz
  exact ⟨hz.1, hz.2.1⟩

/-! ### Events raised in one step -/

theorem raiseAll_eq (s : State) (cs : List Cause) : s.raiseAll cs = { s with ports := (s.raiseAll cs).ports } := by
  unfold State.raiseAll
  induction cs generalizing s with
  | nil => rfl
  | cons c cs ih => exact ih (s.raise c)

theorem raiseAll_event {cs : List Cause} {k : Fin 9} (h : ∀ c ∈ cs, categoryOf c ≠ k) (s : State) (q : Port) :
    ((s.raiseAll cs).portState q).events[k] = (s.portState q).events[k] := by
  unfold State.raiseAll
  induction cs generalizing s with
  | nil => rfl
  | cons c cs ih =>
    refine (ih (fun x hx => h x (.tail _ hx)) (s.raise c)).trans ?_
    rw [raise_event, if_neg (h c (.head _))]

/-! ### A ticket queued (R126) -/

section
variable (k : Ticket) (e : BridgeEnd) (s : State)

/-- What queueing a ticket on one printer does. -/
theorem queueTicket_eq : queueTicket k e s =
    if printStateOf k e = .queued then
      s.setTicket (setLine e (pushJob ⟨.ticket k.number, false, ticketFields s.check k none e⟩))
    else if printStateOf k e = .unprinted then s.raise (.spoolFull e (some k.number))
    else s := by
  unfold queueTicket
  cases printStateOf k e <;> rfl

theorem queueTicket_keeps : (queueTicket k e s).check = s.check ∧ (queueTicket k e s).clock = s.clock ∧
    (queueTicket k e s).visit = s.visit ∧ (queueTicket k e s).watch = s.watch ∧
      (queueTicket k e s).order = s.order ∧ (queueTicket k e s).axle = s.axle ∧
        (queueTicket k e s).ticket.counter = s.ticket.counter ∧
          (queueTicket k e s).ticket.journal = s.ticket.journal := by
  rw [queueTicket_eq]
  split
  · cases e <;> exact ⟨rfl, rfl, rfl, rfl, rfl, rfl, rfl, rfl⟩
  · split <;> exact ⟨rfl, rfl, rfl, rfl, rfl, rfl, rfl, rfl⟩

theorem queueTicket_line (other : BridgeEnd) : lineOf (queueTicket k e s).ticket other =
    if other = e ∧ printStateOf k e = .queued then
      lineWith ⟨.ticket k.number, false, ticketFields s.check k none e⟩ (lineOf s.ticket other)
    else lineOf s.ticket other := by
  rw [queueTicket_eq]
  by_cases hq : printStateOf k e = .queued
  · rw [if_pos hq, State.setTicket_ticket, lineOf_setLine]
    by_cases ho : other = e
    · rw [if_pos ho, if_pos ⟨ho, hq⟩, pushJob_lineWith]
    · rw [if_neg ho, if_neg fun h => ho h.1]
  · have hn : ¬(other = e ∧ printStateOf k e = .queued) := fun h => hq h.2
    rw [if_neg hq, if_neg hn]
    split <;> rfl

theorem queueTicket_printEvents (q : Port) : (queueTicket k e s).printEvents q =
    if printStateOf k e = .unprinted then withEvent (.spoolFull e (some k.number)) s (s.printEvents q)
    else s.printEvents q := by
  rw [queueTicket_eq]
  by_cases hq : printStateOf k e = .queued
  · rw [if_pos hq, if_neg (by rw [hq]; nofun)]
    rfl
  · rw [if_neg hq]
    by_cases hu : printStateOf k e = .unprinted
    · rw [if_pos hu, if_pos hu, raise_printEvents, if_pos (by rfl)]
    · rw [if_neg hu, if_neg hu]

/-- What reporting a ticket leaves. -/
theorem reportTicket_keeps : (reportTicket k s).check = s.check ∧ (reportTicket k s).clock = s.clock ∧
    (reportTicket k s).visit = s.visit ∧ (reportTicket k s).watch = s.watch ∧
      (reportTicket k s).order = s.order ∧ (reportTicket k s).axle = s.axle ∧
        (reportTicket k s).ticket.counter = s.ticket.counter ∧
          (reportTicket k s).ticket.journal = s.ticket.journal := by
  have h1 := queueTicket_keeps k k.content.exit
    (s.raise (.ticketIssued k.number k.content.kind k.content.visit k.content.marks))
  have h2 := queueTicket_keeps k (otherEnd k.content.exit) (queueTicket k k.content.exit
    (s.raise (.ticketIssued k.number k.content.kind k.content.visit k.content.marks)))
  obtain ⟨a1, b1, c1, d1, e1, f1, g1, i1⟩ := h1
  obtain ⟨a2, b2, c2, d2, e2, f2, g2, i2⟩ := h2
  exact ⟨a2.trans a1, b2.trans b1, c2.trans c1, d2.trans d1, e2.trans e1, f2.trans f1, g2.trans g1, i2.trans i1⟩

theorem reportTicket_line (i : BridgeEnd) : lineOf (reportTicket k s).ticket i =
    if printStateOf k i = .queued then
      lineWith ⟨.ticket k.number, false, ticketFields s.check k none i⟩ (lineOf s.ticket i)
    else lineOf s.ticket i := by
  have hkeeps := (queueTicket_keeps k k.content.exit
    (s.raise (.ticketIssued k.number k.content.kind k.content.visit k.content.marks))).1
  rw [reportTicket, queueTicket_line, queueTicket_line, hkeeps]
  by_cases hb : i = k.content.exit
  · subst hb
    have hne : ¬(k.content.exit = otherEnd k.content.exit) := by cases k.content.exit <;> nofun
    simp [hne]
  · have ho : i = otherEnd k.content.exit := by
      cases hx : k.content.exit <;> cases i <;> simp_all [otherEnd]
    subst ho
    simp [hb]

end

/-- The causes of the PRINT events that an issue raises, the exit end first. -/
def spoolCauses (k : Ticket) : List Cause :=
  ([k.content.exit, otherEnd k.content.exit].filter fun e => printStateOf k e = .unprinted).map
    fun e => .spoolFull e (some k.number)

theorem reportTicket_reports {k : Ticket} {s y t : State} (hc : y.clock = s.clock)
    (hy : ∀ q, y.printEvents q = s.printEvents q) (ht : ∀ q, t.printEvents q = (reportTicket k y).printEvents q) :
    PrintReports (spoolCauses k) s t := by
  have hev : ∀ q, t.printEvents q =
      if printStateOf k (otherEnd k.content.exit) = .unprinted then
        withEvent (.spoolFull (otherEnd k.content.exit) (some k.number)) s
          (if printStateOf k k.content.exit = .unprinted then
            withEvent (.spoolFull k.content.exit (some k.number)) s (s.printEvents q) else s.printEvents q)
      else if printStateOf k k.content.exit = .unprinted then
        withEvent (.spoolFull k.content.exit (some k.number)) s (s.printEvents q) else s.printEvents q := by
    intro q
    have hclock := (queueTicket_keeps k k.content.exit
      (y.raise (.ticketIssued k.number k.content.kind k.content.visit k.content.marks))).2.1
    have hraise : (y.raise (.ticketIssued k.number k.content.kind k.content.visit k.content.marks)).printEvents q =
        s.printEvents q := by
      have hcat : ¬categoryOf (.ticketIssued k.number k.content.kind k.content.visit k.content.marks) = 4 := by
        simp [categoryOf]
      rw [raise_printEvents, if_neg hcat, hy]
    rw [ht, reportTicket, queueTicket_printEvents, queueTicket_printEvents, hraise]
    simp only [withEvent, hclock, State.raise_clock, hc]
  intro q
  have hq := hev q
  unfold spoolCauses
  by_cases h1 : printStateOf k k.content.exit = .unprinted <;>
    by_cases h2 : printStateOf k (otherEnd k.content.exit) = .unprinted
  · rw [if_pos h2, if_pos h1] at hq
    simp only [List.filter_cons, h1, h2, decide_true, if_true, List.filter_nil, List.map_cons, List.map_nil]
    refine hq.trans (congrArg (fun n => EventCell.mk n _) ?_)
    show min 255 (min 255 (_ + 1) + 1) = min 255 (_ + 2)
    simp only [State.printEvents]
    omega
  · rw [if_neg h2, if_pos h1] at hq
    simp only [List.filter_cons, h1, h2, decide_true, decide_false, if_true, List.filter_nil]
    exact hq
  · rw [if_pos h2, if_neg h1] at hq
    simp only [List.filter_cons, h1, h2, decide_true, decide_false, if_true, List.filter_nil]
    exact hq
  · rw [if_neg h2, if_neg h1] at hq
    simp only [List.filter_cons, h1, h2, decide_false, List.filter_nil]
    exact hq

/-- The print states of a new ticket (R126). -/
theorem newTicket_printState (s : State) (c : TicketContent) (t : Stamp) (i : BridgeEnd) :
    printStateOf (newTicket s.ticket c t) i =
      if decide (i = c.exit) || s.ticket.copyOn then (if spoolFull s i then .unprinted else .queued) else .none := by
  have h : printStateOf (newTicket s.ticket c t) i = newPrintState s.ticket c.exit i := by cases i <;> rfl
  rw [h, newPrintState, hasRoom_spoolFull]
  have hd : destined s.ticket c.exit i = (decide (i = c.exit) || s.ticket.copyOn) := by
    simp [destined]
  rw [hd]
  cases spoolFull s i <;> rfl

/-- An issued ticket is queued as the spools stand (R121, R126). -/
theorem reportTicket_queued {s y t : State} {c : TicketContent} {stamp : Stamp} (hc : y.clock = s.clock)
    (hy : ∀ q, y.printEvents q = s.printEvents q) (hl : ∀ i, lineOf y.ticket i = lineOf s.ticket i)
    (ht : t.ticket = (reportTicket (newTicket s.ticket c stamp) y).ticket) (htc : t.check = y.check)
    (hev : ∀ q, t.printEvents q = (reportTicket (newTicket s.ticket c stamp) y).printEvents q) :
    TicketQueued (newTicket s.ticket c stamp) s t := by
  have hstate := newTicket_printState s c stamp
  have hreports := reportTicket_reports hc hy hev
  have hcauses : spoolCauses (newTicket s.ticket c stamp) =
      ([c.exit, otherEnd c.exit].filter fun e =>
        (decide (e = c.exit) || s.ticket.copyOn) && spoolFull s e).map
          fun e => .spoolFull e (some (newTicket s.ticket c stamp).number) := by
    unfold spoolCauses
    congr 1
    refine List.filter_congr fun e _ => ?_
    rw [hstate]
    cases decide (e = c.exit) || s.ticket.copyOn <;> cases spoolFull s e <;> rfl
  rw [hcauses] at hreports
  refine ⟨fun i => ⟨hstate i, ?_⟩, hreports⟩
  rw [ht, reportTicket_line, hl, htc]
  have hq : (printStateOf (newTicket s.ticket c stamp) i = .queued) =
      (((decide (i = c.exit) || s.ticket.copyOn) && !spoolFull s i) = true) := by
    rw [hstate]
    cases decide (i = c.exit) || s.ticket.copyOn <;> cases spoolFull s i <;> simp
  exact if_congr (by rw [hq]; rfl) rfl rfl

end Sys2Proof.Machine

/-!
The weighing step of a capture result: what it builds, and the state in which the order is left (R75, R110 to R113, R121,
R144).
-/

namespace Sys2Proof.Machine

/-! ### What a result builds (R111, R113) -/

section
variable {u : VisitUnit} {r : CaptureResult} {x y : Visit} {w : Weighing} {q : TareEntry}

theorem buildWeighing_first (hk : r.order.kind = .firstWeigh) (hs : x.state = .opened) (hh : x.held = none) :
    buildWeighing u r x = .ok { x with
      first := some (capturedWeighing r (firstRole x.kind))
      state := .firstDone } := by
  simp only [buildWeighing, hk, hs, hh]

theorem buildWeighing_second (hk : r.order.kind = .secondWeigh) (hs : x.state = .firstDone) (hh : x.held = none)
    (hf : x.first = some w) : buildWeighing u r x = closeVisit w (capturedWeighing r (secondRole x.kind)) x := by
  simp only [buildWeighing, hk, hs, hh, hf]

theorem buildWeighing_stored (hk : r.order.kind = .storedTare) (hs : x.state = .opened) (hh : x.held = none)
    (hi : x.kind = .receival) (hv : validTare u r.time.day x.plate = some q) :
    buildWeighing u r x = closeVisit (capturedWeighing r .gross) (storedWeighing r q) x := by
  simp only [buildWeighing, hk, hs, hh, hi, hv]

theorem buildWeighing_noTare (hk : r.order.kind = .storedTare) (hs : x.state = .opened) (hh : x.held = none)
    (hi : x.kind = .receival) (hv : validTare u r.time.day x.plate = none) :
    buildWeighing u r x = .error .noValidTare := by
  simp only [buildWeighing, hk, hs, hh, hi, hv]

theorem closeVisit_negative {first second : Weighing} (h : netOf x.kind first.mass second.mass < 0) :
    closeVisit first second x = .error .netNegative :=
  if_pos h

theorem closeVisit_closes {first second : Weighing} (h : 0 ≤ netOf x.kind first.mass second.mass) :
    closeVisit first second x = .ok { x with
      first := some first, second := some second
      net := some (netOf x.kind first.mass second.mass), state := .closed } :=
  if_neg (by omega)

/-- The valid stored tare of a plate (R113). -/
theorem validTare_iff {today : Nat} {plate : Text} : validTare u today plate = some q ↔
    findTare u plate = some q ∧ 1 ≤ q.uses ∧ today - q.day ≤ u.validity := by
  have hval : ∀ t : TareEntry, tareValidity u today t = .valid ↔ 1 ≤ t.uses ∧ today - t.day ≤ u.validity := by
    intro t
    unfold tareValidity tareAge
    split
    · simp; omega
    · split <;> simp <;> omega
  unfold validTare
  cases hf : findTare u plate with
  | none => simp
  | some t =>
    simp only [hval]
    by_cases h : 1 ≤ t.uses ∧ today - t.day ≤ u.validity
    · rw [if_pos h]
      exact ⟨fun he => by cases he; exact ⟨rfl, h⟩, fun he => he.1⟩
    · rw [if_neg h]
      exact ⟨nofun, fun he => by cases he.1; exact absurd he.2 h⟩

/-- A result keeps what its visit has from its opening and its amendments. -/
theorem buildWeighing_record (h : buildWeighing u r x = .ok y) : takeRecord y x = y := by
  have hc : ∀ f t : Weighing, closeVisit f t x = .ok y → takeRecord y x = y := by
    intro f t hc
    unfold closeVisit at hc
    dsimp only at hc
    split at hc
    · cases hc
    · cases hc
      rfl
  unfold buildWeighing at h
  split at h
  · cases h
    rfl
  · split at h
    · exact hc _ _ h
    · cases h
  · split at h
    · exact hc _ _ h
    · cases h
  · cases h

end

/-! ### The weighing order (R75) -/

/-- The capture result that an order controller hands on (R74). -/
def captureResult (e : OrderCapture) (o : Order) (mass : Int) (m : Marks) (s : State) : CaptureResult where
  order := o
  mass := mass
  due := m.due
  notForTrade := m.notForTrade
  time := s.now
  cal := s.metro.cal
  summary := summaryOf s.check.table
  exit := exitEnd e.direction

/-- The watch channels' judgement of the ticket that a result would become (R139). -/
def judged (r : CaptureResult) (y : Visit) (s : State) : Evaluation :=
  evaluate (contentOf r y) (entryTare s.visit y.plate) s.watch

section
variable {e : OrderCapture} {o : Order} {mass : Int} {m : Marks} {s : State} {x y : Visit} {c : NotCompleted}

theorem weighOrder_eq (e : OrderCapture) (o : Order) (mass : Int) (m : Marks) (s : State) :
    weighOrder e o mass m s = match weighingStep (captureResult e o mass m s) s with
      | (.refused c, s1) => returnOrder e c s1
      | (.issued n, s1) => completeActive (some n) s1
      | (.held, s1) => (setActiveState .held s1).raise (.orderHeld o.visit o.kind) := rfl

theorem weighOrder_refused (hv : findVisit s.visit o.visit = some x)
    (hb : buildWeighing s.visit (captureResult e o mass m s) x = .error c) :
    weighOrder e o mass m s = returnOrder e c s := by
  have hw : weighingStep (captureResult e o mass m s) s = (.refused c, s) := by
    have hv' : findVisit s.visit (captureResult e o mass m s).order.visit = some x := hv
    simp only [weighingStep, hv', hb]
  rw [weighOrder_eq, hw]

theorem weighOrder_held (hv : findVisit s.visit o.visit = some x)
    (hb : buildWeighing s.visit (captureResult e o mass m s) x = .ok y)
    (hw : (judged (captureResult e o mass m s) y s).hold1 = true ∨
      (judged (captureResult e o mass m s) y s).hold2 = true) : weighOrder e o mass m s =
        (setActiveState .held (holdResult (judged (captureResult e o mass m s) y s)
          (captureResult e o mass m s) y s)).raise (.orderHeld o.visit o.kind) := by
  have hw : weighingStep (captureResult e o mass m s) s =
      (.held, holdResult (judged (captureResult e o mass m s) y s) (captureResult e o mass m s) y s) := by
    have hv' : findVisit s.visit (captureResult e o mass m s).order.visit = some x := hv
    simp only [weighingStep, hv', hb]
    exact if_pos (Bool.or_eq_true_iff.mpr hw)
  rw [weighOrder_eq, hw]

theorem weighOrder_issued (hv : findVisit s.visit o.visit = some x)
    (hb : buildWeighing s.visit (captureResult e o mass m s) x = .ok y)
    (h1 : (judged (captureResult e o mass m s) y s).hold1 = false)
    (h2 : (judged (captureResult e o mass m s) y s).hold2 = false) : weighOrder e o mass m s =
        completeActive (some (nextTicket s.ticket.counter)) (issueResult (judged (captureResult e o mass m s) y s)
          (captureResult e o mass m s) y s) := by
  have hw : weighingStep (captureResult e o mass m s) s = (.issued (nextTicket s.ticket.counter),
      issueResult (judged (captureResult e o mass m s) y s) (captureResult e o mass m s) y s) := by
    have hv' : findVisit s.visit (captureResult e o mass m s).order.visit = some x := hv
    simp only [weighingStep, hv', hb]
    refine if_neg ?_
    simp only [judged] at h1 h2
    rw [h1, h2]
    exact Bool.false_ne_true
  rw [weighOrder_eq, hw]

end

/-! ### Held and issued results -/

/-- The watch unit after a judgement: a visit that closes leaves the armed-visit list (R108, R142). -/
def watchAfter (w : Evaluation) (y : Visit) : WatchUnit :=
  { w.unit with armed := if y.state = .closed then w.unit.armed.filter fun n => n ≠ y.number else w.unit.armed }

theorem reportClosed_setWatch (w : Evaluation) (y : Visit) (s : State) :
    reportClosed y (s.setWatch fun _ => w.unit) = s.setWatch fun _ => watchAfter w y := by
  unfold reportClosed watchAfter
  split <;> rfl

section
variable {a : ActiveOrder} {w : Evaluation} {r : CaptureResult} {y : Visit} {s : State}

/-- A held result: its visit's record, a use of its tare, and the watch unit; nothing is issued (R144). -/
theorem holdResult_eq (w : Evaluation) (r : CaptureResult) (y : Visit) (s : State) : holdResult w r y s =
    ((s.setVisit fun u => useOf r.order.kind y.plate
      (putVisit (heldVisit w (markContent w (contentOf r y)) r.time y) u)).setWatch fun _ => watchAfter w y).raiseAll
        w.notes := by
  rw [holdResult, reportClosed_setWatch]

/-- The ticket that a result issues. -/
def ticketOf (w : Evaluation) (r : CaptureResult) (y : Visit) (u : TicketUnit) : Ticket :=
  newTicket u (markContent w (contentOf r y)) r.time

/-- An issued result: counter, journal, record, stored tare and watch unit, then the reports (R121). -/
theorem issueResult_eq (w : Evaluation) (r : CaptureResult) (y : Visit) (s : State) : issueResult w r y s =
    reportTicket (ticketOf w r y s.ticket) ((((s.setVisit fun u =>
      storeAtIssue r.order.storeTare y.number (useOf r.order.kind y.plate
        (putVisit (issuedVisit (nextTicket s.ticket.counter) (markContent w (contentOf r y)) y) u))).setTicket
          (enterTicket (ticketOf w r y s.ticket))).setWatch fun _ => watchAfter w y).raiseAll w.notes) := by
  rw [issueResult, reportClosed_setWatch]
  rfl

theorem heldOrder_eq (c : Cause) (ha : s.order.active = some a) : (setActiveState .held s).raise c =
    (s.setOrder fun u => { u with active := some { a with state := .held } }).raise c := by
  rw [setActiveState_some _ ha]

/-- The notes of a judgement are WATCH events. -/
theorem judged_notes (r : CaptureResult) (y : Visit) (s : State) {k : Fin 9} (hk : k ≠ 5) :
    ∀ c ∈ (judged r y s).notes, categoryOf c ≠ k := by
  intro c hc
  rw [evaluate_notes _ _ _ c hc]
  exact hk.symm

end
end Sys2Proof.Machine

/-!
A weighing order at the window end: refused, held or issued, as the state before the sample gives it (R74, R75, R110).
-/

namespace Sys2Proof.Machine

/-! ### The result of the window end -/

/-- I in kg (R70). -/
def endIndication (d : DeckId) (g : Int) (e : OrderCapture) (s : State) : Int :=
  roundDiv (endMass d g e s) (s.legal.interval * 1000) * s.legal.interval

/-- The stop of a whole-vehicle order. -/
def wholeStop (d : DeckId) (g : Int) (e : OrderCapture) (s : State) : Stop :=
  endStop d g e (some (endIndication d g e s)) s

/-- The capture result of a weighing order (R74). -/
def endResult (d : DeckId) (g : Int) (e : OrderCapture) (a : ActiveOrder) (s : State) : CaptureResult where
  order := a.order
  mass := endIndication d g e s
  due := someDeck s .due
  notForTrade := someDeck s .suspect
  time := ⟨s.clock.day, s.clock.sec⟩
  cal := s.metro.cal
  summary := summaryOf (tableAfter a.order (wholeStop d g e s) s)
  exit := exitEnd e.direction

/-- FIRST_WEIGH, SECOND_WEIGH and STORED_TARE (R60). -/
abbrev IsWeighing (k : OrderKind) : Prop := k = .firstWeigh ∨ k = .secondWeigh ∨ k = .storedTare

section
variable {d : DeckId} {conv : Conversion} {g : Int} {e : OrderCapture} {a : ActiveOrder} {s : State}

theorem captureResult_end {n : State} (hn : WithStop a.order (wholeStop d g e s) n s) :
    captureResult (lastTaken d g e s) a.order (endIndication d g e s) (endMarks s) n = endResult d g e a s := by
  rw [captureResult, hn.check, hn.cal, (lastTaken_fromState d g e s).2, State.now, hn.clock]
  rfl

/-- A weighing order's completion (R74, R75). -/
theorem EndsWindow.weighing (h : EndsWindow d conv g e a s) (hr : ResultStands (endMass d g e s) s)
    (hk : IsWeighing a.order.kind) : ∃ n, WithStop a.order (wholeStop d g e s) n s ∧ n.order.active = some a ∧
      completeCapture ((afterMonitor d conv s).setOrder fun u => { u with engine := some (lastTaken d g e s) }) =
        weighOrder (lastTaken d g e s) a.order (endIndication d g e s) (endMarks s) n := by
  have hst : stopOf (lastTaken d g e s) a.order.kind (engineIdle (afterMonitor d conv s)) = wholeStop d g e s := by
    rw [h.stop h.idleBooks, if_neg (by rcases hk with hk | hk | hk <;> rw [hk] <;> nofun)]
    rfl
  have hmass : indicated (engineIdle (afterMonitor d conv s)).legal
      (Machine.vehicleMass (lastTaken d g e s) (engineIdle (afterMonitor d conv s)).inUse) = endIndication d g e s := by
    rw [h.vehicleMass h.idleBooks.legal, indicated, State.legal, h.idleBooks.legal]
    rfl
  have hN := h.takesStop (wholeStop d g e s)
  refine ⟨_, hN, by rw [hN.order]; exact h.active, ?_⟩
  rw [h.stands hr, ← h.tradeMarks, ← hmass, ← hst]
  rcases hk with hk | hk | hk <;> simp only [completeStop, hk]

/-- What a sample leaves of a state in which the order is not tested. -/
theorem EndsWindow.leaves (h : EndsWindow d conv g e a s) {x : State}
    (hx : completeCapture ((afterMonitor d conv s).setOrder fun u => { u with engine := some (lastTaken d g e s) }) = x)
    (he : x.order.engine = none) (ha : ∀ b, x.order.active = some b → b.state ≠ .waiting ∧ b.state ≠ .surveying) :
    ∃ t, Machine.exec (.captureWindowEnd d conv) s = .next t ∧ t.order.engine = none ∧
      t.order.active = x.order.active ∧ t.order.stops = x.order.stops ∧ t.check = x.check ∧ t.visit = x.visit ∧
      t.ticket = x.ticket ∧ t.watch = x.watch ∧
      ∀ (q : Port) (k : Fin 9), (t.portState q).events[k] = (x.portState q).events[k] := by
  have hA := afterCompletion_stands ((sampleMonitor d conv s).notes.contains (.entered .empty)) d he
  obtain ⟨hte, hta⟩ := hA.stays fun b hb => ⟨(ha b hb).1, .inl (ha b hb).2⟩
  have hb := hA.blocks
  simp only [Prod.mk.injEq] at hb
  obtain ⟨-, hcheck, hvisit, hticket, hwatch, -⟩ := hb
  exact ⟨_, h.exec hx he, hte, hta, hA.stops, hcheck, hvisit, hticket, hwatch, hA.events⟩

/-! ### Refused -/

/-- R75: a refused weighing keeps its stop; its order is given back. -/
theorem EndsWindow.weighRefused (h : EndsWindow d conv g e a s) (hr : ResultStands (endMass d g e s) s)
    (hk : IsWeighing a.order.kind) {x : Visit} (hv : findVisit s.visit a.order.visit = some x) {c : NotCompleted}
    (hb : buildWeighing s.visit (endResult d g e a s) x = .error c) :
    ∃ t, (Machine.exec (.captureWindowEnd d conv) s = .next t ∧ t.order.stops = stopsAfter (wholeStop d g e s) s ∧
      t.check = { s.check with table := tableAfter a.order (wholeStop d g e s) s }) ∧ GivenBack d e a s t ∧
      (d ≠ 0 → t.order.condRun = 0) ∧ t.visit = s.visit ∧ t.ticket = s.ticket ∧ t.watch = s.watch ∧
      ∀ q, (t.portState q).events[(2 : Fin 9)].latest =
        some (.orderNotCompleted a.order.visit a.order.kind c, ⟨s.clock.day, s.clock.sec⟩) := by
  obtain ⟨n, hN, ha, hx⟩ := h.weighing hr hk
  rw [weighOrder_refused (x := x) (c := c) (by rw [hN.visit, hv]) (by rw [captureResult_end hN, hN.visit, hb]),
    returnOrder_some _ c ha, (lastTaken_fromState d g e s).1] at hx
  have he : ((n.setOrder fun u => { u with active := some { a with state := e.fromState }, condRun := 0 }).raise
      (.orderNotCompleted a.order.visit a.order.kind c)).order.engine = none :=
    (show n.order.engine = none by rw [hN.order])
  have hA := afterCompletion_stands ((sampleMonitor d conv s).notes.contains (.entered .empty)) d he
  obtain ⟨hback, hrun⟩ := hA.givenBack (s := s) (a := a) (e := e) rfl rfl
    (by simp only [State.captureSettings, State.raise_order, State.setOrder_order, hN.order]) hN.axle
  have hbl := hA.blocks
  simp only [Prod.mk.injEq] at hbl
  obtain ⟨-, hcheck, hvisit, hticket, hwatch, -⟩ := hbl
  refine ⟨_, ⟨h.exec hx he, hA.stops.trans (show n.order.stops = _ by rw [hN.order]), hcheck.trans hN.check⟩, hback,
    hrun, hvisit.trans hN.visit, hticket.trans hN.ticket, hwatch.trans hN.watch, fun q => ?_⟩
  rw [hA.events, raise_event, if_pos (by rfl), ← hN.clock]
  rfl

theorem judged_withStop {n : State} {r : CaptureResult} {y : Visit} {o : Order} {st : Stop} (hn : WithStop o st n s) :
    judged r y n = judged r y s := by
  rw [judged, judged, hn.visit, hn.watch]

/-! ### Held -/

/-- R111, R144: a held weighing is kept in its visit; no number is taken. -/
theorem EndsWindow.weighHeld (h : EndsWindow d conv g e a s) (hr : ResultStands (endMass d g e s) s)
    (hk : IsWeighing a.order.kind) {x y : Visit} (hv : findVisit s.visit a.order.visit = some x)
    (hb : buildWeighing s.visit (endResult d g e a s) x = .ok y) {w : Evaluation}
    (hw : judged (endResult d g e a s) y s = w) (hh : w.hold1 = true ∨ w.hold2 = true) :
    ∃ t, (Machine.exec (.captureWindowEnd d conv) s = .next t ∧ t.order.stops = stopsAfter (wholeStop d g e s) s ∧
      t.check = { s.check with table := tableAfter a.order (wholeStop d g e s) s }) ∧ t.order.engine = none ∧
      t.order.active = some { a with state := .held } ∧ t.ticket = s.ticket ∧ t.watch = watchAfter w y ∧
      t.visit = useOf a.order.kind y.plate
        (putVisit (heldVisit w (markContent w (contentOf (endResult d g e a s) y)) ⟨s.clock.day, s.clock.sec⟩ y)
          s.visit) ∧
      ∀ q, (t.portState q).events[(2 : Fin 9)].latest =
        some (.orderHeld a.order.visit a.order.kind, ⟨s.clock.day, s.clock.sec⟩) := by
  obtain ⟨n, hN, ha, hx⟩ := h.weighing hr hk
  have hres := captureResult_end hN
  have hjudged : judged (captureResult (lastTaken d g e s) a.order (endIndication d g e s) (endMarks s) n) y n = w := by
    rw [hres, judged_withStop hN, hw]
  rw [weighOrder_held (x := x) (y := y) (by rw [hN.visit, hv]) (by rw [hres, hN.visit, hb]) (by rwa [hjudged]), hjudged,
    hres, holdResult_eq] at hx
  obtain ⟨z, hz⟩ : ∃ z, z = ((n.setVisit fun u => useOf (endResult d g e a s).order.kind y.plate
      (putVisit (heldVisit w (markContent w (contentOf (endResult d g e a s) y)) (endResult d g e a s).time y) u)).setWatch
        fun _ => watchAfter w y).raiseAll w.notes := ⟨_, rfl⟩
  rw [← hz] at hx
  rw [raiseAll_eq] at hz
  have hzorder : z.order = n.order := by rw [hz]; rfl
  have hzclock : z.clock = s.clock := by rw [hz]; exact hN.clock
  have hzcheck : z.check = n.check := by rw [hz]; rfl
  have hzticket : z.ticket = n.ticket := by rw [hz]; rfl
  have hzwatch : z.watch = watchAfter w y := by rw [hz]; rfl
  have hzvisit : z.visit = useOf a.order.kind y.plate (putVisit
      (heldVisit w (markContent w (contentOf (endResult d g e a s) y)) ⟨s.clock.day, s.clock.sec⟩ y) s.visit) := by
    rw [hz, ← hN.visit]
    rfl
  rw [heldOrder_eq (a := a) _ (by rw [hzorder, ha])] at hx
  obtain ⟨t, ht, hte, hta, hstops, hcheck, hvisit, hticket, hwatch, hev⟩ := h.leaves hx
    (show z.order.engine = none by rw [hzorder, hN.order]) fun b hb => by cases hb; exact ⟨nofun, nofun⟩
  refine ⟨t, ⟨ht, hstops.trans (show z.order.stops = _ by rw [hzorder, hN.order]),
    hcheck.trans (hzcheck.trans hN.check)⟩, hte, hta, hticket.trans (hzticket.trans hN.ticket), hwatch.trans hzwatch,
    hvisit.trans hzvisit, fun q => ?_⟩
  rw [hev, raise_event, if_pos (by rfl), ← hzclock]
  rfl

/-! ### Issued -/

/-- R121: an issued weighing takes the next number, and its ticket is queued. -/
theorem EndsWindow.weighIssued (h : EndsWindow d conv g e a s) (hr : ResultStands (endMass d g e s) s)
    (hk : IsWeighing a.order.kind) {x y : Visit} (hv : findVisit s.visit a.order.visit = some x)
    (hb : buildWeighing s.visit (endResult d g e a s) x = .ok y) {w : Evaluation}
    (hw : judged (endResult d g e a s) y s = w) (h1 : w.hold1 = false) (h2 : w.hold2 = false) :
    ∃ t, (Machine.exec (.captureWindowEnd d conv) s = .next t ∧ t.order.stops = stopsAfter (wholeStop d g e s) s ∧
      t.check = { s.check with table := tableAfter a.order (wholeStop d g e s) s }) ∧ t.order.engine = none ∧
      t.order.active = some { a with state := .complete } ∧
      t.ticket.counter = nextTicket s.ticket.counter ∧ t.watch = watchAfter w y ∧
      t.ticket.journal = journalAppend s.ticket.journal (ticketOf w (endResult d g e a s) y s.ticket) ∧
      TicketQueued (ticketOf w (endResult d g e a s) y s.ticket) s t ∧
      t.visit = storeAtIssue a.order.storeTare y.number (useOf a.order.kind y.plate
        (putVisit (issuedVisit (nextTicket s.ticket.counter) (markContent w (contentOf (endResult d g e a s) y)) y)
          s.visit)) ∧
      ∀ q, (t.portState q).events[(2 : Fin 9)].latest =
        some (.orderComplete a.order.visit a.order.kind (some (nextTicket s.ticket.counter)),
          ⟨s.clock.day, s.clock.sec⟩) := by
  obtain ⟨n, hN, ha, hx⟩ := h.weighing hr hk
  have hres := captureResult_end hN
  have hjudged : judged (captureResult (lastTaken d g e s) a.order (endIndication d g e s) (endMarks s) n) y n = w := by
    rw [hres, judged_withStop hN, hw]
  have hnotes : ∀ c ∈ w.notes, categoryOf c ≠ 4 := by
    rw [← hw]
    exact judged_notes _ _ _ (by decide)
  rw [weighOrder_issued (x := x) (y := y) (by rw [hN.visit, hv]) (by rw [hres, hN.visit, hb]) (by rwa [hjudged])
    (by rwa [hjudged]), hjudged, hres, issueResult_eq, hN.ticket] at hx
  obtain ⟨z, hz⟩ : ∃ z, z = (((n.setVisit fun u =>
      storeAtIssue (endResult d g e a s).order.storeTare y.number (useOf (endResult d g e a s).order.kind y.plate
        (putVisit (issuedVisit (nextTicket s.ticket.counter)
          (markContent w (contentOf (endResult d g e a s) y)) y) u))).setTicket
            (enterTicket (ticketOf w (endResult d g e a s) y s.ticket))).setWatch fun _ => watchAfter w y).raiseAll
              w.notes := ⟨_, rfl⟩
  rw [← hz] at hx
  have hzp : ∀ q, z.printEvents q = s.printEvents q := by
    intro q
    rw [hz, State.printEvents, raiseAll_event hnotes]
    exact hN.events q 4 nofun
  rw [raiseAll_eq] at hz
  have hzorder : z.order = n.order := by rw [hz]; rfl
  have hzclock : z.clock = s.clock := by rw [hz]; exact hN.clock
  have hzcheck : z.check = n.check := by rw [hz]; rfl
  have hzwatch : z.watch = watchAfter w y := by rw [hz]; rfl
  have hzvisit : z.visit = storeAtIssue a.order.storeTare y.number (useOf a.order.kind y.plate
      (putVisit (issuedVisit (nextTicket s.ticket.counter)
        (markContent w (contentOf (endResult d g e a s) y)) y) s.visit)) := by
    rw [hz, ← hN.visit]
    rfl
  have hzticket : z.ticket = enterTicket (ticketOf w (endResult d g e a s) y s.ticket) s.ticket := by
    rw [hz, ← hN.ticket]
    rfl
  obtain ⟨hrcheck, hrclock, hrvisit, hrwatch, hrorder, -, hrcount, hrjournal⟩ :=
    reportTicket_keeps (ticketOf w (endResult d g e a s) y s.ticket) z
  have hra : (reportTicket (ticketOf w (endResult d g e a s) y s.ticket) z).order.active = some a := by
    rw [hrorder, hzorder, ha]
  rw [completeActive_some _ hra] at hx
  obtain ⟨t, ht, hte, hta, hstops, hcheck, hvisit, hticket, hwatch, hev⟩ := h.leaves hx
    (show (reportTicket _ z).order.engine = none by rw [hrorder, hzorder, hN.order])
    fun b hb => by cases hb; exact ⟨nofun, nofun⟩
  refine ⟨t, ⟨ht, ?_, ?_⟩, hte, hta, ?_, ?_, ?_, ?_, ?_, fun q => ?_⟩
  · exact hstops.trans (show (reportTicket _ z).order.stops = _ by rw [hrorder, hzorder, hN.order])
  · exact hcheck.trans (hrcheck.trans (hzcheck.trans hN.check))
  · rw [hticket]
    exact hrcount.trans (by rw [hzticket]; rfl)
  · exact hwatch.trans (hrwatch.trans hzwatch)
  · rw [hticket]
    exact hrjournal.trans (by rw [hzticket]; rfl)
  · refine reportTicket_queued hzclock hzp (fun i => ?_) hticket (hcheck.trans hrcheck) fun q => ?_
    · rw [hzticket]
      cases i <;> rfl
    · refine (hev q 4).trans ((raise_printEvents _ _ q).trans ?_)
      rw [if_neg (by simp [categoryOf])]
      rfl
  · exact hvisit.trans (hrvisit.trans hzvisit)
  · rw [hev, raise_event, if_pos (by rfl), withEvent]
    exact congrArg (fun c : Clock => some (_, (⟨c.day, c.sec⟩ : Stamp))) (hrclock.trans hzclock)

end
end Sys2Proof.Machine

/-!
What each kind of weighing builds, and the record and the stored tares that it leaves (R111, R113, R115, R121).
-/

namespace Sys2Proof.Machine

/-! ### The built visit and its ticket -/

section
variable {u : VisitUnit} {r : CaptureResult} {x y : Visit} {w : Weighing} {q : TareEntry}

theorem netOf_eq (k : VisitKind) (f t : Int) : netOf k f t = if k = .receival then f - t else t - f := by
  cases k <;> rfl

theorem firstRole_eq (k : VisitKind) : firstRole k = if k = .receival then .gross else .tare := by cases k <;> rfl

theorem secondRole_eq (k : VisitKind) : secondRole k = if k = .receival then .tare else .gross := by cases k <;> rfl

/-- The watch marks of a visit are not changed by a result that is built. -/
theorem buildWeighing_marks (h : buildWeighing u r x = .ok y) : y.w1 = x.w1 ∧ y.w2 = x.w2 := by
  have hc : ∀ f t : Weighing, closeVisit f t x = .ok y → y.w1 = x.w1 ∧ y.w2 = x.w2 := by
    intro f t hc
    unfold closeVisit at hc
    dsimp only at hc
    split at hc
    · cases hc
    · cases hc
      exact ⟨rfl, rfl⟩
  unfold buildWeighing at h
  split at h
  · cases h
    exact ⟨rfl, rfl⟩
  · split at h
    · exact hc _ _ h
    · cases h
  · split at h
    · exact hc _ _ h
    · cases h
  · cases h

/-- The ticket content that a result's visit gives besides its masses and marks. -/
def contentWith (r : CaptureResult) (x : Visit) (k : TicketKind) (ms : TicketMasses) (mk : Marks) : TicketContent :=
  ⟨k, x.number, x.kind, x.plate, x.commodity, x.grade, x.cls, ms, r.summary, mk, r.cal, r.exit, r.order.storeTare⟩

theorem contentOf_first (hk : r.order.kind = .firstWeigh) (hs : x.second = none) :
    contentOf r { x with first := some (capturedWeighing r (firstRole x.kind)), state := .firstDone } =
      contentWith r x .first (.first r.mass (firstRole x.kind) r.time) ⟨r.due, r.notForTrade, false, false, false⟩ := by
  simp only [contentOf, hk, hs]
  rfl

theorem contentOf_second (hk : r.order.kind = .secondWeigh) {n : Int} :
    contentOf r { x with
      first := some w, second := some (capturedWeighing r (secondRole x.kind)), net := some n, state := .closed } =
      contentWith r x .final (if x.kind = .receival then
          .final w.mass r.mass (netOf x.kind w.mass r.mass) .captured w.time r.time
        else .final r.mass w.mass (netOf x.kind w.mass r.mass) w.source r.time w.time)
        ⟨w.due || r.due, w.notForTrade || r.notForTrade, false, false, false⟩ := by
  simp only [contentOf, hk, contentWith]
  cases hx : x.kind <;> rfl

theorem contentOf_stored (hk : r.order.kind = .storedTare) (hi : x.kind = .receival) {n : Int} :
    contentOf r { x with
      first := some (capturedWeighing r .gross), second := some (storedWeighing r q), net := some n
      state := .closed } =
      contentWith r x .final (.final r.mass q.tare (netOf x.kind r.mass q.tare) .stored r.time ⟨q.day, 0⟩)
        ⟨r.due, r.notForTrade, false, false, false⟩ := by
  have hd : (r.due || r.due) = r.due := Bool.or_self _
  have hn : (r.notForTrade || r.notForTrade) = r.notForTrade := Bool.or_self _
  simp only [contentOf, hk, ticketMasses, hi, contentWith, joinMarks, weighingMarks, capturedWeighing, storedWeighing,
    hd, hn, Bool.or_self]

/-! ### The record and the tares -/

/-- The visit's new record once its result is put in its place (R105, R111). -/
theorem findVisit_put (h : findVisit u y.number = some x) (k : OrderKind) (plate : Text) (m : Nat) :
    findVisit (useOf k plate (putVisit y u)) m =
      if m = y.number then some { takeRecord y x with revision := x.revision + 1 } else findVisit u m := by
  rw [useOf_visits, findVisit_putVisit]
  split
  · rename_i hm
    rw [hm, h]
    rfl
  · rfl

theorem useOf_put_tares (k : OrderKind) (plate : Text) (v : Visit) (u : VisitUnit) :
    (useOf k plate (putVisit v u)).tares =
      if k = .storedTare then u.tares.map fun q => if q.plate = plate then { q with uses := q.uses - 1 } else q
        else u.tares :=
  useOf_tares k plate (putVisit v u)

/-- A captured gross with a stored tare has no captured tare (R115). -/
theorem capturedTare_stored {f t : Weighing} (hf : y.first = some f) (ht : y.second = some t) (hr : f.role = .gross)
    (hs : t.source = .stored) : capturedTare y = none := by
  simp [capturedTare, hf, ht, hr, hs]

/-- After a gross the captured tare is the second weighing (R115). -/
theorem capturedTare_second {f t : Weighing} (hf : y.first = some f) (ht : y.second = some t) (hr : f.role = .gross)
    (hs : t.source = .captured) (htr : t.role = .tare) : capturedTare y = some t := by
  simp [capturedTare, hf, ht, hr, hs, htr]

theorem nextTicket_eq (n : Nat) : nextTicket n = if n < 999999 then n + 1 else 1 := by
  unfold nextTicket
  split <;> split <;> omega

/-- Of 512 tickets the oldest leaves (R124). -/
theorem journalAppend_eq (j : List Ticket) (t : Ticket) :
    journalAppend j t = (j ++ [t]).drop (if 512 ≤ j.length then 1 else 0) := by
  unfold journalAppend
  split
  · rw [List.drop_append_of_le_length (by omega)]
  · rfl

end

/-! ### Visits after the step -/

section
variable {u : VisitUnit} {r : CaptureResult} {x y : Visit} {n : Nat} {w : Evaluation}

/-- The record of a held result (R111, R144). -/
theorem findVisit_held (hx : findVisit u n = some x) (hb : buildWeighing u r x = .ok y) (c : TicketContent)
    (t : Stamp) (m : Nat) : findVisit (useOf r.order.kind y.plate (putVisit (heldVisit w c t y) u)) m =
      if m = n then some { y with
        held := some ⟨c, w.hold1, w.hold2, t⟩
        w1 := x.w1 || c.marks.w1
        w2 := x.w2 || c.marks.w2
        revision := x.revision + 1 } else findVisit u m := by
  have hrec := buildWeighing_record hb
  obtain ⟨hw1, hw2⟩ := buildWeighing_marks hb
  have hn : (heldVisit w c t y).number = n :=
    (congrArg Visit.number hrec).symm.trans (findVisit_number hx).1
  have htake : takeRecord (heldVisit w c t y) x = { takeRecord y x with
      held := some ⟨c, w.hold1, w.hold2, t⟩, w1 := y.w1 || c.marks.w1, w2 := y.w2 || c.marks.w2 } := rfl
  rw [findVisit_put (by rw [hn, hx]), hn, htake, hrec, hw1, hw2]

/-- The record of an issued result (R111, R121). -/
theorem findVisit_issued (hx : findVisit u n = some x) (hb : buildWeighing u r x = .ok y) (k : Nat)
    (c : TicketContent) (m : Nat) : findVisit (useOf r.order.kind y.plate (putVisit (issuedVisit k c y) u)) m =
      if m = n then some { y with
        first := fillNumber k y.first
        second := fillNumber k y.second
        summary := some c.summary
        w1 := x.w1 || c.marks.w1
        w2 := x.w2 || c.marks.w2
        revision := x.revision + 1 } else findVisit u m := by
  have hrec := buildWeighing_record hb
  obtain ⟨hw1, hw2⟩ := buildWeighing_marks hb
  have hn : (issuedVisit k c y).number = n :=
    (congrArg Visit.number hrec).symm.trans (findVisit_number hx).1
  have htake : takeRecord (issuedVisit k c y) x = { takeRecord y x with
      first := fillNumber k y.first, second := fillNumber k y.second, summary := some c.summary
      w1 := y.w1 || c.marks.w1, w2 := y.w2 || c.marks.w2 } := rfl
  rw [findVisit_put (by rw [hn, hx]), hn, htake, hrec, hw1, hw2]

/-! ### The stored tares after an issue (R113, R115) -/

/-- A number filled in leaves the role. -/
theorem fillNumber_role {w : Weighing} :
    (if w.ticket = none then { w with ticket := some n } else w).role = w.role := by
  split <;> rfl

/-- Without the flag, or with a stored tare, an issue leaves the entries but for the use taken. -/
theorem storeAtIssue_keeps (hx : findVisit u n = some x) (hb : buildWeighing u r x = .ok y) (k : Nat)
    (c : TicketContent) {flag : Bool} (h : flag = false ∨ ∃ f t, y.first = some f ∧ f.role = .gross ∧ f.ticket = none ∧
      y.second = some t ∧ t.source = .stored ∧ t.ticket = none) :
    (storeAtIssue flag y.number (useOf r.order.kind y.plate (putVisit (issuedVisit k c y) u))).tares =
      if r.order.kind = .storedTare then
        u.tares.map fun q => if q.plate = y.plate then { q with uses := q.uses - 1 } else q
      else u.tares := by
  have hn : y.number = n := (congrArg Visit.number (buildWeighing_record hb)).symm.trans (findVisit_number hx).1
  have hself := (findVisit_issued hx hb k c y.number).trans (if_pos hn)
  rw [← useOf_put_tares r.order.kind y.plate (issuedVisit k c y) u]
  rcases h with rfl | ⟨f, t, hf, hr, hfn, ht, hs, htn⟩
  · rw [storeAtIssue_off]
  · have hf' : fillNumber k y.first = some { f with ticket := some k } := by
      simp only [fillNumber, hf, hfn, Option.map_some, if_true]
    have ht' : fillNumber k y.second = some { t with ticket := some k } := by
      simp only [fillNumber, ht, htn, Option.map_some, if_true]
    rw [storeAtIssue_none hself (capturedTare_stored hf' ht' hr hs)]

/-- With the flag a captured second tare becomes its plate's entry, unless it carries NOT_FOR_TRADE. -/
theorem storeAtIssue_second (hx : findVisit u n = some x) (hb : buildWeighing u r x = .ok y) (k : Nat)
    (c : TicketContent) (hk : r.order.kind = .secondWeigh) {f t : Weighing} (hf : y.first = some f)
    (hr : f.role = .gross) (ht : y.second = some t) (hs : t.source = .captured) (htr : t.role = .tare)
    (htn : t.ticket = none) {v : VisitUnit}
    (hv : v = storeAtIssue true y.number (useOf r.order.kind y.plate (putVisit (issuedVisit k c y) u))) :
    (t.notForTrade = true → v.tares = u.tares) ∧ (t.notForTrade = false →
      ∃ rest, v.tares = rest ++ [⟨y.plate, t.mass, t.time.day, u.initialUses⟩] ∧
        ∀ z ∈ rest, z ∈ u.tares ∧ z.plate ≠ y.plate) := by
  have hn : y.number = n := (congrArg Visit.number (buildWeighing_record hb)).symm.trans (findVisit_number hx).1
  have hself := (findVisit_issued hx hb k c y.number).trans (if_pos hn)
  have hf' : fillNumber k y.first = some (if f.ticket = none then { f with ticket := some k } else f) := by
    rw [fillNumber, hf, Option.map_some]
  have ht' : fillNumber k y.second = some { t with ticket := some k } := by
    simp only [fillNumber, ht, htn, Option.map_some, if_true]
  have hbase : (useOf r.order.kind y.plate (putVisit (issuedVisit k c y) u)).tares = u.tares :=
    (useOf_put_tares ..).trans (if_neg (by rw [hk]; nofun))
  rw [storeAtIssue_on hself (capturedTare_second hf' ht' (fillNumber_role.trans hr) hs htr)] at hv
  refine ⟨fun hm => ?_, fun hm => ?_⟩
  · rw [hv, if_pos hm, hbase]
  · obtain ⟨rest, hrest, hall⟩ := tareWrite_tares (useOf r.order.kind y.plate (putVisit (issuedVisit k c y) u)) y.plate
      t.mass t.time.day
    rw [hbase] at hall
    rw [useOf_initialUses] at hrest
    rw [hv, if_neg fun hc => Bool.false_ne_true (hm.symm.trans hc)]
    exact ⟨rest, hrest, hall⟩

end
end Sys2Proof.Machine

/-!
The three weighings from the state before the sample (R111, R113), and O42 assembled.
-/

namespace Sys2Proof.Machine

section
variable {d : DeckId} {g : Int} {e : OrderCapture} {a : ActiveOrder} {x : Visit} {s : State}

/-- What a FIRST_WEIGH builds (R111). -/
theorem built_first (hk : a.order.kind = .firstWeigh) (hs : x.state = .opened) (hh : x.held = none)
    (h2 : x.second = none) : ∃ y, y = { x with
      first := some ⟨endIndication d g e s, if x.kind = .receival then .gross else .tare, .captured,
        ⟨s.clock.day, s.clock.sec⟩, none, someDeck s .due, someDeck s .suspect, s.metro.cal⟩
      state := .firstDone } ∧ buildWeighing s.visit (endResult d g e a s) x = .ok y ∧
    contentOf (endResult d g e a s) y = contentWith (endResult d g e a s) x .first
      (.first (endIndication d g e s) (if x.kind = .receival then .gross else .tare) ⟨s.clock.day, s.clock.sec⟩)
      ⟨someDeck s .due, someDeck s .suspect, false, false, false⟩ := by
  have hb := buildWeighing_first (u := s.visit) (r := endResult d g e a s) hk hs hh
  have hc := contentOf_first (r := endResult d g e a s) (x := x) hk h2
  rw [firstRole_eq] at hb hc
  exact ⟨_, rfl, hb, hc⟩

/-- What a SECOND_WEIGH builds (R111). -/
theorem built_second {w : Weighing} (hk : a.order.kind = .secondWeigh) (hs : x.state = .firstDone)
    (hh : x.held = none) (hf : x.first = some w)
    (hn : 0 ≤ if x.kind = .receival then w.mass - endIndication d g e s else endIndication d g e s - w.mass) :
    ∃ y, y = { x with
      second := some ⟨endIndication d g e s, if x.kind = .receival then .tare else .gross, .captured,
        ⟨s.clock.day, s.clock.sec⟩, none, someDeck s .due, someDeck s .suspect, s.metro.cal⟩
      net := some (if x.kind = .receival then w.mass - endIndication d g e s else endIndication d g e s - w.mass)
      state := .closed } ∧ buildWeighing s.visit (endResult d g e a s) x = .ok y ∧
    contentOf (endResult d g e a s) y = contentWith (endResult d g e a s) x .final
      (if x.kind = .receival then .final w.mass (endIndication d g e s)
          (if x.kind = .receival then w.mass - endIndication d g e s else endIndication d g e s - w.mass) .captured
          w.time ⟨s.clock.day, s.clock.sec⟩
        else .final (endIndication d g e s) w.mass
          (if x.kind = .receival then w.mass - endIndication d g e s else endIndication d g e s - w.mass) w.source
          ⟨s.clock.day, s.clock.sec⟩ w.time)
      ⟨w.due || someDeck s .due, w.notForTrade || someDeck s .suspect, false, false, false⟩ := by
  have hnet : netOf x.kind w.mass (capturedWeighing (endResult d g e a s) (secondRole x.kind)).mass =
      if x.kind = .receival then w.mass - endIndication d g e s else endIndication d g e s - w.mass := netOf_eq ..
  have hb := (buildWeighing_second (u := s.visit) (r := endResult d g e a s) hk hs hh hf).trans
    (closeVisit_closes (by rwa [hnet]))
  have hc := contentOf_second (r := endResult d g e a s) (x := x) (w := w) hk
    (n := netOf x.kind w.mass (capturedWeighing (endResult d g e a s) (secondRole x.kind)).mass)
  rw [hnet, secondRole_eq, ← hf] at hb
  rw [hnet, secondRole_eq, ← hf, netOf_eq] at hc
  exact ⟨_, rfl, hb, hc⟩

/-- What a STORED_TARE builds (R113). -/
theorem built_stored {q : TareEntry} (hk : a.order.kind = .storedTare) (hs : x.state = .opened) (hh : x.held = none)
    (hi : x.kind = .receival) (hq : findTare s.visit x.plate = some q) (hu : 1 ≤ q.uses)
    (hv : s.clock.day - q.day ≤ s.visit.validity) (hn : 0 ≤ endIndication d g e s - q.tare) :
    ∃ y, y = { x with
      first := some ⟨endIndication d g e s, .gross, .captured, ⟨s.clock.day, s.clock.sec⟩, none, someDeck s .due,
        someDeck s .suspect, s.metro.cal⟩
      second := some ⟨q.tare, .tare, .stored, ⟨q.day, 0⟩, none, someDeck s .due, someDeck s .suspect, s.metro.cal⟩
      net := some (endIndication d g e s - q.tare)
      state := .closed } ∧ buildWeighing s.visit (endResult d g e a s) x = .ok y ∧
    contentOf (endResult d g e a s) y = contentWith (endResult d g e a s) x .final
      (.final (endIndication d g e s) q.tare (endIndication d g e s - q.tare) .stored ⟨s.clock.day, s.clock.sec⟩
        ⟨q.day, 0⟩) ⟨someDeck s .due, someDeck s .suspect, false, false, false⟩ := by
  have hnet : netOf x.kind (capturedWeighing (endResult d g e a s) .gross).mass
      (storedWeighing (endResult d g e a s) q).mass = endIndication d g e s - q.tare := by rw [hi]; rfl
  have hval : validTare s.visit (endResult d g e a s).time.day x.plate = some q := validTare_iff.mpr ⟨hq, hu, hv⟩
  have hb := (buildWeighing_stored (u := s.visit) (r := endResult d g e a s) hk hs hh hi hval).trans
    (closeVisit_closes (by rwa [hnet]))
  have hc := contentOf_stored (r := endResult d g e a s) (x := x) (q := q) hk hi
    (n := netOf x.kind (capturedWeighing (endResult d g e a s) .gross).mass
      (storedWeighing (endResult d g e a s) q).mass)
  have hnet' : netOf x.kind (endResult d g e a s).mass q.tare = endIndication d g e s - q.tare := hnet
  rw [hnet] at hb
  rw [hnet, hnet'] at hc
  exact ⟨_, rfl, hb, hc⟩

theorem endResult_exit (d : DeckId) (g : Int) (e : OrderCapture) (a : ActiveOrder) (s : State) :
    (endResult d g e a s).exit = if e.direction = some .forward then .b else .a := exitEnd_eq _

/-- An OPEN visit that is sound has no weighing (R111). -/
theorem visitOk_opened (h : visitOk x = true) (hs : x.state = .opened) : x.second = none ∧ x.held = none := by
  simp only [visitOk, hs, Bool.and_eq_true, Option.isNone_iff_eq_none] at h
  exact ⟨h.1.1.2, h.2⟩

/-- A FIRST_DONE visit that is sound has its first weighing in its first role (R111). -/
theorem visitOk_firstDone {w : Weighing} (h : visitOk x = true) (hs : x.state = .firstDone) (hf : x.first = some w) :
    w.role = firstRole x.kind := by
  simp only [visitOk, hs, hf, Bool.and_eq_true, decide_eq_true_eq] at h
  exact h.1.2

end

/-- Settles O42: refused with the stop kept, held with no number, or issued with the next one. -/
theorem weighingsAreIssuedOrHeld : Obligations.WeighingsAreIssuedOrHeld := by
  intro d conv g e a x s h hr hv hok hheld mass now due nft captured st summary entry valid inbound secondNet
    latestOrder stopTaken refusedBy builds
  have hnumber : x.number = a.order.visit := (findVisit_number hv).1
  have refuse : ∀ c, IsWeighing a.order.kind → buildWeighing s.visit (endResult d g e a s) x = .error c →
      refusedBy c := by
    intro c hk hb
    obtain ⟨t, ⟨ht, hst, hch⟩, hback, hrun, hvis, htk, hw, hlatest⟩ := h.weighRefused hr hk hv hb
    exact ⟨t, ⟨ht, hst, hch, fun m _ => by rw [hvis]⟩, hback, hrun, hvis, htk, hw, hlatest⟩
  refine ⟨fun hk hs w hf hn => ?negative, fun hk hs hi => ⟨fun hno => ?noTare, fun q hq hval hn => ?negativeStored⟩,
    fun y k ms mk hbuild => ?built⟩
  case negative =>
    refine refuse _ (.inr (.inl hk)) ((buildWeighing_second hk hs hheld hf).trans (closeVisit_negative ?_))
    exact (netOf_eq ..).trans_lt hn
  case noTare =>
    refine refuse _ (.inr (.inr hk)) (buildWeighing_noTare hk hs hheld hi ?_)
    by_contra hne
    obtain ⟨q, hq⟩ := Option.ne_none_iff_exists'.mp hne
    obtain ⟨hf, hval⟩ := validTare_iff.mp hq
    exact hno q hf hval
  case negativeStored =>
    refine refuse _ (.inr (.inr hk)) ((buildWeighing_stored hk hs hheld hi (validTare_iff.mpr ⟨hq, hval⟩)).trans
      (closeVisit_negative ?_))
    exact (netOf_eq ..).trans_lt ((if_pos hi).trans_lt hn)
  case built =>
    intro content w marked watched used
    have hB : IsWeighing a.order.kind ∧ buildWeighing s.visit (endResult d g e a s) x = .ok y ∧
        contentOf (endResult d g e a s) y = contentWith (endResult d g e a s) x k ms mk := by
      rcases hbuild with ⟨hk, hs, rfl, rfl, rfl, rfl⟩ | ⟨hk, hs, w, hf, hn, rfl, rfl, rfl, rfl⟩ |
        ⟨hk, hs, hi, q, hq, ⟨hu, hval⟩, hn, rfl, rfl, rfl, rfl⟩
      · obtain ⟨y, rfl, hb, hc⟩ := built_first (d := d) (g := g) (e := e) (s := s) hk hs hheld (visitOk_opened hok hs).1
        exact ⟨.inl hk, hb, hc⟩
      · obtain ⟨y, rfl, hb, hc⟩ := built_second (d := d) (g := g) (e := e) (s := s) hk hs hheld hf hn
        exact ⟨.inr (.inl hk), hb, hc⟩
      · obtain ⟨y, rfl, hb, hc⟩ := built_stored (d := d) (g := g) (e := e) (s := s) hk hs hheld hi hq hu hval hn
        exact ⟨.inr (.inr hk), hb, hc⟩
    obtain ⟨hk, hb, hc⟩ := hB
    have hrec := buildWeighing_record hb
    have hyn : y.number = x.number := (congrArg Visit.number hrec).symm
    have hyp : y.plate = x.plate := (congrArg Visit.plate hrec).symm
    have hcontent : contentOf (endResult d g e a s) y = content := by
      rw [hc, contentWith, endResult_exit]
      rfl
    have hw : judged (endResult d g e a s) y s = w := by
      rw [judged, hcontent, hyp]
      rfl
    have hmarked : markContent w (contentOf (endResult d g e a s) y) = marked := by rw [hcontent]; rfl
    have hwatched : watchAfter w y = { w.unit with
        armed := if y.state = .closed then w.unit.armed.filter fun m => m ≠ x.number else w.unit.armed } := by
      rw [watchAfter, hyn]
    refine ⟨fun hh => ?held, fun h1 h2 => ?issued⟩
    case held =>
      obtain ⟨t, ⟨ht, hst, hch⟩, he, ha, htk, hwt, hvis, hlatest⟩ := h.weighHeld hr hk hv hb hw hh
      rw [hmarked] at hvis
      have hfind := findVisit_held (w := w) hv hb marked now
      refine ⟨t, ⟨ht, hst, hch, fun m hm => ?_⟩, he, ha, htk, hwt.trans hwatched, ?_, ?_, hlatest⟩
      · rw [hvis]
        exact (hfind m).trans (if_neg hm)
      · rw [hvis, useOf_put_tares, hyp]
      · rw [hvis]
        exact (hfind a.order.visit).trans (if_pos rfl)
    case issued =>
      intro n fill
      obtain ⟨t, ⟨ht, hst, hch⟩, he, ha, hcount, hwt, hjour, hqueued, hvis, hlatest⟩ :=
        h.weighIssued hr hk hv hb hw h1 h2
      have hn : nextTicket s.ticket.counter = n := nextTicket_eq _
      rw [hmarked] at hvis
      have hfind := findVisit_issued hv hb (nextTicket s.ticket.counter) marked
      refine ⟨t, ticketOf w (endResult d g e a s) y s.ticket, ⟨ht, hst, hch, fun m hm => ?_⟩, he, ha, hcount.trans hn,
        hwt.trans hwatched, hjour.trans (journalAppend_eq ..), hn, rfl, hmarked, rfl, hqueued, ?_, ?_, ?_, ?_⟩
      · rw [hvis, storeAtIssue_visits]
        exact (hfind m).trans (if_neg hm)
      · rw [hvis, storeAtIssue_visits]
        refine (hfind a.order.visit).trans ((if_pos rfl).trans ?_)
        rw [hn]
        rfl
      · intro hoff
        rw [hvis]
        refine (storeAtIssue_keeps hv hb _ _ (hoff.imp_right fun hst => ?_)).trans (by rw [hyp]; rfl)
        rcases hbuild with ⟨hk', -⟩ | ⟨hk', -⟩ | ⟨-, -, -, q, -, -, -, rfl, -⟩
        · cases hst.symm.trans hk'
        · cases hst.symm.trans hk'
        · exact ⟨_, _, rfl, rfl, rfl, rfl, rfl, rfl⟩
      · intro hon hsk hi
        rcases hbuild with ⟨hk', -⟩ | ⟨-, hs, w0, hf, -, hy, -⟩ | ⟨hk', -⟩
        · cases hsk.symm.trans hk'
        · have hrole : w0.role = .gross := by rw [visitOk_firstDone hok hs hf, firstRole_eq, if_pos hi]
          have hfirst : y.first = some w0 := by rw [hy]; exact hf
          have hsecond : y.second = some (captured .tare) := by
            rw [hy]
            simp only [if_pos hi]
          rw [hon] at hvis
          rw [show used = s.visit.tares from if_neg (by rw [hsk]; nofun), ← hyp]
          exact storeAtIssue_second hv hb _ _ hsk hfirst hrole hsecond rfl rfl rfl hvis
        · cases hsk.symm.trans hk'
      · intro q
        rw [hlatest q, hn]

end Sys2Proof.Machine

/-!
A CHECK at the window end with its slip, the watch unit with both channels disabled, and O41 assembled (R72 to R77,
R139).
-/

namespace Sys2Proof.Machine

/-! ### No watching (R138, R139) -/

/-- A disabled channel matches no ticket (R138). -/
theorem channelMatch_disabled {w : WatchConfig} (h : w.enabled = false) (c : TicketContent) (entry : Option Int) :
    channelMatch w c entry = none :=
  if_neg fun hp => Bool.false_ne_true (h.symm.trans hp.1)

/-- With both channels disabled a ticket is neither marked nor held, in either mode. -/
theorem evaluate_disabled {u : WatchUnit} (h1 : u.w1.enabled = false) (h2 : u.w2.enabled = false) (c : TicketContent)
    (entry : Option Int) : evaluate c entry u = ⟨u, false, false, false, false, []⟩ := by
  have hm1 := channelMatch_disabled h1 c entry
  have hm2 := channelMatch_disabled h2 c entry
  unfold evaluate
  split
  · simp [evaluateIndependent, hm1, hm2, applyChannel]
  · simp [evaluateSequential, armStep, hm1, hm2]

/-! ### A CHECK (R73, R77) -/

/-- The marks of a CHECK, from the state before the sample (R73). -/
def endCheckMarks (s : State) : Marks :=
  ⟨someDeck s .due, decide (s.metro.switch = .opened) || someDeck s .suspect || someDeck s .unverified, false, false,
    false⟩

/-- A deck that is neither VERIFIED nor DUE is SUSPECT or UNVERIFIED. -/
theorem VStatus.neither_iff (v : VStatus) : v ≠ .verified ∧ v ≠ .due ↔ v = .suspect ∨ v = .unverified := by
  cases v <;> simp

section
variable {d : DeckId} {conv : Conversion} {g : Int} {e : OrderCapture} {a : ActiveOrder} {s m : State}

theorem checkMarks_end (hm : SameBooks m s) : checkMarks m = endCheckMarks s := by
  have hbad : (m.inUse.any fun b => m.deckStatus b ≠ .verified ∧ m.deckStatus b ≠ .due) =
      (someDeck s .suspect || someDeck s .unverified) := by
    rw [← someDeck_eq hm.legal hm.status, ← someDeck_eq hm.legal hm.status]
    refine Bool.eq_iff_iff.mpr ?_
    simp only [Bool.or_eq_true, List.any_eq_true, decide_eq_true_eq, VStatus.neither_iff]
    constructor
    · rintro ⟨b, hb, h | h⟩
      · exact .inl ⟨b, hb, h⟩
      · exact .inr ⟨b, hb, h⟩
    · rintro (⟨b, hb, h⟩ | ⟨b, hb, h⟩)
      · exact ⟨b, hb, .inl h⟩
      · exact ⟨b, hb, .inr h⟩
  rw [checkMarks, someDeck_eq hm.legal hm.status, hbad, hm.switch, ← Bool.or_assoc]
  rfl

/-- The content of a CHECK's slip (R77). -/
def checkSlipFields (d : DeckId) (g : Int) (e : OrderCapture) (a : ActiveOrder) (s : State) (k : AxleCheck) :
    List PrintField :=
  slipFields k .checkSlip (findVisit s.visit a.order.visit) ((orderClass s a.order).map fun c => c.1)
    (summaryOf (tableAfter a.order (wholeStop d g e s) s)) (some (endIndication d g e s)) (endCheckMarks s)
    ⟨s.clock.day, s.clock.sec⟩ s.metro.cal (exitEnd e.direction)

/-- The order's class is the visit's and the class table's, which a stop does not change. -/
theorem WithStop.orderClass {o : Order} {st : Stop} {n : State} (hn : WithStop o st n s) :
    Machine.orderClass n o = Machine.orderClass s o := by
  simp only [Machine.orderClass, classAt, hn.visit, hn.check]

/-- The completion of a CHECK: its stop, then its slip (R74, R77). -/
theorem EndsWindow.check (h : EndsWindow d conv g e a s) (hk : a.order.kind = .check)
    (hover : ¬(s.legal.capacity + 9 * s.legal.interval) * 1000 < endMass d g e s)
    (hunder : ¬endMass d g e s < -(20 * s.legal.interval * 1000)) :
    ∃ n, WithStop a.order (wholeStop d g e s) n s ∧
      completeCapture ((afterMonitor d conv s).setOrder fun u => { u with engine := some (lastTaken d g e s) }) =
        completeActive none (queueSlip (exitEnd e.direction) .checkSlip (checkSlipFields d g e a s n.check) n) := by
  have hfail := h.captureFailure h.idleBooks a.order.kind
  rw [if_neg hover, if_neg hunder, if_neg fun hc => hc.1 hk] at hfail
  have hst : stopOf (lastTaken d g e s) a.order.kind (engineIdle (afterMonitor d conv s)) = wholeStop d g e s := by
    rw [h.stop h.idleBooks, if_neg (by rw [hk]; nofun)]
    rfl
  have hmass : indicated (engineIdle (afterMonitor d conv s)).legal
      (Machine.vehicleMass (lastTaken d g e s) (engineIdle (afterMonitor d conv s)).inUse) = endIndication d g e s := by
    rw [h.vehicleMass h.idleBooks.legal, indicated, State.legal, h.idleBooks.legal]
    rfl
  have hN := h.takesStop (wholeStop d g e s)
  have hfinish : ∀ n, WithStop a.order (wholeStop d g e s) n s →
      finishCheck (lastTaken d g e s) a.order (endIndication d g e s) (endCheckMarks s) n =
        completeActive none (queueSlip (exitEnd e.direction) .checkSlip (checkSlipFields d g e a s n.check) n) := by
    intro n hn
    simp only [finishCheck, (lastTaken_fromState d g e s).2, hn.visit, hn.orderClass, State.now, hn.clock, hn.cal,
      checkSlipFields]
    rw [hn.check]
  refine ⟨_, hN, ?_⟩
  rw [h.completes, hfail, ← hfinish _ hN, ← checkMarks_end h.idleBooks, ← hmass, ← hst]
  simp only [completeStop, hk]

/-- What a completed CHECK leaves: the order COMPLETE, its stop taken, its slip queued. -/
theorem EndsWindow.checkDone (h : EndsWindow d conv g e a s) (hk : a.order.kind = .check)
    (hover : ¬(s.legal.capacity + 9 * s.legal.interval) * 1000 < endMass d g e s)
    (hunder : ¬endMass d g e s < -(20 * s.legal.interval * 1000)) :
    ∃ t, Machine.exec (.captureWindowEnd d conv) s = .next t ∧ t.order.engine = none ∧
      t.order.active = some { a with state := .complete } ∧ t.visit = s.visit ∧
      t.ticket.counter = s.ticket.counter ∧ t.ticket.journal = s.ticket.journal ∧
      t.order.stops = stopsAfter (wholeStop d g e s) s ∧
      t.check = { s.check with table := tableAfter a.order (wholeStop d g e s) s } ∧
      SlipQueued .checkSlip (exitEnd e.direction) (checkSlipFields d g e a s t.check) s t := by
  obtain ⟨n, hN, hx⟩ := h.check hk hover hunder
  have hq := queueSlip_orders (exitEnd e.direction) .checkSlip (checkSlipFields d g e a s n.check) n
  have ha : n.order.active = some a := by rw [hN.order]; exact h.active
  have hidle : n.order.engine = none := by rw [hN.order]
  rw [completeActive_some none (hq.active.trans ha)] at hx
  obtain ⟨t, ht, he, hact, hstops, hcheck, hvisit, hticket, -, hev⟩ := h.leaves hx (hq.engine.trans hidle)
    fun c hc => by cases hc; exact ⟨nofun, nofun⟩
  have htc : t.check = n.check := hcheck.trans hq.check
  obtain ⟨hslip, hcount, hjournal⟩ := queueSlip_queued (s := s) (t := t) .checkSlip (exitEnd e.direction)
    (checkSlipFields d g e a s n.check) n hN.ticket hN.clock (fun q => hN.events q 4 nofun) hticket fun q =>
      (hev q 4).trans ((raise_printEvents _ _ q).trans (if_neg (by simp [categoryOf])))
  rw [← htc] at hslip
  exact ⟨t, ht, he, hact, hvisit.trans (hq.visit.trans hN.visit), hcount, hjournal,
    (hstops.trans hq.stops).trans (by rw [hN.order]), htc.trans hN.check, hslip⟩

end

/-- Settles O41: no capture, a result given back, a CHECK with its slip, a first weighing as O42 issues it. -/
theorem captureWindowEnds : Obligations.CaptureWindowEnds := by
  intro d conv s hp hd
  refine ⟨exec_captureWindowEnd_idle hp, fun g e a h => ?_⟩
  intro v mass isOver isUnder unverified st back
  have hfail := h.captureFailure h.idleBooks a.order.kind
  refine ⟨fun ho => ?tooHeavy, fun ho hu => ?tooLight, fun ho hu hk hv => ?refused, fun ho hu hk => ?check,
    fun ho hu hk hv x hx hs hok h1 h2 => ?first⟩
  case tooHeavy => exact h.returns (hfail.trans (if_pos ho))
  case tooLight => exact h.returns (hfail.trans ((if_neg ho).trans (if_pos hu)))
  case refused => exact h.returns (hfail.trans ((if_neg ho).trans ((if_neg hu).trans (if_pos ⟨hk, hv⟩))))
  case check =>
    obtain ⟨t, ht, he, ha, hvisit, hcount, hjournal, hstops, hcheck, hslip⟩ := h.checkDone hk ho hu
    rw [exitEnd_eq, checkSlipFields, exitEnd_eq] at hslip
    exact ⟨t, ht, he, ha, hvisit, hcount, hjournal, hstops, hcheck, hslip⟩
  case first =>
    have hshut : s.metro.switch = .shut := by
      cases hsw : s.metro.switch with
      | shut => rfl
      | opened => exact absurd (.inl hsw) hv
    have hr : ResultStands (endMass d g e s) s :=
      ⟨not_lt.mp ho, not_lt.mp hu, hshut, fun i hi hun => hv (.inr ⟨i, hi, hun⟩)⟩
    have hheld := (visitOk_opened hok hs).2
    have hw := fun c entry => evaluate_disabled h1 h2 c entry
    obtain ⟨-, -, hissue⟩ := weighingsAreIssuedOrHeld d conv g e a x s h hr hx hok hheld
    have hissued := (hissue _ _ _ _ (.inl ⟨hk, hs, rfl, rfl, rfl, rfl⟩)).2
    obtain ⟨t, ticket, ⟨ht, hstops, hcheck, hothers⟩, he, ha, hcount, hwatch, hjournal, hnumber, hstamp, hcontent,
      hcopies, hqueued, hrecord, -⟩ := hissued (by simp only [hw]) (by simp only [hw])
    have hunit : t.watch = s.watch := by
      rw [hwatch]
      simp only [hw, reduceCtorEq, if_false]
    have hnone := (visitOk_opened hok hs).1
    exact ⟨t, _, ticket, ht, he, ha, hstops, hcheck, hcount, hjournal, hnumber, hstamp, by rw [hcontent],
      by rw [hcontent], by rw [hcontent], hrecord, rfl, congrArg some (if_pos rfl),
      by simp only [hnone, Option.map_none], rfl, hheld, rfl, hothers, hunit, hcopies, hqueued⟩

end Sys2Proof.Machine

/-!
One stop on the group result table: what its decks offer, the verdicts, and the rebuild (R88 to R95).
-/

namespace Sys2Proof.Machine

/-! ### Verdicts (R93) -/

/-- An excess raised to the interval lies less than an interval above what it is raised from. -/
theorem raiseTo_within (a : Int) {m : Int} (hm : 0 < m) :
    m ∣ raiseTo a m ∧ a ≤ raiseTo a m ∧ raiseTo a m < a + m := by
  have hle := Int.ediv_mul_le (a + m - 1) hm.ne'
  have hlt := Int.lt_ediv_add_one_mul_self (a + m - 1) hm
  rw [Int.add_mul, Int.one_mul] at hlt
  unfold raiseTo
  exact ⟨Int.dvd_mul_left .., by omega, by omega⟩

/-- What R93 asks of the verdict and the excess of a mass. -/
def Judged (set : CheckSettings) (m permitted : Int) (v : Verdict) (x : Option Int) : Prop :=
  (m * 100 ≤ permitted * (100 + set.axleTol) → v = .within ∧ x = none) ∧
    (permitted * (100 + set.axleTol) < m * 100 → v = .over ∧ ∃ y, x = some y ∧
      set.interval ∣ y ∧ m - permitted ≤ y ∧ y < m - permitted + set.interval)

theorem massVerdict_judged {set : CheckSettings} (hs : 0 < set.interval) (m permitted : Int) :
    Judged set m permitted (massVerdict set m permitted).1 (massVerdict set m permitted).2 := by
  unfold massVerdict
  refine ⟨fun h => ?_, fun h => ?_⟩
  · rw [if_pos h]
    exact ⟨rfl, rfl⟩
  · rw [if_neg (not_le.mpr h)]
    exact ⟨rfl, _, rfl, raiseTo_within _ hs⟩

section
variable (set : CheckSettings) (g : Group) (r : GroupResult)

theorem recomputeGroup_mass : (recomputeGroup set g r).mass = r.mass := by
  unfold recomputeGroup
  split <;> rfl

theorem recomputeGroup_unresolved (h : r.mass = none) :
    (recomputeGroup set g r).verdict = .unresolved ∧ (recomputeGroup set g r).excess = none := by
  simp [recomputeGroup, h]

theorem recomputeGroup_judged (hs : 0 < set.interval) {m : Int} {n : Nat} (h : r.mass = some (m, n)) :
    Judged set m g.permitted (recomputeGroup set g r).verdict (recomputeGroup set g r).excess := by
  simpa only [recomputeGroup, h] using massVerdict_judged hs m g.permitted

/-- A group offered a mass keeps the higher (R91). -/
theorem offerGroup_mass (m : Int) (n : Nat) : (offerGroup m n r).mass = match r.mass with
    | none => some (m, n)
    | some (had, at_) => if had < m then some (m, n) else some (had, at_) := by
  obtain ⟨mass, verdict, excess⟩ := r
  cases mass with
  | none => rfl
  | some x =>
    by_cases h : x.1 < m
    · simp only [offerGroup, if_pos h]
    · simp only [offerGroup, if_neg h]

end

/-! ### Combined results by run (R92, R96) -/

/-- A combined result of the run of groups `i` to `j`. -/
def ofRun (i j : Nat) (c : Combined) : Bool := decide (c.first = i ∧ c.last = j)

/-- The run of one combined result comes before that of another (notes/assumptions/51.md). -/
def RunBefore (a b : Combined) : Prop := a.first < b.first ∨ (a.first = b.first ∧ a.last < b.last)

theorem ofRun_iff {i j : Nat} {c : Combined} : ofRun i j c = true ↔ c.first = i ∧ c.last = j := by
  simp [ofRun]

/-- The results of another run stand. -/
theorem find?_offerCombined_other {f l i j : Nat} (h : ¬(f = i ∧ l = j)) (m : Int) (n : Nat) (cs : List Combined) :
    (offerCombined f l m n cs).find? (ofRun i j) = cs.find? (ofRun i j) := by
  induction cs with
  | nil => simp [offerCombined, ofRun, h]
  | cons c cs ih =>
    unfold offerCombined
    split
    · next hc =>
      have hno : ¬(c.first = i ∧ c.last = j) := by rwa [hc.1, hc.2]
      split <;> simp [ofRun, hno]
    · split
      · simp [List.find?_cons, ofRun, h]
      · rw [List.find?_cons, List.find?_cons, ih]

/-- A run without a result gets one. -/
theorem find?_offerCombined_none {f l : Nat} (m : Int) (n : Nat) {cs : List Combined}
    (h : cs.find? (ofRun f l) = none) :
    (offerCombined f l m n cs).find? (ofRun f l) = some ⟨f, l, m, n, .unresolved, none⟩ := by
  induction cs with
  | nil => simp [offerCombined, ofRun]
  | cons c cs ih =>
    have hc : ¬ofRun f l c = true := List.find?_eq_none.mp h c (.head _)
    have hcs : cs.find? (ofRun f l) = none := List.find?_eq_none.mpr fun x hx => List.find?_eq_none.mp h x (.tail _ hx)
    have hne : ¬(c.first = f ∧ c.last = l) := fun e => hc (ofRun_iff.mpr e)
    unfold offerCombined
    rw [if_neg hne]
    split
    · simp [ofRun]
    · rw [List.find?_cons_of_neg hc, ih hcs]

/-- In a list in order a run's result keeps the higher mass. -/
theorem find?_offerCombined_some {f l : Nat} (m : Int) (n : Nat) {cs : List Combined} {had : Combined}
    (ho : cs.Pairwise RunBefore) (h : cs.find? (ofRun f l) = some had) :
    (offerCombined f l m n cs).find? (ofRun f l) =
      some (if had.mass < m then { had with mass := m, stop := n } else had) := by
  induction cs with
  | nil => cases h
  | cons c cs ih =>
    obtain ⟨hlt, ho⟩ := List.pairwise_cons.mp ho
    unfold offerCombined
    by_cases hc : c.first = f ∧ c.last = l
    · rw [List.find?_cons_of_pos (ofRun_iff.mpr hc)] at h
      cases h
      rw [if_pos hc, List.find?_cons_of_pos]
      split <;> exact ofRun_iff.mpr hc
    · have hn : ¬ofRun f l c = true := mt ofRun_iff.mp hc
      rw [List.find?_cons_of_neg hn] at h
      obtain ⟨hf, hl⟩ := ofRun_iff.mp (List.find?_some h)
      have hbefore := hlt had (List.mem_of_find?_eq_some h)
      unfold RunBefore at hbefore
      rw [if_neg hc, if_neg (by omega), List.find?_cons_of_neg hn, ih ho h]

/-- Each result of an offer is of a run that stood before, or of the run offered. -/
theorem mem_offerCombined {f l : Nat} {m : Int} {n : Nat} {cs : List Combined} {x : Combined}
    (h : x ∈ offerCombined f l m n cs) : (x.first = f ∧ x.last = l) ∨ x ∈ cs := by
  induction cs with
  | nil => exact .inl (by cases List.mem_singleton.mp h; exact ⟨rfl, rfl⟩)
  | cons c cs ih =>
    unfold offerCombined at h
    split at h
    · next hc =>
      rcases List.mem_cons.mp h with rfl | hx
      · refine .inl ?_
        split <;> exact hc
      · exact .inr (.tail _ hx)
    · split at h
      · rcases List.mem_cons.mp h with rfl | hx
        · exact .inl ⟨rfl, rfl⟩
        · exact .inr hx
      · rcases List.mem_cons.mp h with rfl | hx
        · exact .inr (.head _)
        · exact (ih hx).imp_right (.tail _)

/-- An offer keeps the order of the runs. -/
theorem offerCombined_pairwise (f l : Nat) (m : Int) (n : Nat) {cs : List Combined} (h : cs.Pairwise RunBefore) :
    (offerCombined f l m n cs).Pairwise RunBefore := by
  induction cs with
  | nil => exact List.pairwise_singleton ..
  | cons c cs ih =>
    obtain ⟨hlt, ho⟩ := List.pairwise_cons.mp h
    unfold offerCombined
    split
    · refine List.pairwise_cons.mpr ⟨fun x hx => ?_, ho⟩
      split <;> exact hlt x hx
    · split
      · next hb =>
        refine List.pairwise_cons.mpr ⟨fun x hx => ?_, h⟩
        rcases List.mem_cons.mp hx with rfl | hx
        · exact hb
        · have hcx := hlt x hx
          unfold RunBefore at hcx ⊢
          dsimp only
          omega
      · refine List.pairwise_cons.mpr ⟨fun x hx => ?_, ih ho⟩
        rcases mem_offerCombined hx with hx | hx
        · unfold RunBefore
          omega
        · exact hlt x hx

/-- In a list in order each result is the first of its run. -/
theorem find?_ofRun_of_mem {cs : List Combined} (ho : cs.Pairwise RunBefore) {c : Combined} (hc : c ∈ cs) :
    cs.find? (ofRun c.first c.last) = some c := by
  induction cs with
  | nil => cases hc
  | cons a cs ih =>
    obtain ⟨hlt, ho⟩ := List.pairwise_cons.mp ho
    rcases List.mem_cons.mp hc with rfl | hc
    · exact List.find?_cons_of_pos (ofRun_iff.mpr ⟨rfl, rfl⟩)
    · have hbefore := hlt c hc
      have hne : ¬ofRun c.first c.last a = true := by
        rw [ofRun_iff]
        unfold RunBefore at hbefore
        omega
      rw [List.find?_cons_of_neg hne, ih ho hc]

/-! ### What the decks of a stop offer (R91, R92) -/

/-- The groups that a table is judged against. -/
def classGroups (t : GroupTable) : List Group :=
  match t.cls with
  | none => []
  | some (_, e) => e.groups

/-- The first and the last place of the run of groups that a deck's range is, with its mass; none for a cut. -/
def offerOf (gs : List Group) : Option (Int × Option (Nat × Nat)) → Option (Nat × Nat × Int)
  | some (m, some r) =>
    match groupStarting gs r.1, groupEnding gs r.2 with
    | some i, some j => if i ≤ j then some (i, j, m) else none
    | _, _ => none
  | _ => none

/-- The group results after an offer: one group's range alone reaches them. -/
def offerAlone (n : Nat) (o : Option (Nat × Nat × Int)) (rs : List GroupResult) : List GroupResult :=
  match o with
  | some (i, j, m) => if i = j then rs.modify i (offerGroup m n) else rs
  | none => rs

/-- The combined results after an offer: a union of groups alone reaches them. -/
def offerRun (n : Nat) (o : Option (Nat × Nat × Int)) (cs : List Combined) : List Combined :=
  match o with
  | some (i, j, m) => if i = j then cs else offerCombined (i + 1) (j + 1) m n cs
  | none => cs

/-- The group results after the decks of a stop. -/
def groupsAfter (gs : List Group) (n : Nat) (st : Stop) (rs : List GroupResult) : List GroupResult :=
  (List.finRange 4).foldl (fun rs (d : DeckId) => offerAlone n (offerOf gs st.decks[d]) rs) rs

/-- The combined results after them. -/
def combinedAfter (gs : List Group) (n : Nat) (st : Stop) (cs : List Combined) : List Combined :=
  (List.finRange 4).foldl (fun cs (d : DeckId) => offerRun n (offerOf gs st.decks[d]) cs) cs

/-- The pass indication after a stop (R89 step 3). -/
def indicationAfter (n : Nat) (st : Stop) (t : GroupTable) : Option (Int × Nat) :=
  match st.whole with
  | some i => some (i, n)
  | none => t.indication

/-- One deck of a stop. -/
theorem judgeDeck_eq (n : Nat) (m : Int) (r : Nat × Nat) (t : GroupTable) : judgeDeck n m r t =
    { t with
      groups := offerAlone n (offerOf (classGroups t) (some (m, some r))) t.groups
      combined := offerRun n (offerOf (classGroups t) (some (m, some r))) t.combined } := by
  obtain ⟨cls, groups, combined, indication, consistency, gross, allResolved, stopsHandled⟩ := t
  unfold judgeDeck offerOf classGroups
  cases cls with
  | none => rfl
  | some c =>
    dsimp only
    cases groupStarting c.2.groups r.1 with
    | none => rfl
    | some i =>
      cases groupEnding c.2.groups r.2 with
      | none => rfl
      | some j =>
        dsimp only
        rcases lt_trichotomy i j with h | rfl | h
        · simp only [if_neg h.ne, if_pos h, if_pos h.le, offerAlone, offerRun]
        · simp only [if_true, le_refl, offerAlone, offerRun]
        · simp only [if_neg h.ne', if_neg h.not_gt, if_neg h.not_ge, offerAlone, offerRun]

/-- One deck's part of a stop. -/
def judgePart (n : Nat) (t : GroupTable) (o : Option (Int × Option (Nat × Nat))) : GroupTable :=
  match o with
  | some (mass, some range) => judgeDeck n mass range t
  | _ => t

/-- The decks of a stop, one after another, on group and combined results apart. -/
theorem foldl_judgePart (n : Nat) (l : List (Option (Int × Option (Nat × Nat)))) (t : GroupTable) :
    l.foldl (judgePart n) t = { t with
      groups := l.foldl (fun rs o => offerAlone n (offerOf (classGroups t) o) rs) t.groups
      combined := l.foldl (fun cs o => offerRun n (offerOf (classGroups t) o) cs) t.combined } := by
  induction l generalizing t with
  | nil => rfl
  | cons o l ih =>
    simp only [List.foldl_cons]
    rw [ih]
    match o with
    | none => rfl
    | some (_, none) => rfl
    | some (m, some r) =>
      rw [judgePart, judgeDeck_eq]
      rfl

theorem toList_four {α : Type} (v : Vector α 4) : v.toList = (List.finRange 4).map fun d => v[d] := by
  refine List.ext_getElem (by simp) fun i h1 h2 => ?_
  simp

/-- R89 steps 3 and 4. -/
theorem judgeStop_eq (n : Nat) (st : Stop) (t : GroupTable) : judgeStop n st t =
    { t with
      indication := indicationAfter n st t
      groups := groupsAfter (classGroups t) n st t.groups
      combined := combinedAfter (classGroups t) n st t.combined } := by
  have hfold : judgeStop n st t =
      st.decks.toList.foldl (judgePart n) { t with indication := indicationAfter n st t } := by
    unfold judgeStop indicationAfter
    cases st.whole <;> rfl
  rw [hfold, foldl_judgePart, toList_four, List.foldl_map, List.foldl_map]
  rfl

/-! ### Which groups a deck reaches -/

/-- A key that no two elements share finds its element. -/
theorem findIdx?_key {α : Type} {key : α → Nat} {l : List α} (hn : (l.map key).Nodup) {a i : Nat} :
    l.findIdx? (fun x => key x = a) = some i ↔ ∃ x, l[i]? = some x ∧ key x = a := by
  rw [List.findIdx?_eq_some_iff_getElem]
  constructor
  · rintro ⟨hi, hk, -⟩
    exact ⟨_, List.getElem?_eq_getElem hi, of_decide_eq_true hk⟩
  · rintro ⟨x, hx, rfl⟩
    obtain ⟨hi, rfl⟩ := List.getElem?_eq_some_iff.mp hx
    refine ⟨hi, decide_eq_true rfl, fun j hj he => ?_⟩
    have hmap : (l.map key)[j]'(by simp; omega) = (l.map key)[i]'(by simpa using hi) := by
      simpa using of_decide_eq_true he
    have := (hn.getElem_inj_iff).mp hmap
    omega

/-- The deck carries exactly the axles from the first of group `f` to the last of group `l`. -/
abbrev Offers (st : Stop) (f l : Group) (d : DeckId) (m : Int) : Prop :=
  st.decks[d] = some (m, some (f.firstAxle, l.firstAxle + l.axles - 1))

/-- A class whose groups have each its own first and its own last axle, as R83 asks. -/
structure RangesApart (gs : List Group) : Prop where
  starts : (gs.map fun g => g.firstAxle).Nodup
  ends : (gs.map fun g => g.firstAxle + g.axles - 1).Nodup

section
variable {gs : List Group} {st : Stop} {d : DeckId} {i j : Nat} {m : Int}

theorem offerOf_iff (h : RangesApart gs) : offerOf gs st.decks[d] = some (i, j, m) ↔
    i ≤ j ∧ ∃ f l, gs[i]? = some f ∧ gs[j]? = some l ∧ Offers st f l d m := by
  unfold Offers
  match st.decks[d] with
  | none => simp [offerOf]
  | some (_, none) => simp [offerOf]
  | some (m', some (a, b)) =>
    have hs : ∀ x, groupStarting gs a = some x ↔ ∃ f, gs[x]? = some f ∧ f.firstAxle = a :=
      fun x => findIdx?_key h.starts
    have he : ∀ x, groupEnding gs b = some x ↔ ∃ l, gs[x]? = some l ∧ l.firstAxle + l.axles - 1 = b :=
      fun x => findIdx?_key h.ends
    have hsplit : offerOf gs (some (m', some (a, b))) = some (i, j, m) ↔
        groupStarting gs a = some i ∧ groupEnding gs b = some j ∧ i ≤ j ∧ m' = m := by
      unfold offerOf
      dsimp only
      cases groupStarting gs a with
      | none => simp
      | some x =>
        cases groupEnding gs b with
        | none => simp
        | some y =>
          dsimp only
          split <;> simp <;> omega
    rw [hsplit, hs, he]
    constructor
    · rintro ⟨⟨f, hf, rfl⟩, ⟨l, hl, rfl⟩, hij, rfl⟩
      exact ⟨hij, f, l, hf, hl, rfl⟩
    · rintro ⟨hij, f, l, hf, hl, heq⟩
      simp only [Option.some.injEq, Prod.mk.injEq] at heq
      obtain ⟨rfl, rfl, rfl⟩ := heq
      exact ⟨⟨f, hf, rfl⟩, ⟨l, hl, rfl⟩, hij, rfl⟩

/-- A deck offers its mass to the run of two groups of the class exactly when its range is theirs. -/
theorem offerOf_run (h : RangesApart gs) {f l : Group} (hf : gs[i]? = some f) (hl : gs[j]? = some l) (hij : i ≤ j) :
    offerOf gs st.decks[d] = some (i, j, m) ↔ Offers st f l d m := by
  rw [offerOf_iff h]
  simp only [hf, hl, hij, true_and, Option.some.injEq, exists_and_left, exists_eq_left']

end

/-! ### The decks of a stop, one after another -/

/-- What one element of a fold brings about, when the others neither disturb what holds before it nor what holds
after it. -/
theorem foldl_once {σ ι : Type} {f : σ → ι → σ} {before after : σ → Prop} {d : ι} {l : List ι} (hd : d ∈ l)
    (hn : l.Nodup) (hb : ∀ s x, x ≠ d → before s → before (f s x)) (hact : ∀ s, before s → after (f s d))
    (ha : ∀ s x, x ≠ d → after s → after (f s x)) {s : σ} (hs : before s) : after (l.foldl f s) := by
  obtain ⟨l1, l2, rfl⟩ := List.append_of_mem hd
  have hne : ∀ x, x ∈ l1 ∨ x ∈ l2 → x ≠ d := by
    rintro x hx rfl
    have := List.nodup_middle.mp hn
    exact (List.nodup_cons.mp this).1 (List.mem_append.mpr hx)
  rw [List.foldl_append, List.foldl_cons]
  refine List.foldlRecOn l2 f (hact _ ?_) fun s hs x hx => ha s x (hne x (.inr hx)) hs
  exact List.foldlRecOn l1 f hs fun s hs x hx => hb s x (hne x (.inl hx)) hs

section
variable {gs : List Group} {st : Stop} {n i j : Nat} {m : Int} {d : DeckId}

theorem offerAlone_length (o : Option (Nat × Nat × Int)) (rs : List GroupResult) :
    (offerAlone n o rs).length = rs.length := by
  unfold offerAlone
  split
  · split
    · exact List.length_modify ..
    · rfl
  · rfl

@[simp] theorem groupsAfter_length (gs : List Group) (n : Nat) (st : Stop) (rs : List GroupResult) :
    (groupsAfter gs n st rs).length = rs.length :=
  List.foldlRecOn (motive := fun l : List GroupResult => l.length = rs.length) _ _ rfl
    fun _ h _ _ => (offerAlone_length ..).trans h

/-- A group that an offer is not for keeps its result. -/
theorem offerAlone_other {o : Option (Nat × Nat × Int)} (h : ∀ m, o ≠ some (i, i, m)) (rs : List GroupResult) :
    (offerAlone n o rs)[i]? = rs[i]? := by
  match o with
  | none => rfl
  | some (a, b, m) =>
    unfold offerAlone
    dsimp only
    split
    · next hab =>
      subst hab
      have hai : a ≠ i := by
        rintro rfl
        exact h m rfl
      simp [hai]
    · rfl

theorem offerAlone_own (rs : List GroupResult) :
    (offerAlone n (some (i, i, m)) rs)[i]? = rs[i]?.map (offerGroup m n) := by
  simp [offerAlone]

theorem groupsAfter_none (h : ∀ (d : DeckId) m, offerOf gs st.decks[d] ≠ some (i, i, m)) (rs : List GroupResult) :
    (groupsAfter gs n st rs)[i]? = rs[i]? :=
  List.foldlRecOn (motive := fun l => l[i]? = rs[i]?) _ _ rfl fun _ hl d _ => (offerAlone_other (h d) _).trans hl

/-- The one deck that offers a group its mass. -/
theorem groupsAfter_one (hd : offerOf gs st.decks[d] = some (i, i, m))
    (hone : ∀ (c : DeckId) x, c ≠ d → offerOf gs st.decks[c] ≠ some (i, i, x)) (rs : List GroupResult) :
    (groupsAfter gs n st rs)[i]? = rs[i]?.map (offerGroup m n) := by
  refine foldl_once (before := fun l : List GroupResult => l[i]? = rs[i]?)
    (after := fun l : List GroupResult => l[i]? = rs[i]?.map (offerGroup m n))
    (List.mem_finRange d) (List.nodup_finRange 4) (fun _ c hc hl => (offerAlone_other (hone c · hc) _).trans hl)
    (fun l hl => ?_) (fun _ c hc hl => (offerAlone_other (hone c · hc) _).trans hl) rfl
  rw [hd, offerAlone_own, hl]

/-- A run that an offer is not for keeps its result. -/
theorem offerRun_other {o : Option (Nat × Nat × Int)} (h : ∀ m, o ≠ some (i, j, m)) (cs : List Combined) :
    (offerRun n o cs).find? (ofRun (i + 1) (j + 1)) = cs.find? (ofRun (i + 1) (j + 1)) := by
  match o with
  | none => rfl
  | some (a, b, m) =>
    unfold offerRun
    dsimp only
    split
    · rfl
    · refine find?_offerCombined_other ?_ ..
      rintro ⟨hi, hj⟩
      obtain rfl : a = i := by omega
      obtain rfl : b = j := by omega
      exact h m rfl

theorem offerRun_pairwise (o : Option (Nat × Nat × Int)) {cs : List Combined} (h : cs.Pairwise RunBefore) :
    (offerRun n o cs).Pairwise RunBefore := by
  unfold offerRun
  split
  · split
    · exact h
    · exact offerCombined_pairwise _ _ _ _ h
  · exact h

/-- Without a union of groups the combined results stand. -/
theorem combinedAfter_none (h : ∀ (d : DeckId) i j m, i < j → offerOf gs st.decks[d] ≠ some (i, j, m))
    (hle : ∀ (d : DeckId) i j m, offerOf gs st.decks[d] = some (i, j, m) → i ≤ j) (cs : List Combined) :
    combinedAfter gs n st cs = cs := by
  refine List.foldlRecOn (motive := fun l => l = cs) _ _ rfl fun l hl d _ => Eq.trans ?_ hl
  match ho : offerOf gs st.decks[d] with
  | none => rfl
  | some (i, j, m) =>
    have hij : i = j := (hle d i j m ho).eq_of_not_lt fun hlt => h d i j m hlt ho
    simp [offerRun, hij]

/-- The one deck that offers a run its first result. -/
theorem combinedAfter_new (hij : i < j) (hd : offerOf gs st.decks[d] = some (i, j, m))
    (hone : ∀ (c : DeckId) x, c ≠ d → offerOf gs st.decks[c] ≠ some (i, j, x)) {cs : List Combined}
    (hcs : cs.find? (ofRun (i + 1) (j + 1)) = none) :
    (combinedAfter gs n st cs).find? (ofRun (i + 1) (j + 1)) = some ⟨i + 1, j + 1, m, n, .unresolved, none⟩ := by
  refine foldl_once (before := fun l : List Combined => l.find? (ofRun (i + 1) (j + 1)) = none)
    (after := fun l : List Combined => l.find? (ofRun (i + 1) (j + 1)) = some ⟨i + 1, j + 1, m, n, .unresolved, none⟩)
    (List.mem_finRange d) (List.nodup_finRange 4) (fun _ c hc hl => (offerRun_other (hone c · hc) _).trans hl)
    (fun l hl => ?_) (fun _ c hc hl => (offerRun_other (hone c · hc) _).trans hl) hcs
  simpa only [hd, offerRun, if_neg hij.ne] using find?_offerCombined_none m n hl

/-- The one deck that offers a mass to a run that has its result. -/
theorem combinedAfter_had (hij : i < j) (hd : offerOf gs st.decks[d] = some (i, j, m))
    (hone : ∀ (c : DeckId) x, c ≠ d → offerOf gs st.decks[c] ≠ some (i, j, x)) {cs : List Combined}
    (ho : cs.Pairwise RunBefore) {had : Combined} (hcs : cs.find? (ofRun (i + 1) (j + 1)) = some had) :
    (combinedAfter gs n st cs).find? (ofRun (i + 1) (j + 1)) =
      some (if had.mass < m then { had with mass := m, stop := n } else had) := by
  refine foldl_once
    (before := fun l : List Combined => l.Pairwise RunBefore ∧ l.find? (ofRun (i + 1) (j + 1)) = some had)
    (after := fun l : List Combined => l.find? (ofRun (i + 1) (j + 1)) =
      some (if had.mass < m then { had with mass := m, stop := n } else had))
    (List.mem_finRange d) (List.nodup_finRange 4)
    (fun _ c hc hl => ⟨offerRun_pairwise _ hl.1, (offerRun_other (hone c · hc) _).trans hl.2⟩)
    (fun l hl => ?_) (fun _ c hc hl => (offerRun_other (hone c · hc) _).trans hl) ⟨ho, hcs⟩
  simpa only [hd, offerRun, if_neg hij.ne] using find?_offerCombined_some m n hl.1 hl.2

end

end Sys2Proof.Machine

/-!
A table judged anew, the rebuild as a run of stops, and O44 assembled.
-/

namespace Sys2Proof.Machine

/-! ### A stop without its verdicts -/

/-- A stop takes the next number and its decks are judged (R89 steps 2 to 4). -/
def countStop (st : Stop) (t : GroupTable) : GroupTable :=
  judgeStop (t.stopsHandled + 1) st { t with stopsHandled := t.stopsHandled + 1 }

section
variable (st : Stop) (t : GroupTable)

theorem countStop_eq : countStop st t =
    { t with
      indication := indicationAfter (t.stopsHandled + 1) st t
      groups := groupsAfter (classGroups t) (t.stopsHandled + 1) st t.groups
      combined := combinedAfter (classGroups t) (t.stopsHandled + 1) st t.combined
      stopsHandled := t.stopsHandled + 1 } :=
  judgeStop_eq ..

theorem countStop_cls : (countStop st t).cls = t.cls := by rw [countStop_eq]

theorem countStop_stopsHandled : (countStop st t).stopsHandled = t.stopsHandled + 1 := by rw [countStop_eq]

theorem foldl_countStop_stopsHandled (l : List Stop) :
    (l.foldl (fun y x => countStop x y) t).stopsHandled = t.stopsHandled + l.length := by
  induction l generalizing t with
  | nil => rfl
  | cons x l ih =>
    rw [List.foldl_cons, ih, countStop_stopsHandled, List.length_cons]
    omega

/-- A stop of the class in force. -/
theorem handleStop_same (set : CheckSettings) {c : Option (Nat × ClassEntry)} (earlier : List Stop)
    (h : t.cls.map (fun x => x.1) = c.map fun x => x.1) :
    handleStop set c earlier st t = recompute set (countStop st t) := by
  rw [handleStop, if_pos h]
  rfl

/-- A stop of another class. -/
theorem handleStop_other (set : CheckSettings) {c : Option (Nat × ClassEntry)} (earlier : List Stop)
    (h : ¬t.cls.map (fun x => x.1) = c.map fun x => x.1) :
    handleStop set c earlier st t = recompute set (countStop st (rebuild c earlier t)) := by
  rw [handleStop, if_neg h]
  rfl

end

/-! ### Verdicts made anew forget those made before (R89 steps 5 to 7) -/

/-- A group result without its verdict. -/
def bareGroup (r : GroupResult) : GroupResult := { r with verdict := .unresolved, excess := none }

/-- A combined result without its verdict. -/
def bareCombined (c : Combined) : Combined := { c with verdict := .unresolved, excess := none }

/-- A table without its verdicts and checks. -/
def GroupTable.bare (t : GroupTable) : GroupTable :=
  { t with
    groups := t.groups.map bareGroup
    combined := t.combined.map bareCombined
    consistency := .notTested
    gross := .notTested
    allResolved := false }

theorem offerGroup_bare (m : Int) (n : Nat) (r : GroupResult) :
    offerGroup m n (bareGroup r) = bareGroup (offerGroup m n r) := by
  obtain ⟨mass, verdict, excess⟩ := r
  cases mass with
  | none => rfl
  | some x =>
    show (if x.1 < m then _ else _) = bareGroup (if x.1 < m then _ else _)
    split <;> rfl

theorem offerCombined_bare (f l : Nat) (m : Int) (n : Nat) (cs : List Combined) :
    offerCombined f l m n (cs.map bareCombined) = (offerCombined f l m n cs).map bareCombined := by
  induction cs with
  | nil => rfl
  | cons c cs ih =>
    rw [List.map_cons]
    unfold offerCombined
    rw [ih]
    have hf : (bareCombined c).first = c.first := rfl
    have hl : (bareCombined c).last = c.last := rfl
    have hm : (bareCombined c).mass = c.mass := rfl
    rw [hf, hl, hm]
    split
    · rw [List.map_cons]
      split <;> rfl
    · split <;> rfl

theorem offerAlone_bare (n : Nat) (o : Option (Nat × Nat × Int)) (rs : List GroupResult) :
    offerAlone n o (rs.map bareGroup) = (offerAlone n o rs).map bareGroup := by
  match o with
  | none => rfl
  | some (i, j, m) =>
    unfold offerAlone
    dsimp only
    split
    · refine List.ext_getElem? fun k => ?_
      simp only [List.getElem?_modify, List.getElem?_map]
      cases rs[k]? with
      | none => rfl
      | some r =>
        by_cases h : i = k
        · simp [h, offerGroup_bare]
        · simp [h]
    · rfl

theorem offerRun_bare (n : Nat) (o : Option (Nat × Nat × Int)) (cs : List Combined) :
    offerRun n o (cs.map bareCombined) = (offerRun n o cs).map bareCombined := by
  unfold offerRun
  split
  · split
    · rfl
    · exact offerCombined_bare ..
  · rfl

/-- What a stop offers does not depend on the verdicts. -/
theorem countStop_bare (st : Stop) (t : GroupTable) : countStop st t.bare = (countStop st t).bare := by
  have hg : ∀ gs n rs, groupsAfter gs n st (rs.map bareGroup) = (groupsAfter gs n st rs).map bareGroup :=
    fun gs n rs => List.foldl_hom (List.map bareGroup) fun rs d => offerAlone_bare ..
  have hc : ∀ gs n cs, combinedAfter gs n st (cs.map bareCombined) = (combinedAfter gs n st cs).map bareCombined :=
    fun gs n cs => List.foldl_hom (List.map bareCombined) fun cs d => offerRun_bare ..
  rw [countStop_eq, countStop_eq]
  show GroupTable.mk _ (groupsAfter _ _ st (t.groups.map _)) (combinedAfter _ _ st (t.combined.map _)) _ _ _ _ _ = _
  rw [hg, hc]
  rfl

theorem foldl_countStop_bare (l : List Stop) (t : GroupTable) :
    l.foldl (fun y x => countStop x y) t.bare = (l.foldl (fun y x => countStop x y) t).bare :=
  List.foldl_hom GroupTable.bare fun t st => countStop_bare st t

section
variable (set : CheckSettings) (t : GroupTable)

/-- A table with every verdict made anew, its checks as they were (R89 step 5). -/
def withVerdicts (set : CheckSettings) (t : GroupTable) : GroupTable :=
  { t with
    groups := List.zipWith (recomputeGroup set) (classGroups t) t.groups
    combined := t.combined.map (recomputeCombined set (classGroups t)) }

theorem recompute_eq : recompute set t =
    { withVerdicts set t with
      consistency := checkConsistency set (withVerdicts set t)
      gross := checkGross set (withVerdicts set t)
      allResolved := everyResolved (withVerdicts set t) } := by
  obtain ⟨cls, groups, combined, indication, consistency, gross, allResolved, stopsHandled⟩ := t
  cases cls <;> rfl

theorem withVerdicts_bare : withVerdicts set t.bare =
    { withVerdicts set t with consistency := .notTested, gross := .notTested, allResolved := false } := by
  have hcls : classGroups t.bare = classGroups t := rfl
  have hg : List.zipWith (recomputeGroup set) (classGroups t) t.bare.groups =
      List.zipWith (recomputeGroup set) (classGroups t) t.groups := List.zipWith_map_right ..
  have hc : t.bare.combined.map (recomputeCombined set (classGroups t)) =
      t.combined.map (recomputeCombined set (classGroups t)) := List.map_map ..
  rw [withVerdicts, hcls, hg, hc]
  rfl

/-- Verdicts and checks made anew do not depend on those before. -/
theorem recompute_bare : recompute set t.bare = recompute set t := by
  rw [recompute_eq, recompute_eq, withVerdicts_bare]
  rfl

theorem recompute_cls : (recompute set t).cls = t.cls := by
  rw [recompute_eq]
  rfl

/-- Each group of the class has its result. -/
abbrev GroupTable.Fits (t : GroupTable) : Prop := t.groups.length = (classGroups t).length

theorem bare_recompute {t : GroupTable} (h : t.Fits) : (recompute set t).bare = t.bare := by
  have hg : (List.zipWith (recomputeGroup set) (classGroups t) t.groups).map bareGroup = t.groups.map bareGroup := by
    refine List.ext_getElem (by simp [h]) fun i h1 h2 => ?_
    simp only [List.getElem_map, List.getElem_zipWith, bareGroup, recomputeGroup_mass]
  have hc : (t.combined.map (recomputeCombined set (classGroups t))).map bareCombined =
      t.combined.map bareCombined := by
    rw [List.map_map]
    rfl
  rw [recompute_eq]
  show GroupTable.mk _ (List.map _ (List.zipWith _ _ _)) (List.map _ (List.map _ _)) _ _ _ _ _ = _
  rw [hg, hc]
  rfl

theorem countStop_fits (st : Stop) {t : GroupTable} (h : t.Fits) : (countStop st t).Fits := by
  rw [countStop_eq]
  exact (groupsAfter_length ..).trans h

theorem recompute_fits {t : GroupTable} (h : t.Fits) : (recompute set t).Fits := by
  rw [recompute_eq]
  refine (List.length_zipWith ..).trans ?_
  rw [h]
  exact min_self _

end

/-! ### A rebuild (R90) -/

section
variable (set : CheckSettings) (c : Option (Nat × ClassEntry))

theorem tableFor_fits (n : Nat) : (tableFor c n).Fits := by
  cases c with
  | none => rfl
  | some x => exact List.length_map ..

/-- Stops of the class in force, handled one after another: but for verdicts and checks, each is counted and its
decks judged. -/
theorem foldl_handleStop (l : List Stop) {t : GroupTable} (hc : t.cls = c) (hf : t.Fits) :
    (l.foldl (fun y x => handleStop set c [] x y) t).cls = c ∧
      (l.foldl (fun y x => handleStop set c [] x y) t).bare = l.foldl (fun y x => countStop x y) t.bare := by
  induction l generalizing t with
  | nil => exact ⟨hc, rfl⟩
  | cons x l ih =>
    have hx : handleStop set c [] x t = recompute set (countStop x t) := handleStop_same _ _ _ _ (by rw [hc])
    have hfits := countStop_fits x hf
    have hcls : (recompute set (countStop x t)).cls = c := by rw [recompute_cls, countStop_cls, hc]
    simp only [List.foldl_cons, hx]
    rw [countStop_bare, ← bare_recompute set hfits]
    exact ih hcls (recompute_fits set hfits)

/-- A replay judges each stop's decks by its own number and leaves the count. -/
theorem replay_eq (l : List Stop) (n : Nat) (t : GroupTable) :
    replay (t.stopsHandled + 1) l { t with stopsHandled := n } =
      { l.foldl (fun y x => countStop x y) t with stopsHandled := n } := by
  induction l generalizing t with
  | nil => rfl
  | cons x l ih =>
    have hx : judgeStop (t.stopsHandled + 1) x { t with stopsHandled := n } =
        { countStop x t with stopsHandled := n } := by
      rw [judgeStop_eq, countStop_eq]
      rfl
    rw [replay, hx, List.foldl_cons, ← ih, countStop_stopsHandled]

/-- The rebuilt table holds what each earlier stop would have shown, had the class been in force. -/
theorem rebuild_eq {earlier : List Stop} {t : GroupTable} (h : t.stopsHandled = earlier.length) :
    rebuild c earlier t = earlier.foldl (fun y x => countStop x y) (tableFor c 0) := by
  have hn : (earlier.foldl (fun y x => countStop x y) (tableFor c 0)).stopsHandled = t.stopsHandled := by
    rw [foldl_countStop_stopsHandled, h]
    exact Nat.zero_add _
  refine (replay_eq earlier t.stopsHandled (tableFor c 0)).trans ?_
  rw [← hn]

/-- R90: a stop of another class is handled as if that class had been in force from the first stop. -/
theorem handleStop_rebuilds {earlier : List Stop} {t : GroupTable} (st : Stop)
    (h : ¬t.cls.map (fun x => x.1) = c.map fun x => x.1) (hn : t.stopsHandled = earlier.length) :
    handleStop set c earlier st t =
      (earlier ++ [st]).foldl (fun y x => handleStop set c [] x y) (tableFor c 0) := by
  obtain ⟨hcls, hbare⟩ := foldl_handleStop set c earlier (t := tableFor c 0) rfl (tableFor_fits c 0)
  rw [foldl_countStop_bare] at hbare
  rw [handleStop_other _ _ _ _ h, rebuild_eq c hn, List.foldl_append, List.foldl_cons, List.foldl_nil,
    handleStop_same _ _ _ _ (by rw [hcls]), ← recompute_bare, ← countStop_bare, ← hbare, countStop_bare,
    recompute_bare]

end

/-! ### The checks (R94 to R96) -/

section
variable {set : CheckSettings} {t : GroupTable}

theorem everyResolved_iff {x : Nat × ClassEntry} (h : t.cls = some x) :
    everyResolved t = true ↔ ∀ q ∈ t.groups, q.mass ≠ none := by
  simp [everyResolved, h, Option.isSome_iff_ne_none]

theorem everyResolved_none (h : t.cls = none) : everyResolved t = false := by
  rw [everyResolved, h]
  rfl

theorem checkConsistency_unresolved (h : everyResolved t = false) : checkConsistency set t = .notTested := by
  unfold checkConsistency
  split
  · rfl
  · rw [h]
    rfl

/-- The sum of the resolved masses, an unresolved group as 0 (R94). -/
theorem resolvedSum_eq (t : GroupTable) : resolvedSum t =
    (t.groups.map fun q => match q.mass with
      | some (m, _) => m
      | none => 0).sum := by
  refine congrArg List.sum (List.map_congr_left fun q _ => ?_)
  cases q.mass <;> rfl

theorem checkGross_untested (h : t.indication = none) : checkGross set t = .notTested := by
  rw [checkGross, h]
  cases t.cls <;> rfl

theorem checkGross_none (h : t.cls = none) : checkGross set t = .notTested := by
  rw [checkGross, h]

/-- What R95 asks of a pass indication. -/
theorem checkGross_some (hs : 0 < set.interval) {x : Nat × ClassEntry} (hc : t.cls = some x) {i : Int} {n : Nat}
    (hi : t.indication = some (i, n)) : (i ≤ x.2.grossLimit → checkGross set t = .within) ∧
      ((x.2.grossLimit : Int) < i → ∃ y, checkGross set t = .over y ∧ set.interval ∣ y ∧
        i - x.2.grossLimit ≤ y ∧ y < i - x.2.grossLimit + set.interval) := by
  have he : checkGross set t =
      if i ≤ x.2.grossLimit then .within else .over (raiseTo (i - x.2.grossLimit) set.interval) := by
    rw [checkGross, hc, hi]
  rw [he]
  exact ⟨fun h => if_pos h, fun h => ⟨_, if_neg (not_le.mpr h), raiseTo_within _ hs⟩⟩

end

/-! ### One stop (R89) -/

/-- Where one deck alone carries exactly the groups of a run, no other deck offers for it. -/
theorem offerOf_ne {gs : List Group} (ha : RangesApart gs) {st : Stop} {i j : Nat} {f l : Group} {d : DeckId}
    (hij : i ≤ j) (hf : gs[i]? = some f) (hl : gs[j]? = some l) (hone : ∀ c m, Offers st f l c m → c = d)
    (c : DeckId) (m : Int) (hc : c ≠ d) : offerOf gs st.decks[c] ≠ some (i, j, m) :=
  fun ho => hc (hone c m ((offerOf_run ha hf hl hij).mp ho))

/-- Without a class no group result is left: the stop takes its number, and may set the pass indication. -/
theorem handleStop_none (set : CheckSettings) (earlier : List Stop) (st : Stop) {t : GroupTable} (hc : t.cls = none)
    (ht : t.combined = []) : handleStop set none earlier st t =
      ⟨none, [], [], indicationAfter (t.stopsHandled + 1) st t, .notTested, .notTested, false,
        t.stopsHandled + 1⟩ := by
  have hg : classGroups t = [] := by
    rw [classGroups, hc]
  have ho : ∀ o, offerOf [] o = none := by
    rintro (_ | ⟨m, _ | r⟩) <;> rfl
  have hcomb : combinedAfter (classGroups t) (t.stopsHandled + 1) st t.combined = [] := by
    rw [hg, ht]
    exact combinedAfter_none (fun d i j m _ => by rw [ho]; nofun) (fun d i j m => by rw [ho]; nofun) []
  have hcls : (countStop st t).cls = none := (countStop_cls st t).trans hc
  have hv : withVerdicts set (countStop st t) = { countStop st t with groups := [], combined := [] } := by
    have hcg : classGroups (countStop st t) = [] := by
      rw [classGroups, hcls]
    rw [withVerdicts, hcg, countStop_eq, hcomb]
    rfl
  rw [handleStop_same _ _ _ _ (by rw [hc]), recompute_eq, checkConsistency_unresolved (everyResolved_none ?_),
    checkGross_none ?_, everyResolved_none ?_, hv, countStop_eq]
  · simp only [hc]
  all_goals exact hcls

section
variable {set : CheckSettings} {code : Nat} {old : ClassEntry} {st : Stop} {t : GroupTable}

/-- R89: the table after a stop of the class in force. -/
structure StopJudged (set : CheckSettings) (code : Nat) (old : ClassEntry) (st : Stop) (t new : GroupTable) : Prop where
  cls : new.cls = some (code, old)
  stopsHandled : new.stopsHandled = t.stopsHandled + 1
  indication : new.indication = indicationAfter (t.stopsHandled + 1) st t
  groups : new.groups =
    List.zipWith (recomputeGroup set) old.groups (groupsAfter old.groups (t.stopsHandled + 1) st t.groups)
  combined : new.combined =
    (combinedAfter old.groups (t.stopsHandled + 1) st t.combined).map (recomputeCombined set old.groups)
  consistency : new.consistency = checkConsistency set new
  gross : new.gross = checkGross set new
  allResolved : new.allResolved = everyResolved new

theorem handleStop_judged (set : CheckSettings) (e : ClassEntry) (earlier : List Stop) (st : Stop)
    (hc : t.cls = some (code, old)) :
    StopJudged set code old st t (handleStop set (some (code, e)) earlier st t) := by
  have hg : classGroups t = old.groups := by
    rw [classGroups, hc]
  have hcg : classGroups (countStop st t) = old.groups := by
    rw [classGroups, countStop_cls, hc]
  rw [handleStop_same _ _ _ _ (by rw [hc]; rfl), recompute_eq, withVerdicts, hcg, countStop_eq, hg]
  exact ⟨hc, rfl, rfl, rfl, rfl, rfl, rfl, rfl⟩

namespace StopJudged
variable {new : GroupTable} (h : StopJudged set code old st t new)
include h

theorem length (hl : t.groups.length = old.groups.length) : new.groups.length = old.groups.length := by
  rw [h.groups, List.length_zipWith, groupsAfter_length, hl, min_self]

/-- Each group of the class has its result after the stop's decks, and it stands in the table, judged. -/
theorem group {i : Nat} {f : Group} {r : GroupResult} (hf : old.groups[i]? = some f) (hr : t.groups[i]? = some r) :
    ∃ q, (groupsAfter old.groups (t.stopsHandled + 1) st t.groups)[i]? = some q ∧
      new.groups[i]? = some (recomputeGroup set f q) := by
  have hi : i < (groupsAfter old.groups (t.stopsHandled + 1) st t.groups).length := by
    rw [groupsAfter_length]
    exact (List.getElem?_eq_some_iff.mp hr).1
  have hq := List.getElem?_eq_getElem hi
  exact ⟨_, hq, by rw [h.groups, List.getElem?_zipWith, hf, hq]⟩

/-- A combined result that a run has after the stop's decks stands in the table, judged. -/
theorem run {i j : Nat} {c : Combined}
    (hc : (combinedAfter old.groups (t.stopsHandled + 1) st t.combined).find? (ofRun i j) = some c) :
    ∃ x ∈ new.combined, x.first = i ∧ x.last = j ∧ x.mass = c.mass ∧ x.stop = c.stop := by
  obtain ⟨hf, hl⟩ := ofRun_iff.mp (List.find?_some hc)
  refine ⟨recomputeCombined set old.groups c, ?_, hf, hl, rfl, rfl⟩
  rw [h.combined]
  exact List.mem_map_of_mem (List.mem_of_find?_eq_some hc)

/-- Without a union of groups each run keeps the result it has. -/
theorem runs_kept (ha : RangesApart old.groups)
    (hno : ∀ (i j : Nat) (f l : Group) (d : DeckId) (m : Int), i < j → old.groups[i]? = some f →
      old.groups[j]? = some l → ¬Offers st f l d m) :
    new.combined.map (fun c => (c.first, c.last, c.mass, c.stop)) =
      t.combined.map fun c => (c.first, c.last, c.mass, c.stop) := by
  have hkept : combinedAfter old.groups (t.stopsHandled + 1) st t.combined = t.combined := by
    refine combinedAfter_none (fun d i j m hij ho => ?_) (fun d i j m ho => ((offerOf_iff ha).mp ho).1) _
    obtain ⟨-, f, l, hf, hl, ho⟩ := (offerOf_iff ha).mp ho
    exact hno i j f l d m hij hf hl ho
  rw [h.combined, hkept, List.map_map]
  rfl

theorem combined_judged (hs : 0 < set.interval) {c : Combined} (hc : c ∈ new.combined) :
    Judged set c.mass (permittedSum old.groups c.first c.last) c.verdict c.excess := by
  rw [h.combined] at hc
  obtain ⟨x, -, rfl⟩ := List.mem_map.mp hc
  exact massVerdict_judged hs ..

theorem consistency_eq : new.consistency = match new.indication with
    | none => .notTested
    | some (i, _) =>
      let diff := (new.groups.map fun q => match q.mass with
        | some (m, _) => m
        | none => 0).sum - i
      if new.allResolved = false then .notTested
      else if (set.consTol : Int) * (i.natAbs : Int) < (diff.natAbs : Int) * 1000 then .inconsistent diff
      else .consistent diff := by
  rw [h.consistency, checkConsistency, ← h.allResolved, resolvedSum_eq]
  cases new.indication with
  | none => rfl
  | some x => cases new.allResolved <;> rfl

theorem allResolved_iff : new.allResolved = true ↔ ∀ q ∈ new.groups, q.mass ≠ none := by
  rw [h.allResolved, everyResolved_iff h.cls]

end StopJudged

end

/-- Settles O44: the rebuild, a stop without a class, and a stop of the class in force. -/
theorem stopsJudgeGroups : Obligations.StopsJudgeGroups := by
  refine ⟨fun set cls earlier st t hne hn => ?rebuilt, fun set earlier st t hc ht => ?unclassed,
    fun set code e old earlier st t hc hl hstarts hends hs => ?judged⟩
  case rebuilt =>
    refine (handleStop_rebuilds set cls st hne hn).trans ?_
    cases cls <;> rfl
  case unclassed =>
    refine (handleStop_none set earlier st hc ht).trans ?_
    unfold indicationAfter
    cases st.whole <;> rfl
  case judged =>
    intro new n offers alone judged
    have h : StopJudged set code old st t new := handleStop_judged set e earlier st hc
    clear_value new
    have hapart : RangesApart old.groups := ⟨hstarts, hends⟩
    refine ⟨h.cls.trans hc.symm, h.stopsHandled, ?indication, h.length hl, fun i f r hf hr => ?group,
      fun c hcm => h.combined_judged hs hcm, fun hno => h.runs_kept hapart hno, fun i j f l d m hij hf hl ho ha =>
        ⟨fun habs => ?new, fun had hm hfirst hlast horder => ?had⟩, h.allResolved_iff, ?consistency, ?gross⟩
    case indication =>
      refine h.indication.trans ?_
      unfold indicationAfter
      cases st.whole <;> rfl
    case group =>
      obtain ⟨q, hq, hnew⟩ := h.group hf hr
      have hm := recomputeGroup_mass set f q
      refine ⟨_, hnew, fun hno => hm.trans ?_, fun d m ho ha => hm.trans ?_,
        fun hnone => recomputeGroup_unresolved set f q (hm.symm.trans hnone),
        fun m at_ hsome => recomputeGroup_judged set f q hs (hm.symm.trans hsome)⟩
      · have hkept := groupsAfter_none (n := n)
          (fun d m ho => hno d m ((offerOf_run hapart hf hf le_rfl).mp ho)) t.groups
        rw [hq, hr] at hkept
        rw [Option.some.inj hkept]
      · have hoffered := groupsAfter_one (n := n) ((offerOf_run hapart hf hf le_rfl).mpr ho)
          (offerOf_ne hapart le_rfl hf hf ha) t.groups
        rw [hq, hr] at hoffered
        rw [Option.some.inj hoffered]
        refine (offerGroup_mass ..).trans ?_
        cases r.mass <;> rfl
    case new =>
      refine h.run (combinedAfter_new hij ((offerOf_run hapart hf hl hij.le).mpr ho)
        (offerOf_ne hapart hij.le hf hl ha) ?_)
      exact List.find?_eq_none.mpr fun c hcm hrun => habs c hcm (ofRun_iff.mp hrun)
    case had =>
      have hsorted : t.combined.Pairwise RunBefore :=
        (List.pairwise_map (f := fun c : Combined => (c.first, c.last))).mp horder
      have hfind := find?_ofRun_of_mem hsorted hm
      rw [hfirst, hlast] at hfind
      obtain ⟨c, hcm, hcf, hcl, hmass, hstop⟩ := h.run (combinedAfter_had hij
        ((offerOf_run hapart hf hl hij.le).mpr ho) (offerOf_ne hapart hij.le hf hl ha) hsorted hfind)
      refine ⟨c, hcm, hcf, hcl, ?_⟩
      rw [hmass, hstop]
      split <;> rfl
    case consistency =>
      refine h.consistency_eq.trans ?_
      cases new.indication <;> rfl
    case gross =>
      rw [h.gross]
      cases hi : new.indication with
      | none => exact checkGross_untested hi
      | some x => exact checkGross_some hs h.cls hi

end Sys2Proof.Machine

/-!
Class entries and their writes: SET_CLASS and DELETE_CLASS (R83 to R85, O23).
-/

namespace Sys2Proof.Machine

/-! ### The groups of a body (R83) -/

/-- A group with as many axles as its kind, and a permitted mass in its range. -/
def GroupFits (g : GroupBody) : Prop :=
  500 ≤ g.permitted ∧ g.permitted ≤ 60000 ∧
    ((g.kind = some .single ∧ g.axles = 1) ∨ (g.kind = some .tandem ∧ g.axles = 2) ∨
      (g.kind = some .triaxle ∧ g.axles = 3) ∨ (g.kind = some .quad ∧ g.axles = 4))

/-- A group starts at the axle after the group before it. -/
def Follows (f g : GroupBody) : Prop := g.firstAxle = f.firstAxle + f.axles

theorem groupFits_iff (g : GroupBody) : GroupFits g ↔
    ∃ k, g.kind = some k ∧ g.axles = kindAxles k ∧ 500 ≤ g.permitted ∧ g.permitted ≤ 60000 := by
  unfold GroupFits
  constructor
  · rintro ⟨hlo, hhi, ⟨hk, ha⟩ | ⟨hk, ha⟩ | ⟨hk, ha⟩ | ⟨hk, ha⟩⟩ <;> exact ⟨_, hk, ha, hlo, hhi⟩
  · rintro ⟨k, hk, ha, hlo, hhi⟩
    refine ⟨hlo, hhi, ?_⟩
    cases k <;> simp [hk, ha, kindAxles]

/-- The groups taken hold what the body carries. -/
def SameGroups (gs : List Group) (l : List GroupBody) : Prop :=
  gs.map (fun g => (g.firstAxle, g.axles, some g.kind, g.permitted)) =
    l.map fun g => (g.firstAxle, g.axles, g.kind, g.permitted)

/-- A body with a group more. -/
theorem groupsFrom_cons {a : Nat} {g : GroupBody} {l : List GroupBody} {gs : List Group} {next : Nat} :
    groupsFrom a (g :: l) = some (gs, next) ↔ g.firstAxle = a ∧ GroupFits g ∧
      ∃ k rest, g.kind = some k ∧ groupsFrom (a + g.axles) l = some (rest, next) ∧
        gs = ⟨g.firstAxle, g.axles, k, g.permitted⟩ :: rest := by
  rw [groupFits_iff, groupsFrom]
  cases hk : g.kind with
  | none => simp
  | some k =>
    dsimp only
    split
    · next h =>
      obtain ⟨hfirst, hfit⟩ := h
      rw [Option.map_eq_some_iff]
      constructor
      · rintro ⟨⟨rest, x⟩, hrest, heq⟩
        simp only [Prod.mk.injEq] at heq
        obtain ⟨rfl, rfl⟩ := heq
        exact ⟨hfirst, ⟨k, rfl, hfit⟩, k, rest, rfl, hrest, rfl⟩
      · rintro ⟨-, -, k', rest, hk', hrest, rfl⟩
        cases hk'
        exact ⟨(rest, next), hrest, rfl⟩
    · next h =>
      refine ⟨nofun, ?_⟩
      rintro ⟨hfirst, ⟨k', hk', hfit⟩, -⟩
      cases hk'
      exact absurd ⟨hfirst, hfit⟩ h

/-- The groups that are taken: each fits, the first starts at axle `a`, and each later one follows the one before. -/
theorem groupsFrom_isSome (l : List GroupBody) (a : Nat) : (groupsFrom a l).isSome = true ↔
    (∀ g ∈ l, GroupFits g) ∧ (∀ g, l.head? = some g → g.firstAxle = a) ∧ l.IsChain Follows := by
  induction l generalizing a with
  | nil => simp [groupsFrom]
  | cons g l ih =>
    have hcons : (groupsFrom a (g :: l)).isSome = true ↔
        g.firstAxle = a ∧ GroupFits g ∧ (groupsFrom (a + g.axles) l).isSome = true := by
      simp only [Option.isSome_iff_exists, Prod.exists, groupsFrom_cons]
      constructor
      · rintro ⟨-, next, ha, hg, k, rest, -, hrest, -⟩
        exact ⟨ha, hg, rest, next, hrest⟩
      · rintro ⟨ha, hg, rest, next, hrest⟩
        obtain ⟨k, hk, -⟩ := (groupFits_iff g).mp hg
        exact ⟨_, next, ha, hg, k, rest, hk, hrest, rfl⟩
    rw [hcons, ih, List.isChain_cons]
    simp only [List.forall_mem_cons, List.head?_cons, Option.some.injEq, forall_eq', Follows, Option.mem_def]
    constructor
    · rintro ⟨rfl, hg, hl, hhead, hchain⟩
      exact ⟨⟨hg, hl⟩, rfl, hhead, hchain⟩
    · rintro ⟨⟨hg, hl⟩, rfl, hhead, hchain⟩
      exact ⟨rfl, hg, hl, hhead, hchain⟩

/-- The groups taken are those carried, and the next axle is the one after the last group. -/
theorem groupsFrom_some {l : List GroupBody} {a next : Nat} {gs : List Group} (h : groupsFrom a l = some (gs, next)) :
    SameGroups gs l ∧ ∀ g, l.getLast? = some g → next = g.firstAxle + g.axles := by
  induction l generalizing a gs with
  | nil =>
    cases h
    exact ⟨rfl, nofun⟩
  | cons g l ih =>
    obtain ⟨rfl, -, k, rest, hk, hrest, rfl⟩ := groupsFrom_cons.mp h
    obtain ⟨hsame, hnext⟩ := ih hrest
    refine ⟨?_, fun x hx => ?_⟩
    · unfold SameGroups at hsame ⊢
      rw [List.map_cons, List.map_cons, hsame, hk]
    · cases l with
      | nil =>
        cases hrest
        cases hx
        rfl
      | cons b l => exact hnext x (by rwa [List.getLast?_cons_cons] at hx)

/-! ### The entry of a body (R83) -/

/-- What R83 asks of the fields of an entry beside its groups. -/
def FieldsInRange (b : ClassBody) : Prop :=
  1 ≤ b.name.length ∧ b.name.length ≤ 16 ∧ (∀ c ∈ b.name, 0x20 ≤ c.toNat ∧ c.toNat ≤ 0x7E) ∧
    2 ≤ b.axleCount ∧ b.axleCount ≤ 12 ∧ 1 ≤ b.groups.length ∧ b.groups.length ≤ 6 ∧
    1000 ≤ b.grossLimit ∧ b.grossLimit ≤ 160000

/-- The entry taken holds what the body carries, its fields in range and its groups covering the axles exactly. -/
theorem classEntryOf_some {b : ClassBody} {e : ClassEntry} : classEntryOf b = some e ↔
    FieldsInRange b ∧ ∃ gs, groupsFrom 1 b.groups = some (gs, b.axleCount + 1) ∧
      e = ⟨b.name, b.axleCount, gs, b.grossLimit⟩ := by
  have htext : textOk b.name = true ↔ ∀ c ∈ b.name, 0x20 ≤ c.toNat ∧ c.toNat ≤ 0x7E := by
    simp only [textOk, List.all_eq_true, decide_eq_true_eq]
  unfold classEntryOf FieldsInRange
  rw [← htext]
  split
  · next h =>
    obtain ⟨ht, hlo, hhi, hax, hax', hg, hg', hm, hm'⟩ := h
    rw [and_iff_right ⟨hlo, hhi, ht, hax, hax', hg, hg', hm, hm'⟩]
    cases groupsFrom 1 b.groups with
    | none => simp
    | some r =>
      obtain ⟨gs, next⟩ := r
      dsimp only
      split
      · next hn =>
        subst hn
        simp [eq_comm]
      · next hn => simp [hn]
  · next h =>
    refine ⟨nofun, ?_⟩
    rintro ⟨⟨hlo, hhi, ht, hax, hax', hg, hg', hm, hm'⟩, -⟩
    exact absurd ⟨ht, hlo, hhi, hax, hax', hg, hg', hm, hm'⟩ h

/-- The bodies taken are exactly those of R83. -/
theorem classEntryOf_isSome (b : ClassBody) : (classEntryOf b).isSome = true ↔
    FieldsInRange b ∧ (∀ g ∈ b.groups, GroupFits g) ∧ (∀ g, b.groups.head? = some g → g.firstAxle = 1) ∧
      b.groups.IsChain Follows ∧ ∀ g, b.groups.getLast? = some g → g.firstAxle + g.axles - 1 = b.axleCount := by
  have hsome : (classEntryOf b).isSome = true ↔
      FieldsInRange b ∧ ∃ gs, groupsFrom 1 b.groups = some (gs, b.axleCount + 1) := by
    simp only [Option.isSome_iff_exists, classEntryOf_some]
    exact ⟨fun ⟨_, hf, gs, hgs, _⟩ => ⟨hf, gs, hgs⟩, fun ⟨hf, gs, hgs⟩ => ⟨_, hf, gs, hgs, rfl⟩⟩
  rw [hsome]
  refine and_congr_right fun hf => ?_
  obtain ⟨-, -, -, hax, -, hlen, -⟩ := hf
  constructor
  · rintro ⟨gs, hgs⟩
    obtain ⟨hfit, hhead, hchain⟩ := (groupsFrom_isSome _ _).mp (Option.isSome_of_eq_some hgs)
    refine ⟨hfit, hhead, hchain, fun g hg => ?_⟩
    have hnext := (groupsFrom_some hgs).2 g hg
    omega
  · rintro ⟨hfit, hhead, hchain, hlast⟩
    obtain ⟨⟨gs, next⟩, hgs⟩ := Option.isSome_iff_exists.mp ((groupsFrom_isSome _ _).mpr ⟨hfit, hhead, hchain⟩)
    have hg := List.getLast?_eq_some_getLast (List.ne_nil_of_length_pos hlen)
    have hnext := (groupsFrom_some hgs).2 _ hg
    have hcover := hlast _ hg
    obtain rfl : next = b.axleCount + 1 := by omega
    exact ⟨gs, hgs⟩

/-! ### The class table (R84, R85) -/

theorem putClass_succ (i : Fin 32) (e : Option ClassEntry) (k : AxleCheck) :
    putClass (i.val + 1) e k = { k with classes := k.classes.set i e } := by
  have h : (vgen fun j : Fin 32 => if j.val + 1 = i.val + 1 then e else k.classes[j]) = k.classes.set i e := by
    refine Vector.ext fun j hj => ?_
    rw [vgen_getElem, Vector.getElem_set]
    simp only [Nat.add_right_cancel_iff, eq_comm]
    rfl
  rw [putClass, h]

theorem classCodeOk_succ (i : Fin 32) : classCodeOk (i.val + 1) = true := by
  simp only [classCodeOk, decide_eq_true_eq]
  omega

theorem classCodeOk_outside {n : Nat} (hn : n = 0 ∨ 32 < n) : classCodeOk n = false := by
  simp only [classCodeOk, decide_eq_false_iff_not]
  omega

/-- A visit OPEN or FIRST_DONE names the class. -/
abbrev ClassNamed (s : State) (code : Nat) : Prop :=
  ∃ v ∈ s.visit.visits, (v.state = .opened ∨ v.state = .firstDone) ∧ v.cls = some code

theorem classInUse_iff (s : State) (code : Nat) : classInUse s.visit code = true ↔ ClassNamed s code := by
  simp only [classInUse, ClassNamed, List.any_eq_true, decide_eq_true_eq]

section
variable {h : Header} {s : State} {b : ClassBody} {i : Fin 32}

/-- A body that R83 allows fills or replaces its place, unless the place is occupied and its class in use. -/
theorem ownSetClass_entry {e : ClassEntry} (he : classEntryOf b = some e) : ownSetClass (i.val + 1) b s =
    if s.check.classes[i] ≠ none ∧ ClassNamed s (i.val + 1) then (s, ⟨.classInUse, .none⟩)
    else (s.setCheck fun k => { k with classes := k.classes.set i (some e) },
      ⟨.accepted, .classWritten s.check.classes[i].isSome⟩) := by
  unfold ownSetClass
  rw [classCodeOk_succ, he]
  simp only [classAt_succ, classInUse_iff, Option.isSome_iff_ne_none, ← putClass_succ]
  rfl

theorem setClass_refused (hp : Passes (withTexts h [b.name]) .setClass s) {n : Nat}
    (hn : n = 0 ∨ 32 < n ∨ classEntryOf b = none) :
    exec (.setClass h n b) s = .next ((s.received h).refusedWith h 0x29#8 .badField .none) := by
  refine request_refused hp (t := s.received h) ?_ rfl
  unfold ownSetClass
  rcases or_assoc.mpr hn with hn | hn
  · rw [classCodeOk_outside hn]
    rfl
  · rw [hn]
    cases classCodeOk n <;> rfl

theorem setClass_eq (hp : Passes (withTexts h [b.name]) .setClass s) {e : ClassEntry} (he : classEntryOf b = some e) :
    (s.check.classes[i] = none ∨ ¬ClassNamed s (i.val + 1) → exec (.setClass h (i.val + 1) b) s =
      .next (((s.received h).setCheck fun k => { k with classes := k.classes.set i (some e) }).sent h 0x29#8
        .accepted (.classWritten s.check.classes[i].isSome))) ∧
    (s.check.classes[i] ≠ none → ClassNamed s (i.val + 1) → exec (.setClass h (i.val + 1) b) s =
      .next ((s.received h).refusedWith h 0x29#8 .classInUse .none)) := by
  have ho := ownSetClass_entry (s := s.received h) (i := i) he
  simp only [ClassNamed, received_check, received_visit] at ho
  refine ⟨fun hfree => ?_, fun hocc hused => ?_⟩
  · rw [if_neg fun hx => hfree.elim hx.1 fun hf => hf hx.2] at ho
    exact request_sent hp ho rfl
  · rw [if_pos ⟨hocc, hused⟩] at ho
    exact request_refused hp ho rfl

/-- DELETE_CLASS tests that the place is occupied, then that its class is not in use. -/
theorem ownDeleteClass_succ : ownDeleteClass (i.val + 1) s =
    if s.check.classes[i] = none then (s, ⟨.notFound, .none⟩)
    else if ClassNamed s (i.val + 1) then (s, ⟨.classInUse, .none⟩)
    else (s.setCheck fun k => { k with classes := k.classes.set i none }, ⟨.accepted, .none⟩) := by
  unfold ownDeleteClass
  rw [classCodeOk_succ]
  simp only [classAt_succ, classInUse_iff, Option.isNone_iff_eq_none, ← putClass_succ]
  rfl

theorem deleteClass_eq (hp : Passes h .deleteClass s) :
    (s.check.classes[i] = none → exec (.deleteClass h (i.val + 1)) s =
      .next ((s.received h).refusedWith h 0x2A#8 .notFound .none)) ∧
    (s.check.classes[i] ≠ none → ClassNamed s (i.val + 1) → exec (.deleteClass h (i.val + 1)) s =
      .next ((s.received h).refusedWith h 0x2A#8 .classInUse .none)) ∧
    (s.check.classes[i] ≠ none → ¬ClassNamed s (i.val + 1) → exec (.deleteClass h (i.val + 1)) s =
      .next (((s.received h).setCheck fun k => { k with classes := k.classes.set i none }).sent h 0x2A#8
        .accepted .none)) := by
  have ho := ownDeleteClass_succ (s := s.received h) (i := i)
  simp only [ClassNamed, received_check, received_visit] at ho
  refine ⟨fun hnone => ?_, fun hocc hused => ?_, fun hocc hfree => ?_⟩
  · rw [if_pos hnone] at ho
    exact request_refused hp ho rfl
  · rw [if_neg hocc, if_pos hused] at ho
    exact request_refused hp ho rfl
  · rw [if_neg hocc, if_neg hfree] at ho
    exact request_sent hp ho rfl

end

/-- Settles O23: the two writes, what the entry holds, and the bodies that are taken. -/
theorem classEntriesAndWrites : Obligations.ClassEntriesAndWrites := by
  refine ⟨fun i s => ⟨fun h b e hp he => setClass_eq hp he, fun h n b hp hn => setClass_refused hp hn,
    fun h hp => deleteClass_eq hp⟩, fun b e he => ?holds, fun b => (classEntryOf_isSome b).trans ?taken⟩
  case holds =>
    obtain ⟨-, gs, hgs, rfl⟩ := classEntryOf_some.mp he
    exact ⟨rfl, rfl, rfl, (groupsFrom_some hgs).1⟩
  case taken =>
    have hchain : b.groups.IsChain Follows ↔ ∀ (k : Nat) (f g : GroupBody), b.groups[k]? = some f →
        b.groups[k + 1]? = some g → g.firstAxle = f.firstAxle + f.axles := by
      rw [List.isChain_iff_getElem]
      constructor
      · intro h k f g hf hg
        obtain ⟨hk, rfl⟩ := List.getElem?_eq_some_iff.mp hf
        obtain ⟨hk', rfl⟩ := List.getElem?_eq_some_iff.mp hg
        exact h k hk'
      · exact fun h k hk => h k _ _ (List.getElem?_eq_getElem (by omega)) (List.getElem?_eq_getElem hk)
    rw [hchain]
    simp only [FieldsInRange, GroupFits, and_assoc]

end Sys2Proof.Machine
